-- ==== Sys2Proof/Word.lean ====
section
/-! DEFINITION. The word types of the part: bytes on the control ports, 24-bit samples, 32-bit link slots. -/

namespace Sys2Proof

/-- A byte on MOSI or MISO, or of a descriptor (R192, R6). -/
abbrev Byte := BitVec 8

/-- A sample value: 24-bit two's complement (00_scope.md, section 5.1). -/
abbrev Sample := BitVec 24

/-- One 32-bit field of a link frame (R1). -/
abbrev Slot := BitVec 32

/-- A reading of the millisecond timer, which wraps (R36, R184). -/
abbrev Millis := BitVec 32

end Sys2Proof
end

