-- ==== Sys2Proof/Syntax.lean ====
section
/-! DEFINITION. The commands of the block: one constructor per row of spec/opcode_table.json. A request row carries the
port it came on, its tag and its payload bytes as they arrived; an event row names its object and carries what was
measured or sampled outside the part (log 7, 8). -/

namespace Sys2Proof

/-- The two control ports (R192). -/
inductive Port where
  | cpa
  | cpb
  deriving DecidableEq, Repr

/-- Links by index: 0 to 7 are IL0 to IL7, 8 is TL (R11). -/
abbrev LinkId := Fin 9
/-- Source entries S0 to S15 (R25). -/
abbrev SrcId := Fin 16
/-- Zones by index: 0 MAIN, 1 ZONE2, 2 ZONE3 (R65). -/
abbrev ZoneId := Fin 3
/-- Decode units DU0 and DU1 (R38). -/
abbrev UnitId := Fin 2
/-- Modulator channels M0 to M11 (R119). -/
abbrev Chan := Fin 12
/-- Pairs P0 to P5 (R136). -/
abbrev PairId := Fin 6
/-- Encoders E0 and E1 (R184). -/
abbrev EncId := Fin 2
/-- Positions in position order: 0 FL, 1 FR, 2 C, 3 SUB, 4 SL, 5 SR, 6 BL, 7 BR (00_scope.md, section 5.3). -/
abbrev Pos := Fin 8

/-- One link frame as the receiver's lines give it (R1): the DATA bits sampled at the BCK rising edges between two FS
rising edges, how many BCK rising edges FS stayed high, and the reference ticks between the two FS edges. -/
structure LinkFrame where
  data : List Bool
  fsHigh : Nat
  ticks : Nat
  deriving DecidableEq, Repr

/-- The input levels that a power-on reset finds as they stand at its release (R191, R203, log 8). -/
structure Pins where
  csLowA : Bool
  csLowB : Bool
  flt : Vector Bool 6
  pilot : Bool
  lvl : Bool
  enc0 : Bool × Bool
  enc1 : Bool × Bool
  deriving DecidableEq, Repr

/-- The input levels that `State.reset` finds: nothing selected, nothing asserted, all lines low (log 8). -/
def Pins.quiet : Pins :=
  { csLowA := false, csLowB := false, flt := #v[false, false, false, false, false, false], pilot := false, lvl := false,
    enc0 := (false, false), enc1 := (false, false) }

/-- The commands, in the order of spec/opcode_table.json. -/
inductive Instr where
  /-- POLL (R192: A one-byte transaction that reads the port's status byte without disturbing the response slot.) -/
  | poll (p : Port)
  /-- FETCH (R197: Shifts out the response record (or the NONE record) after the status byte, and empties the slot when the whole record is clocked out.) `n` bytes are clocked after byte 0. -/
  | fetch (p : Port) (n : Nat)
  /-- READ_EVENTS (R200: Reads and clears the port's whole flag copy and places the eight-byte report in the slot.) -/
  | readEvents (p : Port) (tag : Byte) (payload : List Byte)
  /-- SET_EVENT_MASK (R201: Replaces the port's mask set and re-evaluates its attention line.) -/
  | setEventMask (p : Port) (tag : Byte) (payload : List Byte)
  /-- GET_EVENT_MASK (R201: Returns the port's mask set in seven bytes.) -/
  | getEventMask (p : Port) (tag : Byte) (payload : List Byte)
  /-- DEVICE_RESET (R204: Carries out a soft reset of every block, discards the other port's transaction, empties both slots, sets RESET in both copies and answers OK.) -/
  | deviceReset (p : Port) (tag : Byte) (payload : List Byte)
  /-- UNKNOWN_COMMAND (R194: A well-formed request whose command code is not in the command table is answered UNKNOWN with the request's tag.) `code` is byte 0. -/
  | unknownCommand (p : Port) (code : Byte) (tag : Byte) (payload : List Byte)
  /-- MALFORMED_TRANSACTION (R195: A transaction that ends malformed is discarded and sets FRAMING, changing nothing else.) `mosi` are the whole bytes received, `bits` the bits of a partial byte after them (0 to 7). -/
  | malformedTransaction (p : Port) (mosi : List Byte) (bits : Nat)
  /-- POWER_ON_RESET (R203: Power-up or RESET held low resets every block and both ports, and at release clears the flag copies and sets RESET in both.) `pins` are the input levels as they stand at the release of RESET. -/
  | powerOnReset (pins : Pins)
  /-- ENABLE_LINK (R11: Moves a DISABLED link to DETECT.QUIET and records the enable setting.) -/
  | enableLink (p : Port) (tag : Byte) (payload : List Byte)
  /-- DISABLE_LINK (R11: Stops a link, discards its rate, descriptor, hold registers and blocks, and enters DISABLED.) -/
  | disableLink (p : Port) (tag : Byte) (payload : List Byte)
  /-- SET_LINK_OPTIONS (R21: Sets a link's loss window to 1 to 32 ms, clamping out-of-range values.) -/
  | setLinkOptions (p : Port) (tag : Byte) (payload : List Byte)
  /-- GET_LINK_STATUS (R22: Returns the link's present record.) -/
  | getLinkStatus (p : Port) (tag : Byte) (payload : List Byte)
  /-- GET_LINK_COUNTERS (R20: Returns the four running totals and the four last-second snapshots of a link.) -/
  | getLinkCounters (p : Port) (tag : Byte) (payload : List Byte)
  /-- CLEAR_COUNTERS (R20: Sets a link's four running totals to zero.) -/
  | clearCounters (p : Port) (tag : Byte) (payload : List Byte)
  /-- SET_SOURCE (R26: Checks a source entry and writes it whole, clamping trim and lip-sync.) -/
  | setSource (p : Port) (tag : Byte) (payload : List Byte)
  /-- GET_SOURCE (R28: Returns the six fields of a source entry.) -/
  | getSource (p : Port) (tag : Byte) (payload : List Byte)
  /-- GET_ACTIVITY (R36: Returns an activity monitor's record together with the millisecond timer.) -/
  | getActivity (p : Port) (tag : Byte) (payload : List Byte)
  /-- GET_DECODE_STATUS (R56: Returns both decode unit records and the wait list.) -/
  | getDecodeStatus (p : Port) (tag : Byte) (payload : List Byte)
  /-- POWER_ON (R60: Powers a zone on according to its power state: binds and enters STARTING from STANDBY, returns to ON from RAMP_DOWN, or sets restart-pending in DRAIN.) -/
  | powerOn (p : Port) (tag : Byte) (payload : List Byte)
  /-- POWER_OFF (R62: Powers a zone off according to its power state: enters RAMP_DOWN from ON, releases at once from STARTING, or clears restart-pending in DRAIN.) -/
  | powerOff (p : Port) (tag : Byte) (payload : List Byte)
  /-- SELECT_SOURCE (R69: Stores a zone's selected source, ending any running tone first, and acts as a rebind cause while the zone is bound.) -/
  | selectSource (p : Port) (tag : Byte) (payload : List Byte)
  /-- SET_VOLUME (R77: Sets a zone's volume target qv, clamped to −160 to +24.) -/
  | setVolume (p : Port) (tag : Byte) (payload : List Byte)
  /-- STEP_VOLUME (R77: Adds n to a zone's qv and clamps the sum to −160 to +24.) -/
  | stepVolume (p : Port) (tag : Byte) (payload : List Byte)
  /-- SET_MUTE (R77: Sets or clears the USER mute reason of a zone.) -/
  | setMute (p : Port) (tag : Byte) (payload : List Byte)
  /-- SET_ZONE_OPTIONS (R83: Replaces a zone's surround mode, night mode, clock mode, ramp interval and auto-standby setting.) -/
  | setZoneOptions (p : Port) (tag : Byte) (payload : List Byte)
  /-- GET_ZONE_STATUS (R85: Returns the zone record with its derived fields and the tone sequencer report.) -/
  | getZoneStatus (p : Port) (tag : Byte) (payload : List Byte)
  /-- CLEAR_ZONE_COUNTERS (R85: Sets a zone's REPEAT, SKIP and clip counts to zero.) -/
  | clearZoneCounters (p : Port) (tag : Byte) (payload : List Byte)
  /-- GET_MIX_MATRIX (R106: Returns a zone's active coefficient set.) -/
  | getMixMatrix (p : Port) (tag : Byte) (payload : List Byte)
  /-- GET_DELAY_STATUS (R117: Returns the lip-sync allocator state and the speaker delays in force.) -/
  | getDelayStatus (p : Port) (tag : Byte) (payload : List Byte)
  /-- SET_SPEAKER (R120: Checks a speaker entry against the table laws and writes it whole.) -/
  | setSpeaker (p : Port) (tag : Byte) (payload : List Byte)
  /-- GET_SPEAKER (R122: Returns a channel's speaker entry and its role.) -/
  | getSpeaker (p : Port) (tag : Byte) (payload : List Byte)
  /-- SET_MODULATOR (R123: Sets a STANDBY zone's modulator resolution W and minimum pulse m.) -/
  | setModulator (p : Port) (tag : Byte) (payload : List Byte)
  /-- GET_MODULATOR (R132: Returns a zone's W and m.) -/
  | getModulator (p : Port) (tag : Byte) (payload : List Byte)
  /-- GET_OUTPUT_STATUS (R132: Returns the output stage state of every zone and channel.) -/
  | getOutputStatus (p : Port) (tag : Byte) (payload : List Byte)
  /-- SET_PROTECTION (R145: Sets a pair's DC time and retry limit, clamping both.) -/
  | setProtection (p : Port) (tag : Byte) (payload : List Byte)
  /-- GET_PROTECTION (R145: Returns a pair's DC time and retry limit.) -/
  | getProtection (p : Port) (tag : Byte) (payload : List Byte)
  /-- CLEAR_PROTECTION (R143: Probes a LATCHED pair; in any other state it changes nothing.) -/
  | clearProtection (p : Port) (tag : Byte) (payload : List Byte)
  /-- GET_PROTECTION_STATUS (R146: Returns the protection record of every pair.) `flt` are the FLT levels as they stand (true: asserted). -/
  | getProtectionStatus (p : Port) (tag : Byte) (payload : List Byte) (flt : Vector Bool 6)
  /-- TONE_START (R150: Starts or restarts a zone's test tone sequencer on the first speaker in stepping order and sets TONE.) -/
  | toneStart (p : Port) (tag : Byte) (payload : List Byte)
  /-- TONE_NEXT (R154: Steps a running tone to the next speaker.) -/
  | toneNext (p : Port) (tag : Byte) (payload : List Byte)
  /-- TONE_STOP (R155: Ends a running test tone.) -/
  | toneStop (p : Port) (tag : Byte) (payload : List Byte)
  /-- SET_BAND (R160: Replaces a band's step region, level threshold and stereo-only setting.) -/
  | setBand (p : Port) (tag : Byte) (payload : List Byte)
  /-- GET_BAND_TABLE (R181: Returns both band records and the number of points in each calibration table.) -/
  | getBandTable (p : Port) (tag : Byte) (payload : List Byte)
  /-- LOAD_CALIBRATION (R161: Replaces a band's calibration table, moving an OFF tuner to UNLOCKED when the table loaded is that of the current band.) -/
  | loadCalibration (p : Port) (tag : Byte) (payload : List Byte)
  /-- GET_CALIBRATION (R181: Returns a band's calibration points.) -/
  | getCalibration (p : Port) (tag : Byte) (payload : List Byte)
  /-- TUNE (R164: Tunes a clamped and rounded frequency, writes its coarse DAC value and starts an acquisition.) -/
  | tune (p : Port) (tag : Byte) (payload : List Byte)
  /-- SEEK (R172: Starts a search of the current band for the next station up or down.) -/
  | seek (p : Port) (tag : Byte) (payload : List Byte)
  /-- SCAN (R173: Starts a scan of the current band that appends found stations to the preset list.) -/
  | scan (p : Port) (tag : Byte) (payload : List Byte)
  /-- GET_TUNER_STATUS (R181: Returns the tuner record with its completion list.) `pilot` is the PILOT level as it stands. -/
  | getTunerStatus (p : Port) (tag : Byte) (payload : List Byte) (pilot : Bool)
  /-- STORE_PRESET (R178: Stores the locked station at a preset index.) -/
  | storePreset (p : Port) (tag : Byte) (payload : List Byte)
  /-- RECALL_PRESET (R179: Tunes a stored preset as a TUNE with operation RECALL.) -/
  | recallPreset (p : Port) (tag : Byte) (payload : List Byte)
  /-- ERASE_PRESET (R179: Removes a preset entry and closes the gap.) -/
  | erasePreset (p : Port) (tag : Byte) (payload : List Byte)
  /-- LOAD_PRESETS (R180: Replaces the whole preset list.) -/
  | loadPresets (p : Port) (tag : Byte) (payload : List Byte)
  /-- GET_PRESETS (R180: Returns the preset count and entries.) -/
  | getPresets (p : Port) (tag : Byte) (payload : List Byte)
  /-- SET_BINDING (R188: Replaces an encoder's binding and resets its quarter count and last detent.) -/
  | setBinding (p : Port) (tag : Byte) (payload : List Byte)
  /-- GET_ENCODER_STATUS (R188: Returns an encoder's record together with the millisecond timer.) -/
  | getEncoderStatus (p : Port) (tag : Byte) (payload : List Byte)
  /-- LINK_FRAME (R1: A link frame ends at an FS rising edge and is assembled into slots and classified, and the link acts on it according to its state.) -/
  | linkFrame (l : LinkId) (f : LinkFrame)
  /-- DETECT_COUNT_REACHED (R12: The 16th FS edge in DETECT.ACTIVE moves the link to MEASURE.COUNTING.) -/
  | detectCountReached (l : LinkId)
  /-- RATE_MEASUREMENT (R13: At the 64th edge of a measurement the link compares T with the nominal values and enters ALIGN or MEASURE.UNRECOGNISED.) `ticks` is T, `allWellFormed` whether every frame of the 64 was well formed. -/
  | rateMeasurement (l : LinkId) (ticks : Nat) (allWellFormed : Bool)
  /-- BLOCK_END (R6: At the last frame of a block the descriptor is evaluated, the sequence number compared and the block released, aligned or recovered according to the link state.) -/
  | blockEnd (l : LinkId) (f : LinkFrame)
  /-- DESCRIPTOR_ERROR_RUN (R15: A third consecutive descriptor error in LOCKED sends the link to RECOVER.SEEK_BLOCK.) -/
  | descriptorErrorRun (l : LinkId) (f : LinkFrame)
  /-- ALIGNMENT_TIMER_EXPIRY (R14: Expiry of the 100 ms alignment timer returns the link to MEASURE.COUNTING.) -/
  | alignmentTimerExpiry (l : LinkId)
  /-- RECOVERY_TIMER_EXPIRY (R16: Expiry of the 50 ms recovery timer sends the link to MEASURE.COUNTING and discards its last good descriptor.) -/
  | recoveryTimerExpiry (l : LinkId)
  /-- LOSS_OF_SIGNAL (R17: Expiry of the loss window without an FS edge sends the link to DETECT.QUIET.) -/
  | lossOfSignal (l : LinkId)
  /-- COUNTER_SNAPSHOT (R19: At each whole second every current-second count moves into its snapshot and returns to zero.) -/
  | counterSnapshot
  /-- MONITOR_ACTIVE (R32: A loud-block run reaching 8 moves the monitor to ACTIVE and starts its quiet timer.) -/
  | monitorActive (l : LinkId)
  /-- QUIET_TIMER_EXPIRY (R33: Expiry of the quiet timer moves the monitor to SILENT and records the quiet-since time.) -/
  | quietTimerExpiry (l : LinkId)
  /-- START_TIMER_EXPIRY (R61: Expiry of the 150 ms start timer moves the zone to ON with drive mode AUDIO.) -/
  | startTimerExpiry (z : ZoneId)
  /-- DRAIN_TIMER_EXPIRY (R64: Expiry of the 50 ms drain timer moves the zone to STANDBY, restarting it when restart-pending is set.) -/
  | drainTimerExpiry (z : ZoneId)
  /-- RAMP_STEP (R75: When the ramp frame count reaches the ramp interval, qr takes one step toward the effective target.) -/
  | rampStep (z : ZoneId)
  /-- BUFFER_FILLED (R67: A write that brings the buffer to 64 frames ends FILLING or refilling and starts reading.) `samples` is the frame written, in position order. -/
  | bufferFilled (z : ZoneId) (samples : Vector Sample 8)
  /-- ZONE_OUTPUT_FRAME (R97: For each zone output frame the zone reads its buffer and forms mix values, gain outputs, delayed samples and duty counts.) -/
  | zoneOutputFrame (z : ZoneId)
  /-- AUTO_STANDBY_EXPIRY (R82: Expiry of the auto-standby countdown acts as a POWER_OFF with origin AUTO and sets SIGNAL.) -/
  | autoStandbyExpiry (z : ZoneId)
  /-- CARRIER_PERIOD_BOUNDARY (R127: At a carrier period boundary the channels present the new duty count, pending drive mode changes and hold ends take effect, and FLT is sampled.) `flt` are the FLT levels sampled (true: asserted). -/
  | carrierPeriodBoundary (z : ZoneId) (flt : Vector Bool 6)
  /-- FAULT_COUNT_TRIP (R137: A fault count reaching 4 trips the pair with cause FAULT.) -/
  | faultCountTrip (q : PairId)
  /-- DC_TIMER_EXPIRY (R138: Expiry of a DC timer in RUN moves the watch to STANDING and offers a DC trip.) -/
  | dcTimerExpiry (c : Chan)
  /-- RETRY_TIMER_EXPIRY (R141: Expiry of the retry timer probes the pair.) -/
  | retryTimerExpiry (q : PairId)
  /-- PROBE_WINDOW_EXPIRY (R142: Expiry of the probe window passes the probe, returning the pair to NORMAL with a retry count of 0.) -/
  | probeWindowExpiry (q : PairId)
  /-- DWELL_TIMER_EXPIRY (R154: Expiry of the dwell timer in AUTO steps the tone.) -/
  | dwellTimerExpiry (z : ZoneId)
  /-- DAC_TRANSFER (R163: At each whole millisecond the DAC word is transferred to the front end on TDAC.) -/
  | dacTransfer
  /-- SETTLE_TIME_EXPIRY (R166: After the band's settle time the controller starts waiting for the gate's first FREQ edge.) -/
  | settleTimeExpiry
  /-- GATE_COMPLETE (R166: The N-th FREQ edge ends a gate, and the controller measures the LO, forms the error and decides the iteration.) `ticks` is T, from the gate's first FREQ edge to its N-th after it. -/
  | gateComplete (ticks : Nat)
  /-- GATE_ABANDONED (R167: 20 ms without a FREQ edge during a gate abandons it as a failed iteration with an LO of 0.) -/
  | gateAbandoned
  /-- AFC_TIMER_EXPIRY (R170: Expiry of the AFC timer in LOCKED starts one gate measurement.) -/
  | afcTimerExpiry
  /-- LEVEL_READING (R169: An LVL rising edge completes a level reading.) `period` is Pd in reference ticks, `pilot` the PILOT level. -/
  | levelReading (period : Nat) (pilot : Bool)
  /-- LEVEL_TIMEOUT (R169: 20 ms without an LVL edge completes a reading of 0 or 255.) `pilot` is the PILOT level. -/
  | levelTimeout (pilot : Bool)
  /-- STATION_TEST (R171: The third level reading after a search lock passes or fails the station test.) The third reading completes at an LVL rising edge: operands as LEVEL_READING. -/
  | stationTest (period : Nat) (pilot : Bool)
  /-- ENCODER_LINE_CHANGE (R185: A raw change of an encoder line restarts its filter stability time.) `a` and `b` are the raw levels after the change. -/
  | encoderLineChange (e : EncId) (a b : Bool)
  /-- FILTER_SETTLED (R185: A raw pair stable for 1 ms becomes the filtered pair and is decoded as a quarter or a jump.) -/
  | filterSettled (e : EncId)
  /-- DETENT (R187: A quarter count reaching ±4 makes a detent with a step count of 1 or 4 and hands it to the bound owner.) -/
  | detent (e : EncId) (clockwise : Bool)
  /-- CHIP_SELECT_FALLING_EDGE (R193: At the falling edge of a port's chip select a transaction begins and the port forms and latches the status byte from RESPONSE_PENDING, ATTENTION and FRAMING.) -/
  | chipSelectFallingEdge (p : Port)
  /-- FREQ_RISING_EDGE (R166: A FREQ rising edge after the settle time begins a gate, and each later edge of the gate counts toward N and restarts the 20 ms abandonment time.) `ticks` are the reference ticks since the previous FREQ edge. -/
  | freqRisingEdge (ticks : Nat)
  /-- LVL_FALLING_EDGE (R169: A falling edge of LVL captures the high time H of the period in progress and restarts the 20 ms no-edge time of the level meter.) `high` is H, in reference ticks from the rising edge. -/
  | lvlFallingEdge (high : Nat)
  deriving DecidableEq, Repr

end Sys2Proof
end

