-- ==== Sys2Proof/Decode.lean ====
section
/-! DEFINITION. What a transaction's bytes say (R192, section 12.6): the command codes, when a transaction is malformed, the
command that a transaction on a port carries, and the bytes that carry a command. No row of spec/opcode_table.json gives
bits, so `decodeTableWord` reads no word (log 39). -/

namespace Sys2Proof

/-- The command codes of section 12.6 other than POLL and FETCH. -/
def requestCodes : List Nat :=
  [0x02, 0x03, 0x04, 0x05, 0x10, 0x11, 0x12, 0x13, 0x14, 0x15, 0x18, 0x19, 0x1A, 0x1C, 0x20, 0x21, 0x22, 0x23, 0x24, 0x25,
    0x26, 0x27, 0x28, 0x2C, 0x2E] ++
  [0x30, 0x31, 0x32, 0x33, 0x34, 0x38, 0x39, 0x3A, 0x3B, 0x40, 0x41, 0x42, 0x48, 0x49, 0x4A, 0x4B, 0x4C, 0x4D, 0x4E, 0x4F,
    0x50, 0x51, 0x52, 0x53, 0x54, 0x58, 0x59]

/-- The code stands in the command table (R194, section 12.6). -/
def codeListed (code : Byte) : Bool := code.toNat ≤ 1 || requestCodes.contains code.toNat

/-- A transaction of the whole bytes `mosi` and `bits` further bits is malformed (R192). -/
def isMalformed (mosi : List Byte) (bits : Nat) : Bool :=
  decide (bits ≠ 0) ||
  match mosi with
  | [] => true
  | c :: rest =>
    if c = 0 then !rest.isEmpty
    else if c = 1 then false
    else match rest with
      | _ :: len :: payload => decide (250 < len.toNat) || decide (payload.length ≠ len.toNat)
      | _ => true

/-- The request that a command code carries; a code outside the table is an unknown command (R194, section 12.6). `flt` and
`pilot` are the levels that two status requests report (log 8). -/
def requestOf (p : Port) (flt : Vector Bool 6) (pilot : Bool) (code tag : Byte) (payload : List Byte) : Instr :=
  match code.toNat with
  | 0x02 => .readEvents p tag payload
  | 0x03 => .setEventMask p tag payload
  | 0x04 => .getEventMask p tag payload
  | 0x05 => .deviceReset p tag payload
  | 0x10 => .enableLink p tag payload
  | 0x11 => .disableLink p tag payload
  | 0x12 => .setLinkOptions p tag payload
  | 0x13 => .getLinkStatus p tag payload
  | 0x14 => .getLinkCounters p tag payload
  | 0x15 => .clearCounters p tag payload
  | 0x18 => .setSource p tag payload
  | 0x19 => .getSource p tag payload
  | 0x1A => .getActivity p tag payload
  | 0x1C => .getDecodeStatus p tag payload
  | 0x20 => .powerOn p tag payload
  | 0x21 => .powerOff p tag payload
  | 0x22 => .selectSource p tag payload
  | 0x23 => .setVolume p tag payload
  | 0x24 => .stepVolume p tag payload
  | 0x25 => .setMute p tag payload
  | 0x26 => .setZoneOptions p tag payload
  | 0x27 => .getZoneStatus p tag payload
  | 0x28 => .clearZoneCounters p tag payload
  | 0x2C => .getMixMatrix p tag payload
  | 0x2E => .getDelayStatus p tag payload
  | 0x30 => .setSpeaker p tag payload
  | 0x31 => .getSpeaker p tag payload
  | 0x32 => .setModulator p tag payload
  | 0x33 => .getModulator p tag payload
  | 0x34 => .getOutputStatus p tag payload
  | 0x38 => .setProtection p tag payload
  | 0x39 => .getProtection p tag payload
  | 0x3A => .clearProtection p tag payload
  | 0x3B => .getProtectionStatus p tag payload flt
  | 0x40 => .toneStart p tag payload
  | 0x41 => .toneNext p tag payload
  | 0x42 => .toneStop p tag payload
  | 0x48 => .setBand p tag payload
  | 0x49 => .getBandTable p tag payload
  | 0x4A => .loadCalibration p tag payload
  | 0x4B => .getCalibration p tag payload
  | 0x4C => .tune p tag payload
  | 0x4D => .seek p tag payload
  | 0x4E => .scan p tag payload
  | 0x4F => .getTunerStatus p tag payload pilot
  | 0x50 => .storePreset p tag payload
  | 0x51 => .recallPreset p tag payload
  | 0x52 => .erasePreset p tag payload
  | 0x53 => .loadPresets p tag payload
  | 0x54 => .getPresets p tag payload
  | 0x58 => .setBinding p tag payload
  | 0x59 => .getEncoderStatus p tag payload
  | _ => .unknownCommand p code tag payload

/-- The command that a transaction of the whole bytes `mosi` and `bits` further bits makes on a port (R192). -/
def decodeTransaction (p : Port) (flt : Vector Bool 6) (pilot : Bool) (mosi : List Byte) (bits : Nat) : Instr :=
  if isMalformed mosi bits then .malformedTransaction p mosi bits
  else match mosi with
    | c :: rest =>
      if c = 0 then .poll p
      else if c = 1 then .fetch p rest.length
      else match rest with
        | tag :: _ :: payload => requestOf p flt pilot c tag payload
        | _ => .malformedTransaction p mosi bits
    | [] => .malformedTransaction p mosi bits

/-- The code, tag and payload of a request of the command table; none for a command that is no such request. -/
def Instr.request : Instr → Option (Nat × Byte × List Byte)
  | .readEvents _ t y => some (0x02, t, y)
  | .setEventMask _ t y => some (0x03, t, y)
  | .getEventMask _ t y => some (0x04, t, y)
  | .deviceReset _ t y => some (0x05, t, y)
  | .enableLink _ t y => some (0x10, t, y)
  | .disableLink _ t y => some (0x11, t, y)
  | .setLinkOptions _ t y => some (0x12, t, y)
  | .getLinkStatus _ t y => some (0x13, t, y)
  | .getLinkCounters _ t y => some (0x14, t, y)
  | .clearCounters _ t y => some (0x15, t, y)
  | .setSource _ t y => some (0x18, t, y)
  | .getSource _ t y => some (0x19, t, y)
  | .getActivity _ t y => some (0x1A, t, y)
  | .getDecodeStatus _ t y => some (0x1C, t, y)
  | .powerOn _ t y => some (0x20, t, y)
  | .powerOff _ t y => some (0x21, t, y)
  | .selectSource _ t y => some (0x22, t, y)
  | .setVolume _ t y => some (0x23, t, y)
  | .stepVolume _ t y => some (0x24, t, y)
  | .setMute _ t y => some (0x25, t, y)
  | .setZoneOptions _ t y => some (0x26, t, y)
  | .getZoneStatus _ t y => some (0x27, t, y)
  | .clearZoneCounters _ t y => some (0x28, t, y)
  | .getMixMatrix _ t y => some (0x2C, t, y)
  | .getDelayStatus _ t y => some (0x2E, t, y)
  | .setSpeaker _ t y => some (0x30, t, y)
  | .getSpeaker _ t y => some (0x31, t, y)
  | .setModulator _ t y => some (0x32, t, y)
  | .getModulator _ t y => some (0x33, t, y)
  | .getOutputStatus _ t y => some (0x34, t, y)
  | .setProtection _ t y => some (0x38, t, y)
  | .getProtection _ t y => some (0x39, t, y)
  | .clearProtection _ t y => some (0x3A, t, y)
  | .getProtectionStatus _ t y _ => some (0x3B, t, y)
  | .toneStart _ t y => some (0x40, t, y)
  | .toneNext _ t y => some (0x41, t, y)
  | .toneStop _ t y => some (0x42, t, y)
  | .setBand _ t y => some (0x48, t, y)
  | .getBandTable _ t y => some (0x49, t, y)
  | .loadCalibration _ t y => some (0x4A, t, y)
  | .getCalibration _ t y => some (0x4B, t, y)
  | .tune _ t y => some (0x4C, t, y)
  | .seek _ t y => some (0x4D, t, y)
  | .scan _ t y => some (0x4E, t, y)
  | .getTunerStatus _ t y _ => some (0x4F, t, y)
  | .storePreset _ t y => some (0x50, t, y)
  | .recallPreset _ t y => some (0x51, t, y)
  | .erasePreset _ t y => some (0x52, t, y)
  | .loadPresets _ t y => some (0x53, t, y)
  | .getPresets _ t y => some (0x54, t, y)
  | .setBinding _ t y => some (0x58, t, y)
  | .getEncoderStatus _ t y => some (0x59, t, y)
  | .poll _ => none
  | .fetch _ _ => none
  | .unknownCommand _ _ _ _ => none
  | .malformedTransaction _ _ _ => none
  | .powerOnReset _ => none
  | .linkFrame _ _ => none
  | .detectCountReached _ => none
  | .rateMeasurement _ _ _ => none
  | .blockEnd _ _ => none
  | .descriptorErrorRun _ _ => none
  | .alignmentTimerExpiry _ => none
  | .recoveryTimerExpiry _ => none
  | .lossOfSignal _ => none
  | .counterSnapshot => none
  | .monitorActive _ => none
  | .quietTimerExpiry _ => none
  | .startTimerExpiry _ => none
  | .drainTimerExpiry _ => none
  | .rampStep _ => none
  | .bufferFilled _ _ => none
  | .zoneOutputFrame _ => none
  | .autoStandbyExpiry _ => none
  | .carrierPeriodBoundary _ _ => none
  | .faultCountTrip _ => none
  | .dcTimerExpiry _ => none
  | .retryTimerExpiry _ => none
  | .probeWindowExpiry _ => none
  | .dwellTimerExpiry _ => none
  | .dacTransfer => none
  | .settleTimeExpiry => none
  | .gateComplete _ => none
  | .gateAbandoned => none
  | .afcTimerExpiry => none
  | .levelReading _ _ => none
  | .levelTimeout _ => none
  | .stationTest _ _ => none
  | .encoderLineChange _ _ _ => none
  | .filterSettled _ => none
  | .detent _ _ => none
  | .chipSelectFallingEdge _ => none
  | .freqRisingEdge _ => none
  | .lvlFallingEdge _ => none

/-- The port that a command comes on; none for a command that comes on no port. -/
def Instr.port : Instr → Option Port
  | .poll p => some p
  | .fetch p _ => some p
  | .readEvents p _ _ => some p
  | .setEventMask p _ _ => some p
  | .getEventMask p _ _ => some p
  | .deviceReset p _ _ => some p
  | .unknownCommand p _ _ _ => some p
  | .malformedTransaction p _ _ => some p
  | .powerOnReset _ => none
  | .enableLink p _ _ => some p
  | .disableLink p _ _ => some p
  | .setLinkOptions p _ _ => some p
  | .getLinkStatus p _ _ => some p
  | .getLinkCounters p _ _ => some p
  | .clearCounters p _ _ => some p
  | .setSource p _ _ => some p
  | .getSource p _ _ => some p
  | .getActivity p _ _ => some p
  | .getDecodeStatus p _ _ => some p
  | .powerOn p _ _ => some p
  | .powerOff p _ _ => some p
  | .selectSource p _ _ => some p
  | .setVolume p _ _ => some p
  | .stepVolume p _ _ => some p
  | .setMute p _ _ => some p
  | .setZoneOptions p _ _ => some p
  | .getZoneStatus p _ _ => some p
  | .clearZoneCounters p _ _ => some p
  | .getMixMatrix p _ _ => some p
  | .getDelayStatus p _ _ => some p
  | .setSpeaker p _ _ => some p
  | .getSpeaker p _ _ => some p
  | .setModulator p _ _ => some p
  | .getModulator p _ _ => some p
  | .getOutputStatus p _ _ => some p
  | .setProtection p _ _ => some p
  | .getProtection p _ _ => some p
  | .clearProtection p _ _ => some p
  | .getProtectionStatus p _ _ _ => some p
  | .toneStart p _ _ => some p
  | .toneNext p _ _ => some p
  | .toneStop p _ _ => some p
  | .setBand p _ _ => some p
  | .getBandTable p _ _ => some p
  | .loadCalibration p _ _ => some p
  | .getCalibration p _ _ => some p
  | .tune p _ _ => some p
  | .seek p _ _ => some p
  | .scan p _ _ => some p
  | .getTunerStatus p _ _ _ => some p
  | .storePreset p _ _ => some p
  | .recallPreset p _ _ => some p
  | .erasePreset p _ _ => some p
  | .loadPresets p _ _ => some p
  | .getPresets p _ _ => some p
  | .setBinding p _ _ => some p
  | .getEncoderStatus p _ _ => some p
  | .linkFrame _ _ => none
  | .detectCountReached _ => none
  | .rateMeasurement _ _ _ => none
  | .blockEnd _ _ => none
  | .descriptorErrorRun _ _ => none
  | .alignmentTimerExpiry _ => none
  | .recoveryTimerExpiry _ => none
  | .lossOfSignal _ => none
  | .counterSnapshot => none
  | .monitorActive _ => none
  | .quietTimerExpiry _ => none
  | .startTimerExpiry _ => none
  | .drainTimerExpiry _ => none
  | .rampStep _ => none
  | .bufferFilled _ _ => none
  | .zoneOutputFrame _ => none
  | .autoStandbyExpiry _ => none
  | .carrierPeriodBoundary _ _ => none
  | .faultCountTrip _ => none
  | .dcTimerExpiry _ => none
  | .retryTimerExpiry _ => none
  | .probeWindowExpiry _ => none
  | .dwellTimerExpiry _ => none
  | .dacTransfer => none
  | .settleTimeExpiry => none
  | .gateComplete _ => none
  | .gateAbandoned => none
  | .afcTimerExpiry => none
  | .levelReading _ _ => none
  | .levelTimeout _ => none
  | .stationTest _ _ => none
  | .encoderLineChange _ _ _ => none
  | .filterSettled _ => none
  | .detent _ _ => none
  | .chipSelectFallingEdge p => some p
  | .freqRisingEdge _ => none
  | .lvlFallingEdge _ => none

/-- The bytes of a request transaction: code, tag, length, payload (R194). -/
def requestBytes (code tag : Byte) (payload : List Byte) : List Byte :=
  code :: tag :: BitVec.ofNat 8 payload.length :: payload

/-- The whole bytes and the further bits of the transaction that carries a command; none for an event. The bytes after a
FETCH code are ignored by the part and are zeros here (R197). -/
def Instr.transaction (i : Instr) : Option (List Byte × Nat) :=
  match i with
  | .poll _ => some ([0], 0)
  | .fetch _ n => some (1 :: List.replicate n 0, 0)
  | .unknownCommand _ c t y => some (requestBytes c t y, 0)
  | .malformedTransaction _ m b => some (m, b)
  | i => i.request.map fun r => (requestBytes (BitVec.ofNat 8 r.1) r.2.1 r.2.2, 0)

/-- The command that a word spells by the opcode table's bits: none, since the table gives no row any bits (log 39). -/
def decodeTableWord (_nbits _w : Nat) : Option Instr := none

end Sys2Proof
end

