-- ==== Sys2Proof/Config.lean ====
section
/-! DEFINITION. The free values: what the spec leaves unstated while the part goes on. Each is an opaque constant with no
body, so nothing can be proved of its value and every theorem holds for all of them. -/

namespace Sys2Proof.Config

/-- Free value (log 11): the downmix preference, LFE-reduced flag, DRC and stream id that the zero frames of a SYNCING
unit carry before any block is taken. R46 states the empty channel map alone. The argument is `State.fresh`. -/
opaque syncingPref : Nat → BitVec 2
/-- Free value (log 11), see `syncingPref`. -/
opaque syncingLfe : Nat → Bool
/-- Free value (log 11), see `syncingPref`. Held to the 0 to 48 of R7 where it is used. -/
opaque syncingDrc : Nat → BitVec 6
/-- Free value (log 11), see `syncingPref`. -/
opaque syncingStream : Nat → BitVec 6

/-- Free value (log 12): the mantissa a BSF slot delivers from a hold register that a PCM sample was written to (R4). -/
opaque holdAsMantissa : Sample → BitVec 16
/-- Free value (log 12): the sample a PCM slot delivers from a hold register that a mantissa was written to (R3). -/
opaque holdAsSample : BitVec 16 → Sample

/-- Free value (log 13): the gs that GET_MIX_MATRIX reports for the empty set (R106). -/
opaque emptySetGs : BitVec 16
/-- Free value (log 13): the LFE-reduced flag that GET_MIX_MATRIX reports for the empty set (R106). -/
opaque emptySetLfe : BitVec 8

/-- Free value (log 14): the three bytes that report a measured frequency outside the 0 to 16,777,215 kHz of three bytes
(R166, R198). -/
opaque frequencyOutside : Int → BitVec 24

/-- Free value (log 41): how many whole bytes of a transaction were clocked when a soft reset discarded it (R204). The argument
is `State.fresh`. -/
opaque clockedAtReset : Nat → Nat

end Sys2Proof.Config
end

