-- ==== Sys2Proof/Machine/State.lean ====
section
/-! DEFINITION. The state of the part as plain data: every register, list, timer and mark the spec names, and the queue of
commands that are waiting. INVENTORY.md lists each with its rule and its reset value. -/

namespace Sys2Proof.Machine

/-! ## Values common to several blocks -/

/-- Who made a change (00_scope.md, section 5.5). -/
inductive Origin where
  | portA
  | portB
  | panel
  | auto
  deriving DecidableEq, Repr

/-- The seven link rates (R13). -/
inductive Rate where
  | r32
  | r44
  | r48
  | r88
  | r96
  | r176
  | r192
  deriving DecidableEq, Repr

/-- A running timer of the millisecond timer: when it started and how long it runs. -/
structure Timer where
  start : Millis
  len : Nat
  deriving DecidableEq, Repr

/-- Surround modes (R25, R59). -/
inductive SurroundMode where
  | auto
  | direct
  | stereo
  | upmix
  deriving DecidableEq, Repr

/-- The effective surround mode (R83). -/
inductive EffMode where
  | direct
  | stereo
  | upmix
  deriving DecidableEq, Repr

/-! ## Links (chapter Audio Input Links) -/

/-- Link states with their sub-states (section 1.3). -/
inductive LinkState where
  | disabled
  | detectQuiet
  | detectActive
  | measureCounting
  | measureUnrecognised
  | alignSeek
  | alignRead
  | locked
  | recoverSeek
  | recoverRead
  deriving DecidableEq, Repr

/-- The format field of a descriptor (byte 1, bits 7 and 6). -/
inductive Format where
  | pcm
  | bsf
  | unsupported2
  | unsupported3
  deriving DecidableEq, Repr

/-- A good descriptor's fields after R7. `map` keeps the bits of byte 2: bit 7 is FL, bit 0 is BR. -/
structure Descriptor where
  format : Format
  rateCode : Nat
  lfe : Bool
  pref : BitVec 2
  map : BitVec 8
  drc : Nat
  stream : BitVec 6
  seq : BitVec 4
  expo1 : Vector (BitVec 4) 8
  expo2 : Vector (BitVec 4) 8
  checksum : BitVec 16
  deriving DecidableEq, Repr

/-- The descriptor values that travel with frames and come into force in a zone (R59, R70). -/
structure DescValues where
  map : BitVec 8
  drc : Nat
  pref : BitVec 2
  lfe : Bool
  stream : BitVec 6
  deriving DecidableEq, Repr

/-- A frame as the receiver keeps it in the block it reads (R1, R2, R5). -/
structure RawFrame where
  wellFormed : Bool
  slots : Vector Slot 8
  deriving DecidableEq, Repr

/-- A hold register: zero since entry to LOCKED, or what a PCM or a BSF slot last left in it (R3, R4, log 12). -/
inductive Hold where
  | zero
  | sample (x : Sample)
  | mantissa (m : BitVec 16)
  deriving DecidableEq, Repr

/-- A rate measurement in progress: edges after its first, reference ticks, every frame so far well formed (R13). -/
structure Measurement where
  edges : Nat
  ticks : Nat
  allWellFormed : Bool
  deriving DecidableEq, Repr

/-- A released block in delivery in the PCM manner: the descriptor that applies and the frames still to deliver (R10). -/
structure Delivery where
  desc : Descriptor
  frames : List RawFrame
  deriving DecidableEq, Repr

/-- One error counter: running total, current-second count, last-second snapshot (R19). -/
structure Counter where
  total : Nat
  second : Nat
  snapshot : Nat
  deriving DecidableEq, Repr

/-- The four error counters of a link (R19). -/
structure LinkCounters where
  code : Counter
  descriptor : Counter
  sequence : Counter
  bsf : Counter
  deriving DecidableEq, Repr

/-- One link receiver (R11 to R24). -/
structure Link where
  enabled : Bool
  state : LinkState
  rate : Option Rate
  lastGood : Option Descriptor
  lossWindow : Nat
  lossTimer : Option Timer
  detectCount : Nat
  measurement : Option Measurement
  stateTimer : Option Timer
  candidate : Option (BitVec 4)
  reading : List RawFrame
  blockTicks : Nat
  expectedSeq : BitVec 4
  errorRun : Nat
  hold : Vector Hold 8
  delivery : Option Delivery
  counters : LinkCounters
  deriving DecidableEq, Repr

/-! ## Activity monitors and source table (chapter Source Table and Signal Sensing) -/

/-- Activity states (section 2.2). -/
inductive Activity where
  | noLink
  | silent
  | active
  deriving DecidableEq, Repr

/-- One activity monitor (R30 to R33). `whole` holds while every frame of the present block was taken in SILENT, `loud`
once one of them was non-silent. -/
structure Monitor where
  state : Activity
  run : Nat
  quietTimer : Option Timer
  quietSince : Option Millis
  whole : Bool
  loud : Bool
  deriving DecidableEq, Repr

/-- A source entry (R25). `input` none is NONE. -/
structure SourceEntry where
  input : Option LinkId
  trim : Int
  lipSync : Nat
  autoOn : Bool
  mode : SurroundMode
  label : Byte
  deriving DecidableEq, Repr

/-! ## Decode units (chapter Surround Decode Units) -/

/-- Decode unit states (R38). -/
inductive UnitState where
  | free
  | syncing
  | running
  deriving DecidableEq, Repr

/-- Decoded frames of a block with the descriptor values they carry (R38). -/
structure DecodedBlock where
  frames : List (Vector Sample 8)
  vals : DescValues
  deriving DecidableEq, Repr

/-- A decode unit's record (R38). `output` are the frames of the block in output still to hand out, `vals` the values of the
present period, `owed` says they go with the period's first frame (R44). The attached set is computed from the zones. -/
structure DecodeUnit where
  state : UnitState
  link : Option LinkId
  output : List (Vector Sample 8)
  vals : DescValues
  owed : Bool
  store : Option DecodedBlock
  mark : Bool
  concealed : Nat
  silenced : Nat
  deriving DecidableEq, Repr

/-! ## Zones (chapter Zones) -/

inductive Power where
  | standby
  | starting
  | on
  | rampDown
  | drain
  deriving DecidableEq, Repr

inductive Path where
  | idle
  | fading
  | filling
  | playing
  deriving DecidableEq, Repr

inductive ClockMode where
  | follow
  | local48
  | local44
  deriving DecidableEq, Repr

inductive ClockState where
  | lockedToSource
  | holdover
  | localClock
  deriving DecidableEq, Repr

/-- A zone's decode attachment (R49, R59). -/
inductive DecodePos where
  | none
  | waiting
  | attached (u : UnitId)
  deriving DecidableEq, Repr

/-- The mute reasons of a zone (R59, section 4.4). -/
structure Mutes where
  user : Bool
  tuning : Bool
  noSignal : Bool
  format : Bool
  rateMismatch : Bool
  decode : Bool
  tone : Bool
  deriving DecidableEq, Repr

/-- The bound copy of a source entry (R25). -/
structure BoundCopy where
  input : Option LinkId
  trim : Int
  lipSync : Nat
  mode : SurroundMode
  deriving DecidableEq, Repr

/-- A lip-sync allocation (section 6.3). -/
structure Alloc where
  words : Nat
  frames : Nat
  micros : Nat
  limited : Bool
  deriving DecidableEq, Repr

/-- A frame in an elastic buffer with the descriptor values that travel with it (R70, R80). -/
structure BufFrame where
  samples : Vector Sample 8
  vals : Option DescValues
  deriving DecidableEq, Repr

/-- What a coefficient set was built from (R88, R106). -/
structure BuildInputs where
  map : BitVec 8
  mode : EffMode
  gs : Int
  lfe : Bool
  deriving DecidableEq, Repr

/-- A row of a coefficient set (R88). -/
structure CoefRow where
  channel : Chan
  position : Pos
  coefs : Vector Int 8
  deriving DecidableEq, Repr

/-- A coefficient set built from descriptor values (R88, R89). The empty set is the absence of one. -/
structure CoefSet where
  inputs : BuildInputs
  rows : List CoefRow
  deriving DecidableEq, Repr

/-- Drive modes (section 4.2, R128). -/
inductive DriveMode where
  | off
  | centre
  | audio
  deriving DecidableEq, Repr

inductive Pattern where
  | noise
  | pulse
  deriving DecidableEq, Repr

inductive StepMode where
  | auto
  | manual
  deriving DecidableEq, Repr

/-- A test tone sequencer's record (R149). `speaker` is the channel of the speaker under test. -/
structure Tone where
  running : Bool
  pattern : Pattern
  stepMode : StepMode
  dwell : Nat
  speaker : Option Chan
  dwellTimer : Option Timer
  noise : BitVec 23
  pulse : Nat
  deriving DecidableEq, Repr

/-- A zone record (R59) with the parts other chapters keep per zone: coefficient sets and clip count (R88, R103), modulator
settings and drive mode (R123, R128), test tone sequencer (R149). `qr` none is SILENT. `clockInEffect` is the clock mode of
the last binding (R83). `owed` says that the decode unit owes the zone its descriptor values (R44). `driveNow` is the drive
mode in effect; the carrier runs unless it is OFF (R124, R129). `period` numbers the carrier period in progress among the C
periods of its output frame, from 0 (R124). -/
structure Zone where
  power : Power
  path : Path
  selected : Option SrcId
  bound : Option SrcId
  copy : Option BoundCopy
  restart : Option Origin
  qv : Int
  qr : Option Int
  rampInterval : Nat
  rampCount : Nat
  mutes : Mutes
  mode : SurroundMode
  night : Bool
  clockMode : ClockMode
  clockInEffect : ClockMode
  clockState : ClockState
  rate : Rate
  autoStandby : Nat
  countdown : Option Timer
  startTimer : Option Timer
  drainTimer : Option Timer
  buffer : List BufFrame
  refilling : Bool
  repeats : Nat
  skips : Nat
  vals : Option DescValues
  decode : DecodePos
  owed : Bool
  alloc : Option Alloc
  lastChanged : Origin
  active : Option CoefSet
  shadow : Option CoefSet
  clips : Nat
  resolution : Nat
  minPulse : Nat
  drive : DriveMode
  driveNow : DriveMode
  period : Nat
  tone : Tone
  deriving DecidableEq, Repr

/-! ## Speaker table, channels, pairs (chapters Delay Memory, Loudspeaker Modulators, Output Protection) -/

/-- A speaker table entry (R119). `zone` none is UNUSED. -/
structure Speaker where
  zone : Option ZoneId
  position : Pos
  bridged : Bool
  trim : Int
  delay : Nat
  inverted : Bool
  deriving DecidableEq, Repr

/-- A DC watch (R138). `positive` is the sign of the run. -/
inductive Watch where
  | clear
  | run (positive : Bool) (t : Timer)
  | standing (positive : Bool)
  deriving DecidableEq, Repr

/-- One carrier period of an output (R126): low throughout, or `first` ticks at the level `firstHigh` names and `rest` ticks
at the other level. -/
inductive Wave where
  | low
  | pulse (firstHigh : Bool) (first rest : Nat)
  deriving DecidableEq, Repr

/-- What a modulator channel holds: its two delays (R111), its speaker delay in force (R110), the duty count in force for the
output frame in progress and the one that waits, formed from the latest sample (R127), the duty count presented and the
carrier period that the output makes of it (R126), the zone whose carrier times what is presented, and its DC watch (R138). -/
structure Channel where
  lipSection : List Sample
  line : List Sample
  delay : Option Nat
  duty : Nat
  next : Nat
  shown : Option Nat
  wave : Wave
  timedBy : Option ZoneId
  watch : Watch
  deriving DecidableEq, Repr

inductive PairState where
  | normal
  | tripped
  | probe
  | latched
  deriving DecidableEq, Repr

/-- The last cause of a trip (R136). -/
inductive Cause where
  | none
  | fault
  | dc (c : Chan)
  deriving DecidableEq, Repr

/-- A pair's record (R136). `driven` says that the carrier period in progress has been driven from its start (R137). -/
structure Pair where
  state : PairState
  cause : Cause
  retries : Nat
  retryTimer : Option Timer
  probeWindow : Option Timer
  faults : Nat
  driven : Bool
  dcTime : Nat
  retryLimit : Nat
  flt : Bool
  deriving DecidableEq, Repr

/-! ## Tuner (chapter Tuner Control) -/

inductive Band where
  | fm
  | am
  deriving DecidableEq, Repr

inductive TunerState where
  | off
  | unlocked
  | acquiring
  | locked
  | seeking
  | scanning
  deriving DecidableEq, Repr

inductive Phase where
  | acquire
  | test
  | return
  deriving DecidableEq, Repr

inductive TunerOp where
  | tune
  | recall
  | step
  | afc
  | seek
  | scan
  deriving DecidableEq, Repr

inductive TunerResult where
  | done
  | failed
  | aborted
  | found
  | exhausted
  deriving DecidableEq, Repr

/-- A completion entry (R175). -/
structure Completion where
  number : Byte
  result : TunerResult
  op : TunerOp
  origin : Origin
  band : Band
  frequency : Nat
  deriving DecidableEq, Repr

/-- The settable fields of a band's record (R159). -/
structure BandRecord where
  step : Nat
  threshold : Byte
  stereoOnly : Bool
  deriving DecidableEq, Repr

/-- A calibration point (R161). -/
structure CalPoint where
  frequency : Nat
  dac : Nat
  deriving DecidableEq, Repr

/-- A preset entry (section 10.10). -/
structure Preset where
  band : Band
  frequency : Nat
  level : Nat
  deriving DecidableEq, Repr

/-- Where the gate of an iteration stands (R166, R167). `limit` is the 20 ms abandonment time of a gate that waits for its
next edge. -/
inductive Gate where
  | idle
  | transfer
  | settling (t : Timer)
  | waiting (limit : Timer)
  | counting (edges ticks : Nat) (limit : Timer)
  deriving DecidableEq, Repr

/-- The tuner controller: tables, record and loop (R159 to R183). `lvlTimer` is the 20 ms no-edge time of the level meter
(R169). -/
structure Tuner where
  fm : BandRecord
  am : BandRecord
  fmCal : List CalPoint
  amCal : List CalPoint
  state : TunerState
  phase : Option Phase
  band : Band
  target : Nat
  measured : Option Int
  dac : Nat
  transferred : Nat
  level : Nat
  pilot : Bool
  op : Option (TunerOp × Origin)
  iterations : Nat
  inRun : Bool
  start : Option (Band × Nat)
  completions : List Completion
  nextNumber : Byte
  lastChanged : Origin
  gate : Gate
  afcTimer : Option Timer
  searchUp : Bool
  triesLeft : Nat
  readings : List (Nat × Bool)
  lvl : Bool
  capturing : Bool
  lvlHigh : Option Nat
  lvlTimer : Timer
  presets : List Preset
  deriving DecidableEq, Repr

/-! ## Encoders (chapter Panel Encoders) -/

inductive Binding where
  | volume (z : ZoneId)
  | tune
  | source
  | none
  deriving DecidableEq, Repr

/-- An encoder's record (R184). `lastDetent` holds its time and whether it was clockwise. -/
structure Encoder where
  raw : Bool × Bool
  changedAt : Millis
  filtered : Option (Bool × Bool)
  quarters : Int
  lastDetent : Option (Millis × Bool)
  binding : Binding
  deriving DecidableEq, Repr

/-! ## Control ports (chapter Control Ports and Event Reporting) -/

/-- Result codes, in the order that numbers them (R196). -/
inductive Result where
  | ok
  | accepted
  | limited
  | refusedState
  | range
  | length
  | duplicate
  | notLocked
  | unknown
  deriving DecidableEq, Repr

/-- A response record (R196); its length byte is the length of `data`. -/
structure Response where
  tag : Byte
  result : Result
  data : List Byte
  deriving DecidableEq, Repr

/-- A port's transaction state: none, in progress with the status byte latched at its falling edge (R193), or ignored until
chip select rises (R203, R204). -/
inductive PortLine where
  | idle
  | selected (status : Byte)
  | ignoring
  deriving DecidableEq, Repr

/-- A transaction that a soft reset discarded: its status byte, the record that a FETCH was shifting out, and how many whole
bytes had been clocked (R204, log 41). -/
structure CutTransaction where
  status : Byte
  record : List Byte
  clocked : Nat
  deriving DecidableEq, Repr

/-- A control port (R192 to R204). `flags` and `masks` are indexed by `Flag.index`; `miso` are the bytes shifted out in the
last completed transaction (log 10). `cut` is the transaction that is being ignored, where a soft reset discarded one. -/
structure PortState where
  line : PortLine
  cut : Option CutTransaction
  slot : Option Response
  flags : Vector Bool 26
  masks : Vector Bool 26
  framing : Bool
  miso : List Byte
  deriving DecidableEq, Repr

/-- The two ports. -/
structure Ports where
  cpa : PortState
  cpb : PortState
  deriving DecidableEq, Repr

/-- The whole part, and the queue of commands that wait (log 1). `fresh` numbers the uses of free values (log 11).
`snapshotDue` says that the millisecond timer stands at a whole second whose snapshot is still to be taken (R19, log 43). -/
structure State where
  ms : Millis
  links : Vector Link 9
  monitors : Vector Monitor 9
  sources : Vector SourceEntry 16
  units : Vector DecodeUnit 2
  waitList : List ZoneId
  zones : Vector Zone 3
  speakers : Vector Speaker 12
  channels : Vector Channel 12
  pairs : Vector Pair 6
  tuner : Tuner
  encoders : Vector Encoder 2
  ports : Ports
  fresh : Nat
  snapshotDue : Bool
  pending : List Instr
  deriving DecidableEq, Repr

/-- No meaning of this model ends in a fault: the spec names no event that stops the part (INVENTORY.md, Faults). -/
inductive Fault where
  deriving DecidableEq, Repr

/-- Refusals. -/
inductive Refusal where
  /-- Raised by an arm of `exec` whose command has no meaning yet (safe: the machine stops). No arm raises it now. -/
  | notModelled (mnemonic : String)
  deriving DecidableEq, Repr

/-! ## Values after a power-on reset -/

def Counter.zero : Counter := { total := 0, second := 0, snapshot := 0 }

def LinkCounters.zero : LinkCounters :=
  { code := Counter.zero, descriptor := Counter.zero, sequence := Counter.zero, bsf := Counter.zero }

/-- A link after a power-on reset (R19, R24). -/
def Link.reset : Link :=
  { enabled := true, state := .detectQuiet, rate := none, lastGood := none, lossWindow := 4, lossTimer := none,
    detectCount := 0, measurement := none, stateTimer := none, candidate := none, reading := [], blockTicks := 0,
    expectedSeq := 0, errorRun := 0, hold := Vector.replicate 8 .zero, delivery := none, counters := LinkCounters.zero }

/-- An activity monitor after either reset (R37). -/
def Monitor.reset : Monitor :=
  { state := .noLink, run := 0, quietTimer := none, quietSince := none, whole := false, loud := false }

/-- A source entry of the power-on table (R29). -/
def SourceEntry.reset (i : SrcId) : SourceEntry :=
  { input := if h : i.1 < 9 then some ⟨i.1, h⟩ else none, trim := 0, lipSync := 0, autoOn := false, mode := .auto,
    label := BitVec.ofNat 8 i.1 }

/-- The power-on source table (R29). -/
def sourceTable : Vector SourceEntry 16 :=
  #v[SourceEntry.reset 0, SourceEntry.reset 1, SourceEntry.reset 2, SourceEntry.reset 3, SourceEntry.reset 4,
    SourceEntry.reset 5, SourceEntry.reset 6, SourceEntry.reset 7, SourceEntry.reset 8, SourceEntry.reset 9,
    SourceEntry.reset 10, SourceEntry.reset 11, SourceEntry.reset 12, SourceEntry.reset 13, SourceEntry.reset 14,
    SourceEntry.reset 15]

def DescValues.zero : DescValues := { map := 0, drc := 0, pref := 0, lfe := false, stream := 0 }

/-- A decode unit after either reset (R58). -/
def DecodeUnit.reset : DecodeUnit :=
  { state := .free, link := none, output := [], vals := DescValues.zero, owed := false, store := none, mark := false,
    concealed := 0, silenced := 0 }

def Mutes.clear : Mutes :=
  { user := false, tuning := false, noSignal := false, format := false, rateMismatch := false, decode := false,
    tone := false }

/-- A test tone sequencer after either reset (R158). -/
def Tone.reset : Tone :=
  { running := false, pattern := .noise, stepMode := .manual, dwell := 1, speaker := none, dwellTimer := none, noise := 1,
    pulse := 0 }

/-- A zone after either reset, for the selected source and modulator settings it then holds (R87, R107, R134, R158). -/
def Zone.reset (selected : Option SrcId) (resolution minPulse : Nat) : Zone :=
  { power := .standby, path := .idle, selected := selected, bound := none, copy := none, restart := none, qv := -60,
    qr := none, rampInterval := 16, rampCount := 0, mutes := Mutes.clear, mode := .auto, night := false,
    clockMode := .follow, clockInEffect := .follow, clockState := .holdover, rate := .r48, autoStandby := 0,
    countdown := none, startTimer := none, drainTimer := none, buffer := [], refilling := false, repeats := 0, skips := 0,
    vals := none, decode := .none, owed := false, alloc := none, lastChanged := .auto, active := none, shadow := none,
    clips := 0, resolution := resolution, minPulse := minPulse, drive := .off, driveNow := .off, period := 0,
    tone := Tone.reset }

/-- A speaker entry after a power-on reset (R134). -/
def Speaker.reset : Speaker :=
  { zone := none, position := 0, bridged := false, trim := 0, delay := 0, inverted := false }

/-- A modulator channel after either reset (R118, R134, R135, R148). -/
def Channel.reset : Channel :=
  { lipSection := [], line := [], delay := none, duty := 0, next := 0, shown := none, wave := .low, timedBy := none, watch := .clear }

/-- A pair after either reset, for the settings and the FLT level it then has (R148). -/
def Pair.reset (dcTime retryLimit : Nat) (flt : Bool) : Pair :=
  { state := .normal, cause := .none, retries := 0, retryTimer := none, probeWindow := none, faults := 0, driven := false,
    dcTime := dcTime, retryLimit := retryLimit, flt := flt }

/-- The tuner controller after a power-on reset (R183). That the level meter then captures no period, holds no high
time and starts its no-edge time is the model's choice (log 33). -/
def Tuner.reset (pilot lvl : Bool) : Tuner :=
  { fm := { step := 100, threshold := 100, stereoOnly := false }, am := { step := 9, threshold := 80, stereoOnly := false },
    fmCal := [], amCal := [], state := .off, phase := none, band := .fm, target := 87500, measured := none, dac := 0,
    transferred := 0, level := 0, pilot := pilot, op := none, iterations := 0, inRun := false, start := none,
    completions := [], nextNumber := 0, lastChanged := .auto, gate := .idle, afcTimer := none, searchUp := true,
    triesLeft := 0, readings := [], lvl := lvl, capturing := false, lvlHigh := none,
    lvlTimer := { start := 0, len := 20 }, presets := [] }

/-- An encoder after either reset, for the raw levels and the binding it then has (R191). -/
def Encoder.reset (raw : Bool × Bool) (now : Millis) (binding : Binding) : Encoder :=
  { raw := raw, changedAt := now, filtered := none, quarters := 0, lastDetent := none, binding := binding }

/-- The place of the RESET flag among the 26 flags of a copy (section 12.3). -/
abbrev resetFlagIndex : Fin 26 := 25

/-- A flag copy that holds RESET alone (R203, R204). -/
def resetFlags : Vector Bool 26 := (Vector.replicate 26 false).set resetFlagIndex.1 true

/-- A port at the release of a power-on reset (R203). -/
def PortState.reset (csLow : Bool) : PortState :=
  { line := if csLow then .ignoring else .idle, cut := none, slot := none, flags := resetFlags, masks := Vector.replicate 26 false,
    framing := false, miso := [] }

/-- The part at the release of a power-on reset that finds the input levels `pins`. -/
def State.powerUp (pins : Pins) : State :=
  { ms := 0
    links := Vector.replicate 9 Link.reset
    monitors := Vector.replicate 9 Monitor.reset
    sources := sourceTable
    units := Vector.replicate 2 DecodeUnit.reset
    waitList := []
    zones := #v[Zone.reset (some 0) 9 2, Zone.reset none 9 2, Zone.reset none 9 2]
    speakers := Vector.replicate 12 Speaker.reset
    channels := Vector.replicate 12 Channel.reset
    pairs := #v[Pair.reset 100 4 pins.flt[0], Pair.reset 100 4 pins.flt[1], Pair.reset 100 4 pins.flt[2],
      Pair.reset 100 4 pins.flt[3], Pair.reset 100 4 pins.flt[4], Pair.reset 100 4 pins.flt[5]]
    tuner := Tuner.reset pins.pilot pins.lvl
    encoders := #v[Encoder.reset pins.enc0 0 (.volume 0), Encoder.reset pins.enc1 0 .tune]
    ports := { cpa := PortState.reset pins.csLowA, cpb := PortState.reset pins.csLowB }
    fresh := 0
    snapshotDue := false
    pending := [] }

/-- The part after a power-on reset with quiet input lines: the machine right after reset. -/
def State.reset : State := State.powerUp Pins.quiet

end Sys2Proof.Machine
end

