-- ==== Sys2Proof/Machine/Flags.lean ====
section
/-! DEFINITION. The 26 event flags of a port: setting them in both copies, the bytes that report them, masks and attention
(R199 to R202). -/

namespace Sys2Proof.Machine

/-- `v` with entry `i` replaced by `x`: the one way a record of a table is written. -/
def setAt {α : Type} {n : Nat} (v : Vector α n) (i : Fin n) (x : α) : Vector α n := v.set i.1 x i.2

/-- The event flags by name (section 12.3). -/
inductive Flag where
  | link (l : LinkId)
  | zone (z : ZoneId)
  | du (u : UnitId)
  | tunerDone
  | tunerLock
  | presets
  | pair (q : PairId)
  | signal
  | limited
  | reset
  deriving DecidableEq, Repr

/-- The place of a flag in a copy, in the order of section 12.3. -/
def Flag.index : Flag → Fin 26
  | .link l => ⟨l.1, by omega⟩
  | .zone z => ⟨9 + z.1, by omega⟩
  | .du u => ⟨12 + u.1, by omega⟩
  | .tunerDone => 14
  | .tunerLock => 15
  | .presets => 16
  | .pair q => ⟨17 + q.1, by omega⟩
  | .signal => 23
  | .limited => 24
  | .reset => 25

/-- A copy with one flag set (R199). -/
def PortState.raise (f : Flag) (p : PortState) : PortState := { p with flags := setAt p.flags f.index true }

/-- An owner sets a flag in the copy of both ports in the same action (R199). -/
def Ports.raise (f : Flag) (ps : Ports) : Ports := { cpa := ps.cpa.raise f, cpb := ps.cpb.raise f }

/-- Both copies with the flag set when `b` holds. -/
def Ports.raiseIf (b : Bool) (f : Flag) (ps : Ports) : Ports := if b then ps.raise f else ps

/-- A port by its name. -/
def Ports.get (ps : Ports) : Port → PortState
  | .cpa => ps.cpa
  | .cpb => ps.cpb

/-- The ports with one of them replaced. -/
def Ports.put (ps : Ports) (p : Port) (r : PortState) : Ports :=
  match p with
  | .cpa => { ps with cpa := r }
  | .cpb => { ps with cpb := r }

/-- A byte from its bits, bit 0 first; bits beyond the list are 0. -/
def byteOfBits : List Bool → Nat
  | [] => 0
  | b :: bs => (if b then 1 else 0) + 2 * byteOfBits bs

/-- The places of the flags of data bytes 1 to 7 of a report, bit 0 first (R200). -/
def reportGroups : List (List (Fin 26)) :=
  [[0, 1, 2, 3, 4, 5, 6, 7], [8], [9, 10, 11], [12, 13], [14, 15, 16], [17, 18, 19, 20, 21, 22], [23, 24, 25]]

/-- Data bytes 1 to 7 of R200 for a set of flags, also the seven bytes of a mask set (R201). -/
def flagBytes (v : Vector Bool 26) : List Byte :=
  reportGroups.map fun g => BitVec.ofNat 8 (byteOfBits (g.map v.get))

/-- Data byte 0 of R200: which groups hold a set flag. LINK takes the first two bytes. -/
def groupSummary (v : Vector Bool 26) : Byte :=
  let any (g : List (Fin 26)) : Bool := g.any v.get
  BitVec.ofNat 8 (byteOfBits
    [any [0, 1, 2, 3, 4, 5, 6, 7, 8], any [9, 10, 11], any [12, 13], any [14, 15, 16],
      any [17, 18, 19, 20, 21, 22], any [23, 24, 25]])

/-- The eight data bytes of a READ_EVENTS response (R200). -/
def eventReport (v : Vector Bool 26) : List Byte := groupSummary v :: flagBytes v

/-- The byte of a mask set (R201) that holds a flag, and its bit there. -/
def maskPlace (i : Fin 26) : Nat × Nat :=
  if i.1 < 8 then (0, i.1)
  else if i.1 < 9 then (1, 0)
  else if i.1 < 12 then (2, i.1 - 9)
  else if i.1 < 14 then (3, i.1 - 12)
  else if i.1 < 17 then (4, i.1 - 14)
  else if i.1 < 23 then (5, i.1 - 17)
  else (6, i.1 - 23)

/-- The mask set that seven bytes carry; bits that name no flag are ignored (R201). -/
def masksOfBytes (bytes : List Byte) : Vector Bool 26 :=
  Vector.ofFn fun i => (bytes.getD (maskPlace i).1 0).getLsbD (maskPlace i).2

/-- The places of all 26 flags. -/
def flagPlaces : List (Fin 26) := reportGroups.flatten

/-- A port's attention line is asserted exactly when its copy holds a set, unmasked flag (R202). -/
def PortState.attention (p : PortState) : Bool := flagPlaces.any fun i => p.flags.get i && !p.masks.get i

end Sys2Proof.Machine
end

