-- ==== Sys2Proof/Machine/Ops.lean ====
section
/-! DEFINITION. Shared operations: arithmetic of 00_scope.md section 5, rates, timers, counters, and the accessors through
which every record of the state is read and written. The accessors set the event flag of a record when a reported part of it
changes (R23, R34, R57, R86, R147, R182), so no meaning sets these flags by hand. -/

namespace Sys2Proof.Machine

/-! ## Index lists -/

def zoneIds : List ZoneId := [0, 1, 2]
def unitIds : List UnitId := [0, 1]
def linkIds : List LinkId := [0, 1, 2, 3, 4, 5, 6, 7, 8]
def srcIds : List SrcId := [0, 1, 2, 3, 4, 5, 6, 7, 8, 9, 10, 11, 12, 13, 14, 15]
def chanIds : List Chan := [0, 1, 2, 3, 4, 5, 6, 7, 8, 9, 10, 11]
def pairIds : List PairId := [0, 1, 2, 3, 4, 5]
def posIds : List Pos := [0, 1, 2, 3, 4, 5, 6, 7]

/-! ## Arithmetic (00_scope.md, section 5.1) -/

/-- Shifted right arithmetically by s: divided by 2^s and rounded toward minus infinity. -/
def sar (x : Int) (s : Nat) : Int := x / (2 : Int) ^ s

/-- Rounded half up: a / b to the nearest integer, for b above 0. -/
def roundHalfUp (a b : Int) : Int := (2 * a + b) / (2 * b)

/-- `x` taken into the range `lo` to `hi`. -/
def clampInt (lo hi x : Int) : Int := if x < lo then lo else if hi < x then hi else x

/-- `x` taken into the range `lo` to `hi`. -/
def clampNat (lo hi x : Nat) : Nat := if x < lo then lo else if hi < x then hi else x

/-- Saturated to the 24-bit range. -/
def satSample (x : Int) : Int := clampInt (-8388608) 8388607 x

/-- A saturating counter of 0 to 65,535 with `n` added. -/
def satAdd (c n : Nat) : Nat := min 65535 (c + n)

/-! ## Time -/

/-- A timer of `len` milliseconds started at the present millisecond timer value. -/
def newTimer (now : Millis) (len : Nat) : Timer := { start := now, len := len }

/-- Milliseconds since the timer started, modulo 2^32 (R184). -/
def Timer.elapsed (t : Timer) (now : Millis) : Nat := (now - t.start).toNat

/-- Milliseconds the timer has still to run. -/
def Timer.remaining (t : Timer) (now : Millis) : Nat := t.len - t.elapsed now

/-- A timer runs and has no time left. The command that stands for its expiry acts then alone: after an event taken first that
restarts or discards the timer, the expiry does not happen (R17, R33, R138, R154, log 4). -/
def timeUp (t : Option Timer) (now : Millis) : Bool := t.any fun t => decide (t.remaining now = 0)

/-! ## Rates -/

def rates : List Rate := [.r32, .r44, .r48, .r88, .r96, .r176, .r192]

/-- The rate code of a descriptor and of a response (R6, R198). -/
def Rate.code : Rate → Nat
  | .r32 => 0
  | .r44 => 1
  | .r48 => 2
  | .r88 => 3
  | .r96 => 4
  | .r176 => 5
  | .r192 => 6

/-- Frames a second (R109). -/
def Rate.hz : Rate → Nat
  | .r32 => 32000
  | .r44 => 44100
  | .r48 => 48000
  | .r88 => 88200
  | .r96 => 96000
  | .r176 => 176400
  | .r192 => 192000

/-- Nominal reference ticks of 64 frames (R13). -/
def Rate.nominal : Rate → Nat
  | .r32 => 49152
  | .r44 => 35666
  | .r48 => 32768
  | .r88 => 17833
  | .r96 => 16384
  | .r176 => 8916
  | .r192 => 8192

/-- The carrier multiple C (R124). -/
def Rate.carrierMultiple : Rate → Nat
  | .r32 => 8
  | .r44 => 8
  | .r48 => 8
  | .r88 => 4
  | .r96 => 4
  | .r176 => 2
  | .r192 => 2

/-- The pulse period in frames: one tenth of the rate (R152). -/
def Rate.pulsePeriod (r : Rate) : Nat := r.hz / 10

/-- The matching condition of R13: 1,000 × |T − nominal| ≤ 4 × nominal. -/
def Rate.isMatch (t : Nat) (r : Rate) : Bool := decide (1000 * ((t : Int) - r.nominal).natAbs ≤ 4 * r.nominal)

/-- The rate that a measurement of `t` reference ticks matches, if any (R13). -/
def matchRate (t : Nat) : Option Rate := rates.find? (Rate.isMatch t)

/-! ## Counters -/

/-- An increment of `n` counts in the total and in the current second (R19). -/
def Counter.bump (c : Counter) (n : Nat) : Counter :=
  { c with total := satAdd c.total n, second := satAdd c.second n }

/-- The whole-second snapshot of a counter (R19). -/
def Counter.snap (c : Counter) : Counter := { c with snapshot := c.second, second := 0 }

/-- The whole-second snapshot of a link's four counters (R19). -/
def LinkCounters.snap (c : LinkCounters) : LinkCounters :=
  { code := c.code.snap, descriptor := c.descriptor.snap, sequence := c.sequence.snap, bsf := c.bsf.snap }

/-- The running total cleared (R20). -/
def Counter.clearTotal (c : Counter) : Counter := { c with total := 0 }

/-! ## Link views -/

/-- The state without its sub-state is ALIGN. -/
def LinkState.isAlign : LinkState → Bool
  | .alignSeek | .alignRead => true
  | _ => false

/-- The state without its sub-state is RECOVER. -/
def LinkState.isRecover : LinkState → Bool
  | .recoverSeek | .recoverRead => true
  | _ => false

/-- The state without its sub-state is MEASURE. -/
def LinkState.isMeasure : LinkState → Bool
  | .measureCounting | .measureUnrecognised => true
  | _ => false

/-- The state without its sub-state is LOCKED or RECOVER: the rate is known and a last good descriptor is kept (R49, R79). -/
def LinkState.carries (st : LinkState) : Bool := st == .locked || st.isRecover

/-- The values of a descriptor that are passed on with its block (R7). -/
def Descriptor.vals (d : Descriptor) : DescValues :=
  { map := d.map, drc := d.drc, pref := d.pref, lfe := d.lfe, stream := d.stream }

/-- A format that the part does not decode (R6). -/
def Format.unsupported : Format → Bool
  | .unsupported2 | .unsupported3 => true
  | _ => false

/-- A position is present in a channel map: bit 7 is FL, bit 0 is BR (R6). -/
def present (map : BitVec 8) (p : Pos) : Bool := map.getLsbD (7 - p.1)

/-- The present positions in position order (R3). -/
def presentList (map : BitVec 8) : List Pos := posIds.filter (present map)

/-! ## Zone views -/

/-- A zone is bound while it is STARTING, ON or STOPPING.RAMP_DOWN (R59). -/
def Power.isBound : Power → Bool
  | .starting | .on | .rampDown => true
  | _ => false

/-- A zone's link: the input named by its bound copy (R59). -/
def Zone.link (r : Zone) : Option LinkId := r.copy.bind (·.input)

/-- The effective surround mode (R83). -/
def Zone.effMode (r : Zone) : EffMode :=
  let named (m : SurroundMode) : Option EffMode :=
    match m with
    | .auto => none
    | .direct => some .direct
    | .stereo => some .stereo
    | .upmix => some .upmix
  let fromMap : EffMode :=
    match r.vals with
    | some v => if (presentList v.map).length = 2 then .upmix else .direct
    | none => .direct
  (named r.mode).getD (((r.copy.bind fun c => named c.mode)).getD fromMap)

/-- Any mute reason is present (R74). -/
def Mutes.any (m : Mutes) : Bool :=
  m.user || m.tuning || m.noSignal || m.format || m.rateMismatch || m.decode || m.tone

/-- The effective target; none is silence (R74). -/
def Zone.target (r : Zone) : Option Int :=
  if (r.power = .on ∨ r.power = .starting) ∧ r.path = .playing ∧ r.mutes.any = false then some r.qv else none

/-- The applied gain value; none is SILENT (R76). -/
def Zone.appliedGain (r : Zone) : Option Int :=
  if r.mutes.tone then (if r.mutes.user then none else some r.qv) else r.qr

/-- A change that sets the ZONE flag (R86), the step of a test tone (R153) among them. -/
def Zone.reportedChange (a b : Zone) : Bool :=
  a.power != b.power || a.path != b.path || a.restart != b.restart || a.selected != b.selected || a.bound != b.bound ||
  a.qv != b.qv || a.mutes != b.mutes || a.mode != b.mode || a.night != b.night || a.clockMode != b.clockMode ||
  a.rampInterval != b.rampInterval || a.autoStandby != b.autoStandby || a.clockState != b.clockState ||
  a.rate != b.rate || a.decode != b.decode || a.alloc != b.alloc || a.effMode != b.effMode ||
  a.vals.map (·.map) != b.vals.map (·.map) || a.vals.map (·.stream) != b.vals.map (·.stream) ||
  a.lastChanged != b.lastChanged || a.tone.speaker != b.tone.speaker

/-- A change that records AUTO when no request makes it (R84). -/
def Zone.auditedChange (a b : Zone) : Bool :=
  a.power != b.power || a.path != b.path || a.clockState != b.clockState || a.rate != b.rate || a.bound != b.bound ||
  a.copy != b.copy || a.mutes != b.mutes || a.decode != b.decode

/-- A change that sets the LINK flag: enable setting, loss window, state or sub-state, rate, format, or a descriptor change
as R18 defines it (R23). -/
def Link.reportedChange (a b : Link) : Bool :=
  let announced (d : Descriptor) : (Format × BitVec 8) × (BitVec 2 × Bool × BitVec 6) :=
    ((d.format, d.map), (d.pref, d.lfe, d.stream))
  a.enabled != b.enabled || a.state != b.state || a.rate != b.rate || a.lossWindow != b.lossWindow ||
  a.lastGood.map announced != b.lastGood.map announced

/-- A change that sets the DU flag of the unit itself: its state or its bound link (R57). -/
def DecodeUnit.reportedChange (a b : DecodeUnit) : Bool := a.state != b.state || a.link != b.link

/-- A change that sets the PAIR flag (R147). -/
def Pair.reportedChange (a b : Pair) : Bool := a.state != b.state || a.retries != b.retries || a.cause != b.cause

/-! ## Accessors -/

/-- Writes a link receiver and sets its LINK flag on the changes that R23 lists. -/
def State.putLink (s : State) (l : LinkId) (r : Link) : State :=
  { s with
    links := setAt s.links l r
    ports := s.ports.raiseIf ((s.links.get l).reportedChange r) (.link l) }

/-- Applies `f` to a link receiver. -/
def State.updLink (s : State) (l : LinkId) (f : Link → Link) : State := s.putLink l (f (s.links.get l))

/-- Writes an activity monitor and sets the LINK flag of its link when its state changes (R34). -/
def State.putMonitor (s : State) (l : LinkId) (m : Monitor) : State :=
  { s with
    monitors := setAt s.monitors l m
    ports := s.ports.raiseIf ((s.monitors.get l).state != m.state) (.link l) }

/-- Writes a source entry; the source table sets no flag (R28). -/
def State.putSource (s : State) (i : SrcId) (e : SourceEntry) : State := { s with sources := setAt s.sources i e }

/-- Writes a decode unit and sets its DU flag when its state or bound link changes (R57). -/
def State.putUnit (s : State) (u : UnitId) (d : DecodeUnit) : State :=
  { s with
    units := setAt s.units u d
    ports := s.ports.raiseIf ((s.units.get u).reportedChange d) (.du u) }

/-- Applies `f` to a decode unit. -/
def State.updUnit (s : State) (u : UnitId) (f : DecodeUnit → DecodeUnit) : State := s.putUnit u (f (s.units.get u))

/-- Sets an event flag in both copies (R199). -/
def State.raise (s : State) (f : Flag) : State := { s with ports := s.ports.raise f }

/-- Writes the wait list; a change of it sets the DU flags of both units (R57). -/
def State.putWaitList (s : State) (w : List ZoneId) : State :=
  { s with waitList := w, ports := (s.ports.raise (.du 0)).raise (.du 1) }

/-- Writes a zone record and sets its ZONE flag on the changes that R86 lists. -/
def State.putZone (s : State) (z : ZoneId) (r : Zone) : State :=
  { s with
    zones := setAt s.zones z r
    ports := s.ports.raiseIf ((s.zones.get z).reportedChange r) (.zone z) }

/-- Applies `f` to a zone record. -/
def State.updZone (s : State) (z : ZoneId) (f : Zone → Zone) : State := s.putZone z (f (s.zones.get z))

/-- Applies `f` to a zone record on an announcement or on a timer of the zone's own: a change that R84 lists records AUTO
(log 23). -/
def State.autoZone (s : State) (z : ZoneId) (f : Zone → Zone) : State :=
  s.updZone z fun r => let r' := f r; if r.auditedChange r' then { r' with lastChanged := .auto } else r'

/-- Records the origin of a zone request that is taken (R84). -/
def State.zoneOrigin (s : State) (z : ZoneId) (o : Origin) : State := s.updZone z fun r => { r with lastChanged := o }

/-- Writes a speaker table entry. R133 gives the flags, which the write of SET_SPEAKER sets. -/
def State.putSpeaker (s : State) (c : Chan) (e : Speaker) : State := { s with speakers := setAt s.speakers c e }

/-- Applies `f` to a modulator channel; channels set no flag (R133, R147). -/
def State.updChannel (s : State) (c : Chan) (f : Channel → Channel) : State :=
  { s with channels := setAt s.channels c (f (s.channels.get c)) }

/-- Writes a pair's record and sets its PAIR flag on a change of state, retry count or last cause (R147). -/
def State.putPair (s : State) (q : PairId) (r : Pair) : State :=
  { s with
    pairs := setAt s.pairs q r
    ports := s.ports.raiseIf ((s.pairs.get q).reportedChange r) (.pair q) }

/-- Applies `f` to a pair's record. -/
def State.updPair (s : State) (q : PairId) (f : Pair → Pair) : State := s.putPair q (f (s.pairs.get q))

/-- Writes an encoder's record; encoders own no flag (R188). -/
def State.putEncoder (s : State) (e : EncId) (r : Encoder) : State := { s with encoders := setAt s.encoders e r }

/-- Writes a port. -/
def State.putPort (s : State) (p : Port) (r : PortState) : State := { s with ports := s.ports.put p r }

/-- Applies `f` to a port. -/
def State.updPort (s : State) (p : Port) (f : PortState → PortState) : State := s.putPort p (f (s.ports.get p))

/-- Applies an operation to each object of a list in turn, in the order of the list. -/
def State.forEach {α : Type} (s : State) (xs : List α) (f : State → α → State) : State := xs.foldl f s

/-! ## Whole seconds -/

/-- The millisecond timer has a whole second: a multiple of 1,000 (R19). -/
def wholeSecond (now : Millis) : Bool := now.toNat % 1000 == 0

/-- The snapshot of a whole second that is still to be taken: every counter of every link moves its current-second count into
its snapshot. Where none is due, nothing happens (R19, log 43). -/
def takeSnapshot (s : State) : State :=
  if s.snapshotDue = true then
    { s.forEach linkIds fun s l => s.updLink l fun r => { r with counters := r.counters.snap } with snapshotDue := false }
  else s

end Sys2Proof.Machine
end

