-- ==== Sys2Proof/Machine/Mix.lean ====
section
/-! DEFINITION. The coefficient builder, the mix stage and the gain stage (chapter Channel Mixing and Gain, R88 to R101), the
duty conversion (R125) and the tone sample (R151, R152), as arithmetic on their inputs alone. -/

namespace Sys2Proof.Machine

def posFL : Pos := 0
def posFR : Pos := 1
def posC : Pos := 2
def posSUB : Pos := 3
def posSL : Pos := 4
def posSR : Pos := 5
def posBL : Pos := 6
def posBR : Pos := 7

/-! ## Speaker entries of a zone -/

/-- A zone's speaker entries by their channels, in modulator-channel order (R119). -/
def zoneChannels (spk : Vector Speaker 12) (z : ZoneId) : List Chan :=
  chanIds.filter fun c => decide ((spk.get c).zone = some z)

/-- A zone has a speaker entry at a position. -/
def hasSpeaker (spk : Vector Speaker 12) (z : ZoneId) (p : Pos) : Bool :=
  (zoneChannels spk z).any fun c => decide ((spk.get c).position = p)

/-! ## Coefficient builder -/

/-- The surround fold gain of a downmix preference (R90). -/
def foldGain (pref : BitVec 2) : Int :=
  if pref = 0 then 11585 else if pref = 1 then 9759 else if pref = 2 then 8192 else 0

/-- The coefficient of SUB to the SUB speaker, or of another position to its own speaker (R91, R94). -/
def directCoef (lfe : Bool) (p : Pos) : Int := if p = posSUB ∧ lfe = true then 32767 else 16384

/-- Where a missing position folds, before any second step, with the coefficient to each target (R92). -/
def foldTargets (has : Pos → Bool) (gs : Int) (lfe : Bool) (p : Pos) : List (Pos × Int) :=
  if p = posC then [(posFL, 11585), (posFR, 11585)]
  else if p = posSL then [(posFL, gs)]
  else if p = posSR then [(posFR, gs)]
  else if p = posBL then [(if has posSL then posSL else posFL, gs)]
  else if p = posBR then [(if has posSR then posSR else posFR, gs)]
  else if p = posSUB then (if lfe then [(posFL, 16384), (posFR, 16384)] else [(posFL, 11585), (posFR, 11585)])
  else [(posC, 11585)]

/-- The coefficient of a two-step path: the product divided by 16,384 and rounded half up (R93). -/
def twoStep (c : Int) : Int := sar (c * 11585 + 8192) 14

/-- The end of one fold: at its target when the zone has it; a fold that reaches a missing FL or FR goes on to C when the
zone has one, and is dropped otherwise (R92, R93). -/
def landFold (has : Pos → Bool) (t : Pos × Int) : List (Pos × Int) :=
  if has t.1 then [t]
  else if (t.1 = posFL ∨ t.1 = posFR) ∧ has posC = true then [(posC, twoStep t.2)]
  else []

/-- Every path from a present source position to the speakers `has` names (R91 to R93). -/
def directPaths (has : Pos → Bool) (gs : Int) (lfe : Bool) (p : Pos) : List (Pos × Int) :=
  if has p then [(p, directCoef lfe p)] else (foldTargets has gs lfe p).flatMap (landFold has)

/-- The sum of the paths that reach a speaker position, saturated to 16 bits (R93). -/
def pathSum (paths : List (Pos × Int)) (row : Pos) : Int :=
  clampInt (-32768) 32767 (((paths.filter fun t => decide (t.1 = row)).map (·.2)).sum)

/-- The UPMIX table: the coefficient of a speaker position under FL and under FR (R95). -/
def upmixTable (row : Pos) : Int × Int :=
  if row = posFL then (16384, 0)
  else if row = posFR then (0, 16384)
  else if row = posC then (5793, 5793)
  else if row = posSL ∨ row = posBL then (8192, -8192)
  else if row = posSR ∨ row = posBR then (-8192, 8192)
  else (0, 0)

/-- The UPMIX coefficient with the fold of a missing front to C added to C's own (R95). -/
def upmixCoef (has : Pos → Bool) (row p : Pos) : Int :=
  let own := if p = posFL then (upmixTable row).1 else if p = posFR then (upmixTable row).2 else 0
  if (p = posFL ∨ p = posFR) ∧ has p = false ∧ row = posC then own + 11585 else own

/-- The mode the builder applies: UPMIX for the map that holds exactly FL and FR, DIRECT in its place otherwise (R95, R106). -/
def appliedMode (mode : EffMode) (map : BitVec 8) : EffMode :=
  match mode with
  | .upmix => if map = 0xC0#8 then .upmix else .direct
  | m => m

/-- The speakers that count in STEREO: FL, FR and SUB (R94). -/
def stereoHas (has : Pos → Bool) (p : Pos) : Bool := (p == posFL || p == posFR || p == posSUB) && has p

/-- One coefficient of a set: the share of source position `p` that the speaker at `row` receives (R91 to R95). -/
def coefficient (has : Pos → Bool) (mode : EffMode) (gs : Int) (lfe : Bool) (map : BitVec 8) (row p : Pos) : Int :=
  if present map p then
    match mode with
    | .direct => pathSum (directPaths has gs lfe p) row
    | .stereo => pathSum (directPaths (stereoHas has) gs lfe p) row
    | .upmix => upmixCoef has row p
  else 0

/-- Eight values in position order. -/
def byPos {α : Type} (f : Pos → α) : Vector α 8 := Vector.ofFn f

/-- The coefficient set of a zone for descriptor values and an effective surround mode (R88, R89). -/
def buildSet (spk : Vector Speaker 12) (z : ZoneId) (mode : EffMode) (v : DescValues) : CoefSet :=
  let m := appliedMode mode v.map
  let gs := foldGain v.pref
  { inputs := { map := v.map, mode := m, gs := gs, lfe := v.lfe }
    rows := (zoneChannels spk z).map fun c =>
      { channel := c, position := (spk.get c).position,
        coefs := byPos (coefficient (hasSpeaker spk z) m gs v.lfe v.map (spk.get c).position) } }

/-- The set the builder forms from a zone's record as it stands; none is the empty set (R88, R89). -/
def buildFor (spk : Vector Speaker 12) (z : ZoneId) (r : Zone) : Option CoefSet :=
  r.vals.map (buildSet spk z r.effMode)

/-- The rows of a zone's active set; the empty set has a row of zeros for each speaker entry (R88). -/
def activeRows (spk : Vector Speaker 12) (z : ZoneId) (active : Option CoefSet) : List CoefRow :=
  match active with
  | some cs => cs.rows
  | none => (zoneChannels spk z).map fun c =>
      { channel := c, position := (spk.get c).position, coefs := byPos fun _ => 0 }

/-! ## Mix stage and gain stage -/

/-- A value and whether saturation to the 24-bit range changed it (R98, R101). -/
def saturated (x : Int) : Sample × Bool := (BitVec.ofInt 24 (satSample x), decide (satSample x ≠ x))

/-- The exact sum of the eight products of a row (R98). -/
def dotProduct (coefs : Vector Int 8) (source : Vector Sample 8) : Int :=
  (posIds.map fun p => coefs.get p * (source.get p).toInt).sum

/-- The mix value of a row and whether it clipped (R98). -/
def mixValue (coefs : Vector Int 8) (source : Vector Sample 8) : Sample × Bool :=
  saturated (sar (dotProduct coefs source + 8192) 14)

/-- The multipliers M[k] (R101). -/
def gainTable : Vector Int 12 :=
  #v[32768, 34717, 36781, 38968, 41285, 43740, 46341, 49097, 52016, 55109, 58386, 61858]

/-- M[k] for the step within the octave. -/
def gainMultiplier (q : Int) : Int := gainTable.toList.getD (q % 12).toNat 0

/-- The shift s = 15 − e (R101). -/
def gainShift (q : Int) : Nat := (15 - q / 12).toNat

/-- The gain step sum q_eff (R99). -/
def gainSum (qa qs qt : Int) (night : Bool) (drc : Nat) : Int := qa + qs + qt - (if night then (drc : Int) else 0)

/-- The gain output of a mix value for a q_eff of −160 to +24, and whether it clipped (R101). -/
def gainScale (y : Sample) (q : Int) : Sample × Bool :=
  saturated (sar (y.toInt * gainMultiplier q + (2 : Int) ^ (gainShift q - 1)) (gainShift q))

/-- The gain stage (R99 to R101): zero for SILENT and below −160, with no clip; above +24 taken as +24. -/
def gainOutput (y : Sample) (qa : Option Int) (qs qt : Int) (night : Bool) (drc : Nat) : Sample × Bool :=
  match qa with
  | none => (0, false)
  | some a =>
    let q := gainSum a qs qt night drc
    if q < -160 then (0, false) else gainScale y (if 24 < q then 24 else q)

/-! ## Delay conversion and duty conversion -/

/-- Whole frames of a delay in microseconds at a rate (R109). -/
def delayFrames (micros : Nat) (r : Rate) : Nat := (micros * r.hz + 500000) / 1000000

/-- Microseconds of a number of frames at a rate, rounded down (R109). -/
def framesMicros (frames : Nat) (r : Rate) : Nat := frames * 1000000 / r.hz

/-- The centre duty 2^(W−1) (R125). -/
def centreDuty (w : Nat) : Nat := 2 ^ (w - 1)

/-- The duty count of a sample for W and m (R125). -/
def dutyCount (w m : Nat) (z : Sample) : Nat :=
  clampNat m (2 ^ w - m) ((z.toInt + 8388608).toNat / 2 ^ (24 - w))

/-- One frame through a first-in first-out delay: what leaves it and what it then holds (R111). -/
def delayStep (q : List Sample) (x : Sample) : Sample × List Sample :=
  match q with
  | [] => (x, [])
  | y :: ys => (y, ys ++ [x])

/-- A carrier period for a duty count: high for the first d ticks with normal polarity, low with inverted (R126). -/
def pwmPeriod (w d : Nat) (inverted : Bool) : Wave := .pulse (!inverted) d (2 ^ w - d)

/-! ## Tone sample -/

/-- One shift of the noise register: the new bit is 1 when exactly one of stages 23 and 18 is set (R151). -/
def noiseShift (v : BitVec 23) : BitVec 23 :=
  (v <<< 1) ||| (if (v.getLsbD 22 != v.getLsbD 17) then 1#23 else 0#23)

/-- The NOISE sample taken from the register after a shift (R151). -/
def noiseSample (v : BitVec 23) : Sample := BitVec.ofInt 24 (sar ((v.toNat : Int) - 4194304) 3)

/-- The PULSE sample (R152). -/
def pulseSample (count : Nat) : Sample := if count = 0 then BitVec.ofInt 24 4194304 else 0

/-- The pulse count after a frame (R152). -/
def pulseNext (count : Nat) (r : Rate) : Nat := if r.pulsePeriod ≤ count + 1 then 0 else count + 1

end Sys2Proof.Machine
end

