-- ==== Sys2Proof/Machine/Output.lean ====
section
/-! DEFINITION. The output stage: channel roles, the carrier, what each channel presents, drive modes and holds (chapter
Loudspeaker Modulators), and the protection monitor's trips and probes (chapter Output Protection), which act on it. -/

namespace Sys2Proof.Machine

/-! ## Roles and pairs -/

/-- The other channel of a pair. -/
def partner (c : Chan) : Chan := if h : c.1 % 2 = 0 then ⟨c.1 + 1, by omega⟩ else ⟨c.1 - 1, by omega⟩

/-- The pair of a channel: M0 and M1 are P0, and so on. -/
def pairOf (c : Chan) : PairId := ⟨c.1 / 2, by omega⟩

/-- The lower, even channel of a pair. -/
def lowerChan (q : PairId) : Chan := ⟨2 * q.1, by omega⟩

/-- The upper, odd channel of a pair. -/
def upperChan (q : PairId) : Chan := ⟨2 * q.1 + 1, by omega⟩

/-- The role of a channel (R119). -/
inductive Role where
  | own
  | held (by_ : Chan)
  | unused
  deriving DecidableEq, Repr

/-- The bridging channel that holds an odd channel, if one does (R119). -/
def heldBy (spk : Vector Speaker 12) (c : Chan) : Option Chan :=
  if c.1 % 2 = 1 ∧ (spk.get (partner c)).zone.isSome = true ∧ (spk.get (partner c)).bridged = true then some (partner c)
  else none

/-- The role of a channel (R119). -/
def roleOf (spk : Vector Speaker 12) (c : Chan) : Role :=
  if (spk.get c).zone.isSome then .own
  else match heldBy spk c with
    | some k => .held k
    | none => .unused

/-- The zone a channel serves: its entry's, or the bridging entry's for a held channel (R119, R128). -/
def chanZone (spk : Vector Speaker 12) (c : Chan) : Option ZoneId :=
  match roleOf spk c with
  | .own => (spk.get c).zone
  | .held k => (spk.get k).zone
  | .unused => none

/-- The zone of a pair: that of the used entries on its two channels (R119). -/
def pairZone (spk : Vector Speaker 12) (q : PairId) : Option ZoneId :=
  match (spk.get (lowerChan q)).zone with
  | some z => some z
  | none => (spk.get (upperChan q)).zone

/-- The polarity of a channel: both channels of a bridged pair take the bridged entry's (R126). -/
def chanInverted (spk : Vector Speaker 12) (c : Chan) : Bool :=
  match roleOf spk c with
  | .held k => (spk.get k).inverted
  | _ => (spk.get c).inverted

/-- The output stage holds the pair: TRIPPED or LATCHED (R130, R136). -/
def PairState.holds : PairState → Bool
  | .tripped | .latched => true
  | _ => false

/-! ## What a channel presents -/

/-- The duty count a channel is to present in a carrier period, none at the off level (R126, R128, R130). A hold that ends
resumes on the count of the output frame in progress (log 25). -/
def dutyFor (s : State) (c : Chan) : Option Nat :=
  if (s.pairs.get (pairOf c)).state.holds then none
  else match chanZone s.speakers c with
    | none => none
    | some z =>
      let r := s.zones.get z
      match r.driveNow, roleOf s.speakers c with
      | .off, _ => none
      | _, .unused => none
      | .centre, _ => some (centreDuty r.resolution)
      | .audio, .own => some (s.channels.get c).duty
      | .audio, .held k => some (2 ^ r.resolution - (s.channels.get k).duty)

/-- A channel at the off level: low for the whole period, whatever its polarity (R126, R128). -/
def Channel.off (x : Channel) : Channel := { x with shown := none, wave := .low, timedBy := none }

/-- A channel that presents a duty count in a carrier period of zone `z` (R126). -/
def Channel.present (z : ZoneId) (w d : Nat) (inverted : Bool) (x : Channel) : Channel :=
  { x with shown := some d, wave := pwmPeriod w d inverted, timedBy := some z }

/-- The presentation of one channel at the start of a carrier period of zone `z`: the zone's channels take what the drive
mode calls for, and a channel the zone no longer has goes to the off level (R121, R127, R128). R121 does not say whose boundary ends
the last period of a channel that was moved to another zone meanwhile: that the first to come does, the old zone's boundary or the
new zone's boundary or carrier start, is the model's choice (log 27). -/
def presentChannel (z : ZoneId) (s : State) (c : Chan) : State :=
  if chanZone s.speakers c = some z then
    match dutyFor s c with
    | some d => s.updChannel c (Channel.present z (s.zones.get z).resolution d (chanInverted s.speakers c))
    | none => s.updChannel c Channel.off
  else if (s.channels.get c).timedBy = some z then s.updChannel c Channel.off
  else s

/-- A pair of zone `z` starts a carrier period: it is driven through the period unless it is held, or a hold or the end of
the carrier cuts the period (R137). -/
def beginPairPeriod (z : ZoneId) (s : State) (q : PairId) : State :=
  if pairZone s.speakers q = some z then s.updPair q fun p => { p with driven := !p.state.holds } else s

/-- A carrier period of zone `z` begins with the drive mode in effect. -/
def beginPeriod (s : State) (z : ZoneId) : State :=
  (s.forEach chanIds (presentChannel z)).forEach pairIds (beginPairPeriod z)

/-- A pair of a zone whose carrier stops: nothing is driven and the fault count is 0 (R137). -/
def stopPair (z : ZoneId) (s : State) (q : PairId) : State :=
  if pairZone s.speakers q = some z then s.updPair q fun p => { p with driven := false, faults := 0 } else s

/-- The zone's carrier stops and its channels go to the off level (R129). -/
def stopCarrier (s : State) (z : ZoneId) : State :=
  (s.forEach chanIds (presentChannel z)).forEach pairIds (stopPair z)

/-- The counts that wait come into force on the zone's speakers: the latest samples formed (R127, R129). -/
def takeDuties (s : State) (z : ZoneId) : State :=
  s.forEach (zoneChannels s.speakers z) fun s c => s.updChannel c fun x => { x with duty := x.next }

/-- A new output frame and its first carrier period begin with a drive mode in effect (R124). -/
def beginFrame (s : State) (z : ZoneId) (m : DriveMode) : State :=
  beginPeriod (s.updZone z fun r => { r with driveNow := m, period := 0 }) z

/-- A zone hands a drive mode. From OFF the carrier starts at once with a new output frame; any other change waits for the next
carrier period boundary, and the last one handed governs there (R129). -/
def handDrive (s : State) (z : ZoneId) (m : DriveMode) : State :=
  let stopped := decide ((s.zones.get z).driveNow = .off)
  let s := s.updZone z fun r => { r with drive := m }
  if stopped ∧ m ≠ .off then beginFrame s z m else s

/-- The carrier restarts at a change of output rate: the period in progress ends at once, unsampled, and a new output frame
begins with the drive mode last handed (R124, R128, R137, log 27). A carrier that stands still, or is to stop at its next
boundary, is left alone. -/
def restartCarrier (s : State) (z : ZoneId) : State :=
  let r := s.zones.get z
  if r.driveNow = .off ∨ r.drive = .off then s else beginFrame s z r.drive

/-! ## Holds, trips and probes -/

/-- A hold starts: both channels of the pair go to the off level at once and the period is cut short (R130, R140). -/
def startHold (s : State) (q : PairId) : State :=
  ((s.updChannel (lowerChan q) Channel.off).updChannel (upperChan q) Channel.off).updPair q fun p =>
    { p with driven := false, faults := 0 }

/-- A pair enters TRIPPED, with its retry timer at 250 ms, or LATCHED (R140). -/
def enterTripped (now : Millis) (latch : Bool) (p : Pair) : Pair :=
  { p with state := if latch then .latched else .tripped, retryTimer := if latch then none else some (newTimer now 250),
           probeWindow := none }

/-- A trip taken in PROBE: the retry count rises and the pair is latched once it is at the retry limit (R140). -/
def tripInProbe (now : Millis) (cause : Cause) (p : Pair) : Pair :=
  let n := min 255 (p.retries + 1)
  enterTripped now (decide (p.retryLimit ≤ n)) { p with cause := cause, retries := n }

/-- The monitor takes a trip offer by the state of the pair (R140). -/
def offerTrip (s : State) (q : PairId) (cause : Cause) : State :=
  match (s.pairs.get q).state with
  | .normal => startHold (s.updPair q fun p => enterTripped s.ms false { p with cause := cause }) q
  | .probe => startHold (s.updPair q (tripInProbe s.ms cause)) q
  | _ => s

/-- A watch stands (R138). -/
def Watch.stands : Watch → Bool
  | .standing _ => true
  | _ => false

/-- The first channel of a pair with a STANDING watch, the lower one when both stand (R141). -/
def standingChannel (s : State) (q : PairId) : Option Chan :=
  if (s.channels.get (lowerChan q)).watch.stands then some (lowerChan q)
  else if (s.channels.get (upperChan q)).watch.stands then some (upperChan q)
  else none

/-- A pair is probed: a STANDING watch fails the probe at once as a DC trip in PROBE; otherwise the pair enters PROBE with
its window at 50 ms and the hold ends, which the channels follow at their next carrier boundary (R130, R141). -/
def probePair (s : State) (q : PairId) : State :=
  match standingChannel s q with
  | some c => s.updPair q (tripInProbe s.ms (.dc c))
  | none => s.updPair q fun p =>
      { p with state := .probe, retryTimer := none, probeWindow := some (newTimer s.ms 50), faults := 0, driven := false }

/-- The next asserted FLT brings the count of the pair to 4: the carrier of its zone runs, the pair has been driven through the
period in progress, and three such periods in a row ended with FLT asserted (R137). -/
def faultCounted (s : State) (q : PairId) : Bool :=
  match pairZone s.speakers q with
  | some z => (s.zones.get z).driveNow != .off && (s.pairs.get q).driven && (s.pairs.get q).faults == 3
  | none => false

/-- A trip by the fault count: the count returns to 0 and the pair is offered the trip (R137). -/
def faultTrip (s : State) (q : PairId) : State := offerTrip (s.updPair q fun p => { p with faults := 0 }) q .fault

/-- FLT sampled at the end of a carrier period of zone `z` for one pair. The level is seen for every pair; it is counted for
a pair of the zone that was driven for the whole period (R137). -/
def samplePair (z : ZoneId) (flt : Vector Bool 6) (s : State) (q : PairId) : State :=
  let s := s.updPair q fun p => { p with flt := flt.get q }
  if pairZone s.speakers q = some z ∧ (s.pairs.get q).driven = true then
    if flt.get q then
      if 4 ≤ (s.pairs.get q).faults + 1 then faultTrip s q
      else s.updPair q fun p => { p with faults := p.faults + 1 }
    else s.updPair q fun p => { p with faults := 0 }
  else s

/-- The carrier period that ends is the last of the C periods of its output frame (R124). -/
def Zone.frameEnds (r : Zone) : Bool := decide (r.rate.carrierMultiple ≤ r.period + 1)

/-- The counts of the latest samples come into force at this boundary: an output frame begins (R127), or AUDIO takes effect
(R129). -/
def Zone.takesDuties (r : Zone) : Bool := r.frameEnds || (r.driveNow == .centre && r.drive == .audio)

/-- A carrier period boundary of a zone whose carrier runs: the period that ends is sampled (R137), the drive mode last
handed takes effect, and the next period of the output frame, or the first of the next frame, begins or the carrier stops
(R124, R127, R129). -/
def carrierBoundary (s : State) (z : ZoneId) (flt : Vector Bool 6) : State :=
  let r := s.zones.get z
  if r.driveNow = .off then s
  else
    let s := (s.forEach pairIds (samplePair z flt)).updZone z fun r =>
      { r with driveNow := r.drive, period := if r.drive = .off ∨ r.frameEnds = true then 0 else r.period + 1 }
    if r.drive = .off then stopCarrier s z else beginPeriod (if r.takesDuties then takeDuties s z else s) z

/-! ## DC watch -/

/-- The sign of a qualifying sample: positive, negative, or none when it does not qualify (R138). -/
def qualifies (x : Sample) : Option Bool :=
  if 4194304 ≤ x.toInt then some true else if x.toInt ≤ -4194304 then some false else none

/-- A DC watch takes a gain output (R138); `dcTime` is the DC time its timers start with. -/
def watchSample (now : Millis) (dcTime : Nat) (w : Watch) (x : Sample) : Watch :=
  match qualifies x with
  | none => .clear
  | some sign =>
    match w with
    | .clear => .run sign (newTimer now dcTime)
    | .run held t => if held = sign then .run held t else .run sign (newTimer now dcTime)
    | .standing held => if held = sign then .standing held else .run sign (newTimer now dcTime)

end Sys2Proof.Machine
end

