-- ==== Sys2Proof/Machine/Arbiter.lean ====
section
/-! DEFINITION. The elastic buffer's write (R80, R81), the decode arbiter (R49 to R55) and the decode units' handling of
blocks and frames (R39 to R47). -/

namespace Sys2Proof.Machine

/-! ## Elastic buffer -/

/-- The values carried by the last of the frames that carries any. -/
def lastVals (fs : List BufFrame) : Option DescValues := fs.foldl (fun acc f => f.vals.or acc) none

/-- The discard of the 64 oldest frames; values that a discarded frame carried pass to the oldest that remains (R70, R80).
DESIGN CHOICE (log 46, unsafe): R70 does not say which values prevail when the frame that remains carries its own, nor when
several discarded frames carry values; the frame that remains keeps its own, and of the discarded ones the newest passes. -/
def skipFrames (buf : List BufFrame) : List BufFrame :=
  match buf.drop 64 with
  | [] => []
  | f :: fs => { f with vals := f.vals.or (lastVals (buf.take 64)) } :: fs

/-- A frame that reaches a bound zone with a link, in FADING, FILLING or PLAYING, is written at the tail, after a SKIP when
the buffer holds 128 frames; a write that brings it to 64 frames ends FILLING or refilling (R67, R80, R81). -/
def Zone.write (r : Zone) (f : BufFrame) : Zone :=
  if r.power.isBound = true ∧ r.link.isSome = true ∧ r.path ≠ .idle then
    let full := decide (128 ≤ r.buffer.length)
    let buf := (if full then skipFrames r.buffer else r.buffer) ++ [f]
    let filled := decide (buf.length = 64)
    { r with buffer := buf
             skips := if full then satAdd r.skips 1 else r.skips
             path := if filled ∧ r.path = .filling then .playing else r.path
             refilling := if filled then false else r.refilling }
  else r

/-- A frame reaches a zone. The write records no origin, the one that ends FILLING among them (R84, log 23). -/
def writeFrame (s : State) (z : ZoneId) (f : BufFrame) : State := s.updZone z fun r => r.write f

/-! ## Decode positions -/

/-- A link gives need of decode: LOCKED or in RECOVER, with a last good descriptor of format BSF (R49). -/
def linkNeedsDecode (s : State) (l : LinkId) : Bool :=
  (s.links.get l).state.carries && decide ((s.links.get l).lastGood.map (·.format) = some .bsf)

/-- The unit that serves a link (R38). -/
def servingUnit (s : State) (l : LinkId) : Option UnitId :=
  unitIds.find? fun u => decide ((s.units.get u).link = some l)

/-- The lowest-numbered FREE unit (R50). -/
def lowestFree (s : State) : Option UnitId := unitIds.find? fun u => decide ((s.units.get u).state = .free)

/-- The zones attached to a unit, in zone order (R38). -/
def attachedZones (s : State) (u : UnitId) : List ZoneId :=
  zoneIds.filter fun z => decide ((s.zones.get z).decode = .attached u)

/-- DECODE is present while the zone waits or is attached to a unit in SYNCING (R55, R73). -/
def decodeMuted (s : State) : DecodePos → Bool
  | .none => false
  | .waiting => true
  | .attached u => (s.units.get u).state == .syncing

/-- The DU flag of a unit whose attached set a change of position touches (R57). -/
def raiseAttached (s : State) : DecodePos → State
  | .attached u => s.raise (.du u)
  | _ => s

/-- The arbiter tells a zone its decode position; the zone records it and sets or clears DECODE (R55). A newly attached zone
is owed the unit's values with its first frame (R44). -/
def setDecode (s : State) (z : ZoneId) (pos : DecodePos) : State :=
  let old := (s.zones.get z).decode
  let muted := decodeMuted s pos
  let s := s.autoZone z fun r =>
    { r with decode := pos, mutes := { r.mutes with decode := muted },
             owed := if old = pos then r.owed else decide (pos ≠ .none ∧ pos ≠ .waiting) }
  if old = pos then s else raiseAttached (raiseAttached s old) pos

/-- A unit is bound to a link and enters SYNCING (R45). The values of its zero frames are an empty channel map; the rest of
them are free values (R46, log 11). -/
def bindUnit (s : State) (u : UnitId) (l : LinkId) : State :=
  let n := s.fresh
  { s.updUnit u fun _ =>
      { state := .syncing, link := some l, output := [],
        vals := { map := 0, drc := min 48 (Config.syncingDrc n).toNat, pref := Config.syncingPref n,
                  lfe := Config.syncingLfe n, stream := Config.syncingStream n },
        owed := false, store := none, mark := false, concealed := 0, silenced := 0 } with fresh := n + 1 }

/-- A unit becomes FREE; its counts stay for status (R47). -/
def clearUnit (s : State) (u : UnitId) : State :=
  s.updUnit u fun d => { d with state := .free, link := none, output := [], owed := false }

/-- A freed unit is granted to the head of the wait list and to the waiters on the same link (R52). -/
def grantUnit (s : State) (u : UnitId) : State :=
  match s.waitList with
  | [] => s
  | z :: rest =>
    match (s.zones.get z).link with
    | none => s
    | some l =>
      let same := rest.filter fun y => decide ((s.zones.get y).link = some l)
      let s := bindUnit (s.putWaitList (rest.filter fun y => decide ((s.zones.get y).link ≠ some l))) u l
      s.forEach (z :: same) fun s y => setDecode s y (.attached u)

/-- A unit whose attached set is empty becomes FREE and is granted at once (R47, R51, R52). -/
def freeIfEmpty (s : State) (u : UnitId) : State :=
  if (attachedZones s u).isEmpty then grantUnit (clearUnit s u) u else s

/-- A zone's need ends: it leaves its decode position (R51). -/
def releaseDecode (s : State) (z : ZoneId) : State :=
  match (s.zones.get z).decode with
  | .none => s
  | .waiting => setDecode (s.putWaitList (s.waitList.filter fun y => decide (y ≠ z))) z .none
  | .attached u => freeIfEmpty (setDecode s z .none) u

/-- A zone comes to need decode for a link (R50). -/
def placeDecode (s : State) (z : ZoneId) (l : LinkId) : State :=
  match servingUnit s l with
  | some u => setDecode s z (.attached u)
  | none =>
    match lowestFree s with
    | some u => setDecode (bindUnit s u l) z (.attached u)
    | none => setDecode (s.putWaitList (if z = 0 then z :: s.waitList else s.waitList ++ [z])) z .waiting

/-- A bind or rebind announcement with the zone's old and new link, taken whole (R53). -/
def rebindDecode (s : State) (z : ZoneId) (old new : Option LinkId) : State :=
  match new with
  | none => releaseDecode s z
  | some l =>
    if linkNeedsDecode s l then
      if old = new ∧ (s.zones.get z).decode ≠ .none then setDecode s z (s.zones.get z).decode
      else placeDecode (releaseDecode s z) z l
    else releaseDecode s z

/-- A zone on the link whose need begins is placed (R54). -/
def placeIfNone (l : LinkId) (s : State) (z : ZoneId) : State :=
  if (s.zones.get z).link = some l ∧ (s.zones.get z).decode = .none then placeDecode s z l else s

/-- A zone on the link whose need ends leaves its position; the unit is freed afterwards, once (R54). -/
def dropNeed (l : LinkId) (s : State) (z : ZoneId) : State :=
  if (s.zones.get z).link = some l ∧ (s.zones.get z).decode ≠ .none then
    setDecode (if (s.zones.get z).decode = .waiting then s.putWaitList (s.waitList.filter fun y => decide (y ≠ z)) else s)
      z .none
  else s

/-- The arbiter takes a link state change or format change of a link as it now stands (R54). -/
def arbiterLink (s : State) (l : LinkId) : State :=
  if linkNeedsDecode s l then s.forEach zoneIds (placeIfNone l)
  else
    let s := s.forEach zoneIds (dropNeed l)
    match servingUnit s l with
    | some u => freeIfEmpty s u
    | none => s

/-! ## Decode unit: blocks -/

/-- A block's mantissas of one frame, by position; an absent position holds 0 (R4). -/
abbrev MantissaFrame := Vector (BitVec 16) 8

/-- The exponent of a channel for the half-block that holds frame `k` (R40). -/
def Descriptor.expo (d : Descriptor) (k : Nat) (p : Pos) : Nat :=
  if k < 32 then (d.expo1.get p).toNat else (d.expo2.get p).toNat

/-- The expansion of one mantissa: zero for an exponent of 9 to 15 (R40). -/
def expand (m : BitVec 16) (e : Nat) : Sample := if e ≤ 8 then BitVec.ofInt 24 (m.toInt * 2 ^ e) else 0

/-- The decoded frame `k` of a block; an absent position carries zero (R39, R40). -/
def decodeFrame (d : Descriptor) (k : Nat) (f : MantissaFrame) : Vector Sample 8 :=
  byPos fun p => if present d.map p then expand (f.get p) (d.expo k p) else 0

/-- The decoded frames of a block (R39). -/
def decodeBlock (d : Descriptor) (fs : List MantissaFrame) : List (Vector Sample 8) :=
  (List.range fs.length).zipWith (decodeFrame d) fs

/-- The sum modulo 65,536 of all mantissas of present channels, each as an unsigned 16-bit value (R41). -/
def blockSum (d : Descriptor) (fs : List MantissaFrame) : BitVec 16 :=
  (fs.flatMap fun f => (presentList d.map).map f.get).foldl (· + ·) 0

/-- The BSF errors of a block from exponents: one for each present channel in each half (R40). -/
def exponentErrors (d : Descriptor) : Nat :=
  ((presentList d.map).filter fun p => decide (9 ≤ d.expo 0 p)).length +
  ((presentList d.map).filter fun p => decide (9 ≤ d.expo 32 p)).length

/-- Counts BSF errors of the link (R48). -/
def countBsf (s : State) (l : LinkId) (n : Nat) : State :=
  s.updLink l fun r => { r with counters := { r.counters with bsf := r.counters.bsf.bump n } }

/-- The unit tells its attached zones that it runs (R55). -/
def clearDecodeMute (s : State) (u : UnitId) : State :=
  s.forEach (attachedZones s u) fun s z => s.autoZone z fun r => { r with mutes := { r.mutes with decode := false } }

/-- A block that passed its checksum is output as decoded and copied into the concealment store (R39, R42, R46). -/
def outputDecoded (d : Descriptor) (fs : List MantissaFrame) (x : DecodeUnit) : DecodeUnit :=
  { x with state := .running, output := decodeBlock d fs, vals := d.vals, owed := true,
           store := some { frames := decodeBlock d fs, vals := d.vals }, mark := true }

/-- A failed block in RUNNING: concealed from the store when the preceding-good mark is set, silenced otherwise (R42). -/
def outputFailed (d : Descriptor) (x : DecodeUnit) : DecodeUnit :=
  match x.mark, x.store with
  | true, some b => { x with output := b.frames, vals := b.vals, owed := true, mark := false,
                             concealed := satAdd x.concealed 1 }
  | _, _ => { x with output := [], vals := d.vals, owed := true, mark := false, silenced := satAdd x.silenced 1 }

/-- A block in SYNCING that does not qualify: not output, its values go with the zero frames (R46). -/
def outputUnqualified (d : Descriptor) (x : DecodeUnit) : DecodeUnit :=
  { x with output := [], vals := d.vals, owed := true }

/-- A unit takes a BSF block of its link whole (R39 to R42, R46). -/
def unitTakesBlock (s : State) (u : UnitId) (l : LinkId) (d : Descriptor) (fs : List MantissaFrame) : State :=
  let passes := decide (blockSum d fs = d.checksum)
  match (s.units.get u).state with
  | .free => s
  | .running =>
    if passes then (countBsf s l (exponentErrors d)).updUnit u (outputDecoded d fs)
    else (countBsf s l 1).updUnit u (outputFailed d)
  | .syncing =>
    if passes ∧ exponentErrors d = 0 then clearDecodeMute (s.updUnit u (outputDecoded d fs)) u
    else (countBsf s l (if passes then exponentErrors d else 1)).updUnit u (outputUnqualified d)

/-- A block period in which the unit took no block, or the entry to RECOVER: zeros are handed out and the preceding-good
mark is cleared (R43). `period` says that a block period of the link begins, with which the values go (R44). -/
def unitSilent (s : State) (u : UnitId) (period : Bool) : State :=
  s.updUnit u fun x => { x with output := [], mark := false, owed := period }

/-- A unit hands one frame of its block in output, or a zero frame, to each attached zone (R39, R43, R44, R46). -/
def unitFrame (s : State) (u : UnitId) : State :=
  let x := s.units.get u
  if x.state = .free then s
  else
    let samples := x.output.headD (byPos fun _ => 0)
    let s := s.updUnit u fun x => { x with output := x.output.tail, owed := false }
    s.forEach (attachedZones s u) fun s z =>
      (writeFrame s z { samples := samples, vals := if x.owed ∨ (s.zones.get z).owed = true then some x.vals else none }).updZone
        z fun r => { r with owed := false }

end Sys2Proof.Machine
end

