-- ==== Sys2Proof/Machine/ZoneOps.lean ====
section
/-! DEFINITION. Zone operations: binding and release (R63, R66), rebind causes (R68), what a zone does on the announcements
of links, monitors and the tuner (R71, R72, R78, R79, R82), power (R60 to R64), lip-sync allocation (R112 to R115), the ramp
(R75), and the test tone's steps and end (R153, R155). -/

namespace Sys2Proof.Machine

/-! ## Countdown and tone -/

/-- The activity monitor of the zone's link is not ACTIVE, or the zone has no link (R82). -/
def zoneQuiet (s : State) (z : ZoneId) : Bool :=
  match (s.zones.get z).link with
  | none => true
  | some l => (s.monitors.get l).state != .active

/-- The auto-standby countdown is started afresh when the zone is ON, quiet, and has a setting (R82). -/
def startCountdown (s : State) (z : ZoneId) : State :=
  let quiet := zoneQuiet s z
  s.updZone z fun r =>
    if r.power = .on ∧ quiet = true ∧ 0 < r.autoStandby then
      { r with countdown := some (newTimer s.ms (r.autoStandby * 60000)) }
    else r

/-- The countdown of a zone as a binding in ON leaves it: started when the new link is quiet, stopped otherwise (R82). -/
def bindCountdown (s : State) (z : ZoneId) : State :=
  startCountdown (s.updZone z fun r => if r.power = .on then { r with countdown := none } else r) z

/-- The stepping order of the sequencer: FL, C, FR, SR, BR, BL, SL, SUB (R153). -/
def steppingOrder : List Pos := [posFL, posC, posFR, posSR, posBR, posBL, posSL, posSUB]

/-- A zone's speaker channels in stepping order (R153). -/
def toneOrder (spk : Vector Speaker 12) (z : ZoneId) : List Chan :=
  steppingOrder.flatMap fun p => (zoneChannels spk z).filter fun c => decide ((spk.get c).position = p)

/-- The channel after `c` in a list, wrapping from the last to the first. -/
def nextInList (xs : List Chan) (c : Chan) : Option Chan :=
  match (xs.dropWhile fun x => decide (x ≠ c)) with
  | _ :: y :: _ => some y
  | _ => xs.head?

/-- The dwell timer of a sequencer: in AUTO at the dwell, none in MANUAL (R150, R153). -/
def toneTimer (now : Millis) (t : Tone) : Option Timer :=
  match t.stepMode with
  | .auto => some (newTimer now (t.dwell * 1000))
  | .manual => none

/-- A step of a running tone (R153). The ZONE flag is set even when the one speaker steps onto itself. -/
def toneStep (s : State) (z : ZoneId) : State :=
  (s.updZone z fun r =>
    let t := r.tone
    { r with tone := { t with speaker := (t.speaker.bind (nextInList (toneOrder s.speakers z))).or t.speaker
                              pulse := 0
                              dwellTimer := toneTimer s.ms t } }).raise (.zone z)

/-- Ending the tone: IDLE, no speaker under test, TONE cleared (R155). An idle sequencer stays as it is. -/
def endTone (s : State) (z : ZoneId) : State :=
  s.updZone z fun r =>
    if r.tone.running then
      { r with tone := { r.tone with running := false, speaker := none, dwellTimer := none },
               mutes := { r.mutes with tone := false } }
    else r

/-! ## Lip-sync allocation -/

/-- The words of the lip-sync share (R108). -/
def lipShare : Nat := 193024

/-- Words allocated to a zone. -/
def Zone.words (r : Zone) : Nat := (r.alloc.map (·.words)).getD 0

/-- The words of all allocations. -/
def allocatedWords (s : State) : Nat := (zoneIds.map fun z => (s.zones.get z).words).sum

/-- The free amount of the share (section 6.3). -/
def freeWords (s : State) : Nat := lipShare - allocatedWords s

/-- F of R112: the share less the words of the other zones' allocations. -/
def freeFor (s : State) (z : ZoneId) : Nat :=
  lipShare - ((zoneIds.filter fun y => decide (y ≠ z)).map fun y => (s.zones.get y).words).sum

/-- The allocation for `n` speaker entries, a requested lip-sync of `frames` frames and `micros` microseconds, and `free`
words, at a rate (R112, R113). -/
def allocate (free n frames micros : Nat) (rate : Rate) : Alloc :=
  if n * frames ≤ free then { words := n * frames, frames := frames, micros := micros, limited := false }
  else { words := n * (free / n), frames := free / n, micros := framesMicros (free / n) rate, limited := true }

/-- The zone asks for its allocation and records it; a clamped one sets LIMITED (R112 to R114). -/
def allocateZone (s : State) (z : ZoneId) : State :=
  let r := s.zones.get z
  let micros := match r.link with
    | some _ => (r.copy.map (·.lipSync)).getD 0
    | none => 0
  let a := allocate (freeFor s z) (zoneChannels s.speakers z).length (delayFrames micros r.rate) micros r.rate
  let s := s.updZone z fun r => { r with alloc := some a }
  if a.limited then s.raise .limited else s

/-- A binding sets a speaker's lip-sync section and speaker line to zero at their new lengths (R110, R111). -/
def primeChannel (la : Nat) (r : Zone) (s : State) (c : Chan) : State :=
  let d := delayFrames (s.speakers.get c).delay r.rate
  s.updChannel c fun x =>
    { x with lipSection := List.replicate la 0, line := List.replicate d 0, delay := some d }

/-- The delays of a zone's speakers at a binding (R111). -/
def primeDelays (s : State) (z : ZoneId) : State :=
  let r := s.zones.get z
  s.forEach (zoneChannels s.speakers z) (primeChannel ((r.alloc.map (·.frames)).getD 0) r)

/-- The zone's speakers hold the duty count of a zero sample, in force and waiting (R124). -/
def zeroDuties (s : State) (z : ZoneId) : State :=
  let d := dutyCount (s.zones.get z).resolution (s.zones.get z).minPulse 0
  s.forEach (zoneChannels s.speakers z) fun s c => s.updChannel c fun x => { x with duty := d, next := d }

/-- The carrier and the duty counts at a binding (R124, R127, log 25): a changed output rate restarts the carrier on the duty
count of a zero sample; at the same rate the counts that AUDIO presents are held for their output frames, and in any other
drive mode those of a zero sample wait. -/
def bindCarrier (s : State) (z : ZoneId) (oldRate : Rate) : State :=
  if (s.zones.get z).rate = oldRate then (if (s.zones.get z).driveNow = .audio then s else zeroDuties s z)
  else restartCarrier (zeroDuties s z) z

/-- At a release the delay content is discarded and the DC watches become CLEAR (R111, R139). -/
def dropChannel (s : State) (c : Chan) : State :=
  s.updChannel c fun x => { x with lipSection := [], line := [], delay := none, watch := .clear }

/-! ## Clock and mute reasons -/

/-- The output rate that a local clock mode fixes (R79). -/
def ClockMode.localRate : ClockMode → Option Rate
  | .follow => none
  | .local48 => some .r48
  | .local44 => some .r44

/-- The clock state and output rate at a binding, for the zone's link (R78, R79). -/
def bindClock (link : Option Link) (r : Zone) : Zone :=
  match r.clockMode.localRate with
  | some rate => { r with clockInEffect := r.clockMode, clockState := .localClock, rate := rate }
  | none =>
    let linkRate := link.bind fun x => if x.state.carries then x.rate else none
    { r with clockInEffect := .follow
             clockState := if (link.map (·.state)) = some .locked then .lockedToSource else .holdover
             rate := linkRate.getD r.rate }

/-- RATE_MISMATCH of a zone with a link: the mode in effect is local and the link's rate is known and differs (R79). -/
def rateMismatch (x : Link) (r : Zone) : Bool :=
  match r.clockInEffect.localRate with
  | none => false
  | some rate => x.state.carries && decide (x.rate ≠ some rate)

/-- The link-derived mute reasons of a zone for its link as it stands (R71, R79). -/
def linkMutes (x : Link) (r : Zone) : Mutes :=
  { r.mutes with
    noSignal := decide (x.state ≠ .locked)
    format := ((x.lastGood.map (·.format)).map Format.unsupported).getD false
    rateMismatch := rateMismatch x r }

/-- The mute reasons that a release clears (R63, R66). -/
def Mutes.released (m : Mutes) : Mutes :=
  { m with tuning := false, noSignal := false, format := false, rateMismatch := false, decode := false }

/-! ## Binding and release -/

/-- Step 2 of R66: what a rebind gives up of the old source. The builder forms the empty set (R89). -/
def Zone.letGo (r : Zone) : Zone :=
  { r with alloc := none, mutes := r.mutes.released, vals := none, active := none, shadow := none }

/-- Step 3 of R66: the bound source and the bound copy, read from the source table as it stands (R25). -/
def takeCopy (sources : Vector SourceEntry 16) (r : Zone) : Zone :=
  { r with bound := r.selected
           copy := r.selected.map fun i =>
             let e := sources.get i
             { input := e.input, trim := e.trim, lipSync := e.lipSync, mode := e.mode } }

/-- Steps 3 to 5 of R66 on a zone record. -/
def bindRecord (s : State) (r : Zone) : Zone :=
  let r := takeCopy s.sources r
  let r := bindClock (r.link.map s.links.get) r
  match r.link with
  | none => r
  | some l =>
    { r with mutes := { linkMutes (s.links.get l) r with tuning := decide (l = 8 ∧ s.tuner.state ≠ .locked) } }

/-- The descriptor values a binding takes: from the serving unit when the zone is attached to one, otherwise from the link's
last good descriptor (R66, step 8). -/
def bindVals (s : State) (r : Zone) : Option DescValues :=
  match r.decode with
  | .attached u => some (s.units.get u).vals
  | _ => (r.link.bind fun l => (s.links.get l).lastGood).map Descriptor.vals

/-- Steps 8 and 9 of R66 on a zone record: values, active set, empty buffer, path. -/
def Zone.enterPath (spk : Vector Speaker 12) (z : ZoneId) (vals : Option DescValues) (r : Zone) : Zone :=
  let r := { r with vals := vals, buffer := [], refilling := false, shadow := none
                    path := if r.link.isSome then .filling else .idle
                    tone := { r.tone with pulse := if r.tone.running then 0 else r.tone.pulse } }
  { r with active := buildFor spk z r }

/-- A binding of the zone's selected source (R66); `rebind` carries out step 2. The carrier follows (R124), and a running
tone's pulse count returns to 0 (R152). -/
def bindZone (s : State) (z : ZoneId) (rebind : Bool) : State :=
  let old := (s.zones.get z).link
  let oldRate := (s.zones.get z).rate
  let s := s.autoZone z fun r =>
    let r := { r with qr := none, rampCount := 0 }
    if rebind then r.letGo else r
  let s := s.autoZone z (bindRecord s)
  let s := rebindDecode s z old (s.zones.get z).link
  let s := allocateZone s z
  let s := s.autoZone z fun r => r.enterPath s.speakers z (bindVals s r)
  (bindCountdown (bindCarrier (primeDelays s z) z oldRate) z).raise (.zone z)

/-- The zone's record after a release: nothing bound, no link-derived mute reason, no content (R63, R78, R89). -/
def Zone.releaseRecord (r : Zone) : Zone :=
  { r.letGo with bound := none, copy := none, buffer := [], path := .idle, owed := false
                 clockState := if r.clockInEffect = .follow then .holdover else .localClock }

/-- A release: the decode position, the allocation, the mute reasons, the bound source and the delay content, in the order
of R63. -/
def releaseZone (s : State) (z : ZoneId) : State :=
  ((releaseDecode s z).autoZone z Zone.releaseRecord).forEach (zoneChannels s.speakers z) dropChannel

/-! ## Power -/

/-- The release at the end of RAMP_DOWN: STOPPING.DRAIN, drive mode CENTRE, drain timer at 50 ms (R63). -/
def enterDrain (s : State) (z : ZoneId) : State :=
  handDrive ((releaseZone s z).autoZone z fun r =>
    { r with power := .drain, qr := none, drainTimer := some (newTimer s.ms 50) }) z .centre

/-- A POWER_ON as in STANDBY: drive mode CENTRE, binding, STARTING with the start timer at 150 ms (R60). CENTRE is handed
before the binding, so that a carrier that was to stop runs on and restarts only for a changed rate (R129). -/
def powerUpZone (s : State) (z : ZoneId) : State :=
  (bindZone (handDrive s z .centre) z false).autoZone z fun r =>
    { r with power := .starting, startTimer := some (newTimer s.ms 150) }

/-- A POWER_ON by the zone's power state, and whether it is answered ACCEPTED (R60 to R64). -/
def powerOn (s : State) (z : ZoneId) (o : Origin) : State × Bool :=
  match (s.zones.get z).power with
  | .standby => ((powerUpZone s z).zoneOrigin z o, true)
  | .starting | .on => (s.zoneOrigin z o, false)
  | .rampDown => ((startCountdown (s.updZone z fun r => { r with power := .on }) z).zoneOrigin z o, false)
  | .drain => ((s.updZone z fun r => { r with restart := some o }).zoneOrigin z o, true)

/-- A POWER_OFF taken in ON: countdown stopped, tone ended, RAMP_DOWN, or DRAIN at once when qr is SILENT (R62). -/
def powerDownOn (s : State) (z : ZoneId) : State :=
  let s := (endTone (s.updZone z fun r => { r with countdown := none }) z).autoZone z fun r => { r with power := .rampDown }
  if (s.zones.get z).qr = none then enterDrain s z else s

/-- A POWER_OFF taken in STARTING: off at once (R61). -/
def powerDownStarting (s : State) (z : ZoneId) : State :=
  handDrive ((releaseZone s z).autoZone z fun r => { r with power := .standby, startTimer := none, qr := none }) z .off

/-- A POWER_OFF by the zone's power state, and whether it is answered ACCEPTED (R60 to R64). -/
def powerOff (s : State) (z : ZoneId) (o : Origin) : State × Bool :=
  match (s.zones.get z).power with
  | .standby | .rampDown => (s.zoneOrigin z o, false)
  | .starting => ((powerDownStarting s z).zoneOrigin z o, false)
  | .on => ((powerDownOn s z).zoneOrigin z o, true)
  | .drain => ((s.updZone z fun r => { r with restart := none }).zoneOrigin z o, false)

/-- The start timer expires: ON, drive mode AUDIO, countdown (R61). -/
def startExpiry (s : State) (z : ZoneId) : State :=
  if (s.zones.get z).power = .starting ∧ timeUp (s.zones.get z).startTimer s.ms = true then
    startCountdown (handDrive (s.autoZone z fun r => { r with power := .on, startTimer := none }) z .audio) z
  else s

/-- The drain timer expires: drive mode OFF, STANDBY, and a POWER_ON at once when restart-pending is set, with the origin
that it held (R64, R84). -/
def drainExpiry (s : State) (z : ZoneId) : State :=
  if (s.zones.get z).power = .drain ∧ timeUp (s.zones.get z).drainTimer s.ms = true then
    let pending := (s.zones.get z).restart
    let s := handDrive (s.autoZone z fun r => { r with power := .standby, drainTimer := none, restart := none }) z .off
    match pending with
    | some o => (powerUpZone s z).zoneOrigin z o
    | none => s
  else s

/-- The auto-standby countdown expires: a POWER_OFF with origin AUTO, and SIGNAL (R82). -/
def autoStandbyExpiry (s : State) (z : ZoneId) : State :=
  if (s.zones.get z).power = .on ∧ timeUp (s.zones.get z).countdown s.ms = true then ((powerOff s z .auto).1).raise .signal
  else s

/-! ## Rebind causes, selection, volume -/

/-- A rebind cause by the zone's power state and path state (R68). -/
def rebindCause (s : State) (z : ZoneId) : State :=
  let r := s.zones.get z
  match r.power, r.path with
  | .starting, _ => bindZone s z true
  | .on, .fading | .rampDown, .fading => s
  | .on, .playing | .rampDown, .playing =>
    if r.qr = none then bindZone s z true else s.autoZone z fun r => { r with path := .fading }
  | .on, _ | .rampDown, _ => bindZone s z true
  | _, _ => s

/-- SELECT_SOURCE as a zone takes it: a running tone ends first, the selection is stored, and while bound it is a rebind
cause (R69, R155). -/
def selectSource (s : State) (z : ZoneId) (src : Option SrcId) (o : Origin) : State :=
  (rebindCause ((endTone s z).updZone z fun r => { r with selected := src }) z).zoneOrigin z o

/-- qv set to a value taken into −160 to +24 (R77). -/
def setVolume (s : State) (z : ZoneId) (q : Int) (o : Origin) : State :=
  (s.updZone z fun r => { r with qv := clampInt (-160) 24 q }).zoneOrigin z o

/-- A PANEL volume step: the ZONE flag for each that is taken, and LIMITED when the clamp changed the sum (R77, R189). -/
def panelVolume (s : State) (z : ZoneId) (n : Int) : State :=
  let q := (s.zones.get z).qv + n
  let s' := (setVolume s z q .panel).raise (.zone z)
  if clampInt (-160) 24 q = q then s' else s'.raise .limited

/-! ## Announcements taken by zones -/

/-- The clock rule of a zone whose link changes state, FOLLOW being in effect (R78). -/
def followClock (x : Link) (r : Zone) : Zone :=
  if r.clockInEffect = .follow then
    { r with clockState := if x.state = .locked ∧ x.rate = some r.rate then .lockedToSource else .holdover }
  else r

/-- The link is LOCKED at another rate than the zone's output rate, FOLLOW being in effect: a rate change (R78). -/
def rateChanged (x : Link) (r : Zone) : Bool :=
  decide (r.clockInEffect = .follow ∧ x.state = .locked ∧ x.rate ≠ some r.rate)

/-- A zone on the link takes a link state change or format change (R71, R78, R79). -/
def zoneOnLink (l : LinkId) (s : State) (z : ZoneId) : State :=
  if (s.zones.get z).link = some l then
    let x := s.links.get l
    let s := s.autoZone z fun r => followClock x { r with mutes := linkMutes x r }
    if rateChanged x (s.zones.get z) then rebindCause s z else s
  else s

/-- A zone on the link takes a change of the activity state (R82). -/
def zoneOnActivity (l : LinkId) (s : State) (z : ZoneId) : State :=
  if (s.zones.get z).link = some l then
    if (s.monitors.get l).state = .active then s.updZone z fun r => { r with countdown := none }
    else startCountdown s z
  else s

/-- A zone bound to TL takes a lock or unlock announcement of the tuner (R72, R176). -/
def zoneOnTuner (locked : Bool) (s : State) (z : ZoneId) : State :=
  if (s.zones.get z).link = some 8 then
    s.autoZone z fun r => { r with mutes := { r.mutes with tuning := !locked } }
  else s

/-- A zone whose bound source is the entry takes an entry edit (R27). -/
def zoneOnEdit (i : SrcId) (s : State) (z : ZoneId) : State :=
  if (s.zones.get z).power.isBound = true ∧ (s.zones.get z).bound = some i then rebindCause s z else s

/-! ## Ramp -/

/-- One step of qr toward the effective target (R75); none is SILENT and silence. -/
def rampNext (qr target : Option Int) : Option Int :=
  match qr, target with
  | none, none => none
  | none, some _ => some (-160)
  | some q, none => if q ≤ -160 then none else some (q - 1)
  | some q, some t => if q < t then some (q + 1) else if t < q then some (q - 1) else some q

/-- A ramp step (R75): a step that brings qr to SILENT carries out a pending rebind in ON (R68), or the release in
RAMP_DOWN (R63). A ramp step records no origin, so last changed by of the zone stands as before it (R84, log 23). -/
def rampStep (s : State) (z : ZoneId) : State :=
  let r := s.zones.get z
  if r.power = .standby then s
  else
    let q := rampNext r.qr r.target
    let s := s.updZone z fun r => { r with rampCount := 0, qr := q }
    if q = none ∧ r.qr ≠ none then
      if r.power = .rampDown then (enterDrain s z).zoneOrigin z r.lastChanged
      else if r.path = .fading ∧ r.power = .on then (bindZone s z true).zoneOrigin z r.lastChanged
      else s
    else s

end Sys2Proof.Machine
end

