-- ==== Sys2Proof/Machine/TunerOps.lean ====
section
/-! DEFINITION. The tuner controller: band grids, calibration, acquisitions, level meter, AFC, searches, completions and the
preset list (R159 to R183). -/

namespace Sys2Proof.Machine

/-! ## Band table (R159) -/

def bands : List Band := [.fm, .am]

/-- The settable fields of a band's record. -/
def Tuner.record (t : Tuner) : Band → BandRecord
  | .fm => t.fm
  | .am => t.am

/-- A band's calibration table. -/
def Tuner.cal (t : Tuner) : Band → List CalPoint
  | .fm => t.fmCal
  | .am => t.amCal

/-- The low edge, in kHz; for AM it follows the step region. -/
def lowEdge (b : Band) (step : Nat) : Nat :=
  match b with
  | .fm => 87500
  | .am => if step = 9 then 522 else 530

/-- The high edge, in kHz. -/
def highEdge (b : Band) (step : Nat) : Nat :=
  match b with
  | .fm => 108000
  | .am => if step = 9 then 1620 else 1710

/-- The IF offset, in kHz. -/
def Band.ifOffset : Band → Nat
  | .fm => 10700
  | .am => 450

/-- The prescale P. -/
def Band.prescale : Band → Nat
  | .fm => 64
  | .am => 4

/-- The gate count N. -/
def Band.gateCount : Band → Nat
  | .fm => 4096
  | .am => 1024

/-- The settle time, in ms. -/
def Band.settle : Band → Nat
  | .fm => 2
  | .am => 10

/-- The tolerance, in kHz. -/
def Band.tolerance : Band → Nat
  | .fm => 15
  | .am => 2

/-- The number of channels of a band at a step. -/
def channelCount (b : Band) (step : Nat) : Nat := (highEdge b step - lowEdge b step) / step + 1

/-- A frequency at or above the low edge rounded to the grid, half up. -/
def gridRound (b : Band) (step f : Nat) : Nat :=
  lowEdge b step + step * ((2 * (f - lowEdge b step) + step) / (2 * step))

/-- The frequency that a tuning request applies: clamped to the edges and rounded to the grid (R164, step 4). -/
def appliedFrequency (b : Band) (step : Nat) (f : Int) : Nat :=
  gridRound b step (clampInt (lowEdge b step) (highEdge b step) f).toNat

/-- A frequency is a channel of the band. -/
def onGrid (b : Band) (step f : Nat) : Bool :=
  decide (lowEdge b step ≤ f ∧ f ≤ highEdge b step ∧ (f - lowEdge b step) % step = 0)

/-- The nearest channel strictly above, from the low edge again when there is none (R172). -/
def channelAbove (b : Band) (step f : Nat) : Nat :=
  let n := if f < lowEdge b step then lowEdge b step else lowEdge b step + step * ((f - lowEdge b step) / step + 1)
  if n ≤ highEdge b step then n else lowEdge b step

/-- The nearest channel strictly below, from the high edge again when there is none (R172). -/
def channelBelow (b : Band) (step f : Nat) : Nat :=
  if f ≤ lowEdge b step ∨ highEdge b step < f then highEdge b step
  else lowEdge b step + step * ((f - lowEdge b step - 1) / step)

/-! ## Calibration (R161, R165) -/

/-- Points whose frequencies and DAC words are strictly increasing (R161). -/
def increasing : List CalPoint → Bool
  | a :: b :: rest => decide (a.frequency < b.frequency) && decide (a.dac < b.dac) && increasing (b :: rest)
  | _ => true

/-- The bracketing segment of a frequency (R165). -/
def bracket : List CalPoint → Nat → Option (CalPoint × CalPoint)
  | a :: b :: rest, f => if f < b.frequency ∨ rest.isEmpty = true then some (a, b) else bracket (b :: rest) f
  | _, _ => none

/-- The DAC word on a segment at a frequency, which is taken no further than the segment's points (R165). -/
def onSegment (a b : CalPoint) (f : Nat) : Int :=
  a.dac + roundHalfUp (((clampNat a.frequency b.frequency f : Nat) - a.frequency : Int) * ((b.dac : Int) - a.dac))
    ((b.frequency : Int) - a.frequency)

/-- The coarse value of a frequency; an empty table gives none (R165). -/
def coarse (points : List CalPoint) (f : Nat) : Option Nat := (bracket points f).map fun ab => (onSegment ab.1 ab.2 f).toNat

/-- The DAC word becomes the coarse value of the target. -/
def Tuner.writeCoarse (t : Tuner) : Tuner := { t with dac := (coarse (t.cal t.band) t.target).getD t.dac }

/-- The correction for a frequency error, within ±4,096 (R168). -/
def correction (seg : Option (CalPoint × CalPoint)) (e : Int) : Int :=
  match seg with
  | none => 0
  | some (a, b) =>
    clampInt (-4096) 4096 (roundHalfUp (e * ((b.dac : Int) - a.dac)) ((b.frequency : Int) - a.frequency))

/-- The DAC word corrected for a frequency error, within 0 to 65,535 (R168). -/
def Tuner.correct (t : Tuner) (e : Int) : Tuner :=
  { t with dac := (clampInt 0 65535 (t.dac + correction (bracket (t.cal t.band) t.target) e)).toNat }

/-! ## Writing the record -/

/-- An operation is in flight (R162). -/
def Tuner.inFlight (t : Tuner) : Bool := t.state == .acquiring || t.state == .seeking || t.state == .scanning

/-- A change of the tuner's state or band sets TUNER_LOCK (R182). -/
def Tuner.lockChange (a b : Tuner) : Bool := a.state != b.state || a.band != b.band

/-- The controller's record is written: TUNER_LOCK on a change of state or band, TUNER_DONE on a completion (R182). -/
def State.putTuner (s : State) (t : Tuner) : State :=
  { s with
    tuner := t
    ports := (s.ports.raiseIf (s.tuner.lockChange t) .tunerLock).raiseIf (s.tuner.nextNumber != t.nextNumber) .tunerDone }

/-- The record is written, and an entry to LOCKED or a departure from it is announced to the zones (R176). -/
def setTuner (s : State) (t : Tuner) : State :=
  let old := s.tuner.state
  let s := s.putTuner t
  if decide (old = .locked) = decide (t.state = .locked) then s
  else s.forEach zoneIds (zoneOnTuner (decide (t.state = .locked)))

/-- A completion: an entry at the head of the list of at most four, and no operation and no start frequency left (R175). -/
def Tuner.complete (t : Tuner) (result : TunerResult) : Tuner :=
  match t.op with
  | none => t
  | some (op, origin) =>
    { t with
      completions := ({ number := t.nextNumber, result := result, op := op, origin := origin, band := t.band,
                        frequency := t.target } :: t.completions).take 4
      nextNumber := t.nextNumber + 1, op := none, start := none, phase := none }

/-- The operation in flight completes with ABORTED, and its gate, readings and timers are discarded, as are the AFC gate and
timer of LOCKED (R164, R174). -/
def Tuner.supersede (t : Tuner) : Tuner :=
  { t.complete .aborted with gate := .idle, readings := [], afcTimer := none }

/-- The tuner enters LOCKED, with the AFC timer at 500 ms (R170). -/
def Tuner.enterLocked (now : Millis) (t : Tuner) : Tuner :=
  { t with state := .locked, gate := .idle, afcTimer := some (newTimer now 500), readings := [] }

/-- The tuner enters UNLOCKED with its DAC word held (R163, R168). -/
def Tuner.enterUnlocked (t : Tuner) : Tuner := { t with state := .unlocked, gate := .idle, readings := [] }

/-! ## Acquisitions and searches -/

/-- An acquisition of the target begins with its coarse value written (R164, R172). -/
def Tuner.acquire (t : Tuner) : Tuner := { t.writeCoarse with iterations := 0, inRun := false, gate := .transfer, readings := [] }

/-- A tuning request that has passed its checks: supersession, then the acquisition of the frequency applied (R164). -/
def Tuner.tuneTo (t : Tuner) (b : Band) (f : Nat) (op : TunerOp) (o : Origin) : Tuner :=
  { ({ t.supersede with band := b, target := f } : Tuner).acquire with
    op := some (op, o), measured := none, state := .acquiring, phase := none, lastChanged := o }

/-- A search tries a candidate (R172, steps 1 and 2). -/
def Tuner.tryCandidate (t : Tuner) (f left : Nat) : Tuner :=
  ({ t with target := f, phase := some .acquire, triesLeft := left } : Tuner).acquire

/-- A search returns to its start frequency (R172, R173). -/
def Tuner.returnToStart (t : Tuner) : Tuner :=
  ({ t with band := (t.start.map (·.1)).getD t.band, target := (t.start.map (·.2)).getD t.target, phase := some .return,
            triesLeft := 0 } : Tuner).acquire

/-- The channel after the present candidate in the search direction. -/
def Tuner.nextChannel (t : Tuner) : Nat :=
  if t.searchUp then channelAbove t.band (t.record t.band).step t.target
  else channelBelow t.band (t.record t.band).step t.target

/-- The search moves to its next candidate, or returns when none is left (R172, R173). -/
def Tuner.advance (t : Tuner) : Tuner :=
  if t.triesLeft = 0 then t.returnToStart else t.tryCandidate t.nextChannel (t.triesLeft - 1)

/-- SEEK begins: every channel of the band other than the start frequency is to be tried once (R172). -/
def Tuner.beginSeek (t : Tuner) (up : Bool) (o : Origin) : Tuner :=
  let step := (t.record t.band).step
  let n := channelCount t.band step - (if onGrid t.band step t.target then 1 else 0)
  ({ t.supersede with start := some (t.band, t.target), op := some (.seek, o), state := .seeking, searchUp := up,
                      triesLeft := n, lastChanged := o } : Tuner).advance

/-- SCAN begins at the low edge, or returns at once when the list holds 40 entries (R173). -/
def Tuner.beginScan (t : Tuner) (o : Origin) : Tuner :=
  let step := (t.record t.band).step
  let t' := { t.supersede with start := some (t.band, t.target), op := some (.scan, o), state := .scanning, searchUp := true,
                               lastChanged := o }
  if 40 ≤ t.presets.length then t'.returnToStart
  else t'.tryCandidate (lowEdge t.band step) (channelCount t.band step - 1)

/-- The result of an operation that reaches the end of its acquisition (R168, R172, R173). -/
def Tuner.endResult (t : Tuner) (locked : Bool) : TunerResult :=
  match t.state with
  | .seeking => .exhausted
  | .scanning => .done
  | _ => if locked then .done else .failed

/-- What follows a locked acquisition (R168, R171, R172, R173). -/
def Tuner.afterLock (now : Millis) (t : Tuner) : Tuner :=
  if t.phase = some .acquire then { t with phase := some .test, gate := .idle, readings := [] }
  else (t.complete (t.endResult true)).enterLocked now

/-- What follows a failed acquisition (R168, R172, R173). -/
def Tuner.afterFailure (t : Tuner) : Tuner :=
  if t.phase = some .acquire then t.advance else (t.complete (t.endResult false)).enterUnlocked

/-- The end of an iteration with frequency error `e` (R168). -/
def Tuner.iterate (now : Millis) (t : Tuner) (e : Int) : Tuner :=
  let within := decide (e.natAbs ≤ t.band.tolerance)
  let t : Tuner := { t with iterations := t.iterations + 1 }
  if within ∧ t.inRun = true then ({ t with inRun := false } : Tuner).afterLock now
  else
    let t : Tuner := { t.correct e with inRun := within }
    if 12 ≤ t.iterations then t.afterFailure else { t with gate := .transfer }

/-- The end of an AFC gate in LOCKED with frequency error `e` (R170). -/
def Tuner.afc (now : Millis) (t : Tuner) (e : Int) : Tuner :=
  if e.natAbs ≤ t.band.tolerance then { t with gate := .idle, afcTimer := some (newTimer now 500) }
  else if e.natAbs ≤ 4 * t.band.tolerance then { t.correct e with gate := .idle, afcTimer := some (newTimer now 500) }
  else { t with state := .acquiring, op := some (.afc, .auto), lastChanged := .auto, iterations := 0, inRun := false,
                gate := .transfer, afcTimer := none }

/-- The measured LO of a gate of `ticks` reference ticks (R166). -/
def measuredLO (b : Band) (ticks : Nat) : Int := roundHalfUp (b.gateCount * b.prescale * 24576) ticks

/-- The frequency error for a measured LO (R166). -/
def Tuner.error (t : Tuner) (lo : Int) : Int := (t.target : Int) + t.band.ifOffset - lo

/-- A gate ends with a measured LO, or abandoned with none, which counts as an LO of 0 (R166, R167, R170). -/
def Tuner.gateEnd (now : Millis) (t : Tuner) (lo : Option Int) : Tuner :=
  let e := t.error (lo.getD 0)
  let t : Tuner := { t with measured := lo.map (· - (t.band.ifOffset : Int)) }
  if t.state = .locked then t.afc now e else if t.inFlight then t.iterate now e else { t with gate := .idle }

/-- A gate is being measured (R166). -/
def Gate.open : Gate → Bool
  | .waiting _ | .counting _ _ _ => true
  | _ => false

/-- A gate ends; nothing happens when none is being measured. -/
def endGate (s : State) (lo : Option Int) : State :=
  if s.tuner.gate.open then setTuner s (s.tuner.gateEnd s.ms lo) else s

/-- The 20 ms abandonment time of a gate that is being measured (R167). -/
def Gate.limit : Gate → Option Timer
  | .waiting t | .counting _ _ t => some t
  | _ => none

/-- 20 ms have passed with no FREQ rising edge: the gate ends abandoned (R167). An edge taken first has restarted the time. -/
def abandonGate (s : State) : State := if timeUp s.tuner.gate.limit s.ms = true then endGate s none else s

/-- A gate opens and waits for its first edge, with 20 ms to its abandonment (R166, R167). -/
def gateOpens (now : Millis) : Gate := .waiting (newTimer now 20)

/-- A FREQ rising edge: the first after the settle time begins the gate, each restarts the abandonment time, and the N-th after
the first ends the gate (R166, R167). -/
def freqEdge (s : State) (ticks : Nat) : State :=
  match s.tuner.gate with
  | .waiting _ => s.putTuner { s.tuner with gate := .counting 0 0 (newTimer s.ms 20) }
  | .counting n t _ =>
    if s.tuner.band.gateCount ≤ n + 1 then endGate s (some (measuredLO s.tuner.band (t + ticks)))
    else s.putTuner { s.tuner with gate := .counting (n + 1) (t + ticks) (newTimer s.ms 20) }
  | _ => s

/-- A whole millisecond: the DAC word is transferred, and a word that waits for its transfer starts the settle time (R163,
R166, log 3). The end of a millisecond whose snapshot is still to be taken takes it, and a millisecond that is a whole second
makes one due (R19, log 43). -/
def transferDac (s : State) : State :=
  let s := takeSnapshot s
  let now := s.ms + 1
  let t := s.tuner
  { s with
    ms := now
    snapshotDue := wholeSecond now
    tuner := { t with transferred := t.dac
                      gate := if t.gate = .transfer then .settling (newTimer now t.band.settle) else t.gate } }

/-- The settle time ends: the gate waits for its first edge (R166). -/
def settleExpiry (s : State) : State :=
  match s.tuner.gate with
  | .settling t => if timeUp (some t) s.ms = true then s.putTuner { s.tuner with gate := gateOpens s.ms } else s
  | _ => s

/-- The AFC timer expires in LOCKED: one gate, with no DAC write and no settle time (R170). -/
def afcExpiry (s : State) : State :=
  if s.tuner.state = .locked ∧ timeUp s.tuner.afcTimer s.ms = true then
    s.putTuner { s.tuner with afcTimer := none, gate := gateOpens s.ms }
  else s

/-! ## Station test and level meter -/

/-- The three readings of a station test pass (R171). -/
def testPasses (r : BandRecord) (b : Band) (readings : List (Nat × Bool)) : Bool :=
  readings.all fun x => decide (r.threshold.toNat ≤ x.1) && (decide (b ≠ .fm) || !r.stereoOnly || x.2)

/-- The list holds a station. -/
def holdsStation (ps : List Preset) (b : Band) (f : Nat) : Bool := ps.any fun p => decide (p.band = b ∧ p.frequency = f)

/-- A scan has found the candidate with `level` as its third reading (R173): an append sets PRESETS. -/
def scanFound (s : State) (t : Tuner) (level : Nat) : State :=
  if 40 ≤ t.presets.length then setTuner s t.returnToStart
  else if holdsStation t.presets t.band t.target then setTuner s t.advance
  else
    let t : Tuner := { t with presets := t.presets ++ [{ band := t.band, frequency := t.target, level := level }] }
    (setTuner s (if 40 ≤ t.presets.length then t.returnToStart else t.advance)).raise .presets

/-- The third reading of a station test decides it (R171 to R173). -/
def testVerdict (s : State) (t : Tuner) (readings : List (Nat × Bool)) (level : Nat) : State :=
  if testPasses (t.record t.band) t.band readings then
    if t.state = .scanning then scanFound s t level else setTuner s ((t.complete .found).enterLocked s.ms)
  else setTuner s t.advance

/-- A level reading completes; the meter works in every tuner state and a station test takes the reading with PILOT (R169,
R171). -/
def takeReading (s : State) (t : Tuner) (level : Nat) (pilot : Bool) : State :=
  let t : Tuner := { t with level := level, pilot := pilot }
  if t.phase = some .test then
    let readings := t.readings ++ [(level, pilot)]
    if 3 ≤ readings.length then testVerdict s { t with readings := [] } readings level
    else s.putTuner { t with readings := readings }
  else s.putTuner t

/-- The record after an LVL rising edge, with the capture of the next period begun and the no-edge time restarted (R169). -/
def Tuner.lvlRise (now : Millis) (t : Tuner) : Tuner :=
  { t with lvl := true, capturing := true, lvlHigh := none, lvlTimer := newTimer now 20 }

/-- The reading that an LVL rising edge completes, from the high time captured and the period (R169, log 29). -/
def Tuner.riseReading (t : Tuner) (period : Nat) : Option Nat :=
  match t.capturing, t.lvlHigh with
  | true, some high => if 0 < period ∧ high ≤ period then some (255 * high / period) else none
  | _, _ => none

/-- An LVL rising edge (R169). -/
def levelRise (s : State) (period : Nat) (pilot : Bool) : State :=
  match s.tuner.riseReading period with
  | some v => takeReading s (s.tuner.lvlRise s.ms) v pilot
  | none => s.putTuner (s.tuner.lvlRise s.ms)

/-- A falling edge of LVL captures the high time of the period in progress and restarts the no-edge time (R169). -/
def levelFall (s : State) (high : Nat) : State :=
  s.putTuner { s.tuner with lvl := false, lvlHigh := if s.tuner.capturing then some high else none
                            lvlTimer := newTimer s.ms 20 }

/-- 20 ms without an LVL edge, or 20 ms after a reading of this kind: a reading completes (R169). -/
def levelTimeout (s : State) (pilot : Bool) : State :=
  if timeUp (some s.tuner.lvlTimer) s.ms = true then
    takeReading s { s.tuner with lvlTimer := newTimer s.ms 20 } (if s.tuner.lvl then 255 else 0) pilot
  else s

/-! ## Panel tune step -/

/-- A panel tune step of `n` channels (R177). -/
def panelTune (s : State) (n : Int) : State :=
  let t := s.tuner
  if t.state = .off then s
  else
    let step := (t.record t.band).step
    let f := (t.target : Int) + n * step
    let applied := appliedFrequency t.band step f
    let s := setTuner s (t.tuneTo t.band applied .step .panel)
    if (applied : Int) = f then s else s.raise .limited

/-! ## Reset -/

/-- The controller after a soft reset (R183). -/
def Tuner.softReset (t : Tuner) : Tuner :=
  { t with
    state := if (t.cal t.band).isEmpty then .off else .unlocked
    phase := none, measured := none, dac := (coarse (t.cal t.band) t.target).getD t.dac, level := 0, op := none,
    iterations := 0, inRun := false, start := none, completions := [], nextNumber := 0, lastChanged := .auto, gate := .idle,
    afcTimer := none, searchUp := true, triesLeft := 0, readings := [] }

end Sys2Proof.Machine
end

