-- ==== Sys2Proof/Machine/EncoderOps.lean ====
section
/-! DEFINITION. Panel encoders: filter, quarters, detents, and what a detent hands to the object its binding names (R184 to
R190). -/

namespace Sys2Proof.Machine

/-- The next pair in the clockwise order 00, 01, 11, 10 (R186). -/
def clockwiseNext (p : Bool × Bool) : Bool × Bool :=
  match p with
  | (false, false) => (false, true)
  | (false, true) => (true, true)
  | (true, true) => (true, false)
  | (true, false) => (false, false)

/-- What a change of the filtered pair means (R186). -/
inductive Turn where
  | clockwise
  | counterClockwise
  | jump
  deriving DecidableEq, Repr

/-- The meaning of a change from one pair to another (R186). -/
def turnOf (old new : Bool × Bool) : Turn :=
  if new = clockwiseNext old then .clockwise else if old = clockwiseNext new then .counterClockwise else .jump

/-- The quarter count after a quarter, before a detent takes it back to 0 (R186). -/
def countQuarter (count : Int) (clockwise : Bool) : Int :=
  if clockwise then (if 0 ≤ count then count + 1 else 1) else (if count ≤ 0 then count - 1 else -1)

/-- The unsigned step count of a detent at the present timer value (R187). -/
def stepCount (now : Millis) (last : Option (Millis × Bool)) (clockwise : Bool) : Nat :=
  match last with
  | some (t, d) => if d = clockwise ∧ (now - t).toNat < 40 then 4 else 1
  | none => 1

/-- The entries whose input is not NONE, in order (R190). -/
def candidates (sources : Vector SourceEntry 16) : List SrcId := srcIds.filter fun i => (sources.get i).input.isSome

/-- The candidates in the order an upward count from the selection meets them (R190). -/
def upwardFrom (cs : List SrcId) : Option SrcId → List SrcId
  | none => cs
  | some i => (cs.filter fun c => decide (i.1 < c.1)) ++ cs.filter fun c => decide (c.1 ≤ i.1)

/-- The candidates in the order a downward count from the selection meets them (R190). -/
def downwardFrom (cs : List SrcId) : Option SrcId → List SrcId
  | none => cs.reverse
  | some i => (cs.filter fun c => decide (c.1 < i.1)).reverse ++ (cs.filter fun c => decide (i.1 ≤ c.1)).reverse

/-- The new entry of a SOURCE step of `n`; none when the table has no candidate (R190). -/
def stepEntry (sources : Vector SourceEntry 16) (selected : Option SrcId) (n : Int) : Option SrcId :=
  let cs := candidates sources
  let order := if 0 < n then upwardFrom cs selected else downwardFrom cs selected
  order[(n.natAbs - 1) % order.length]?

/-- A SOURCE step taken by MAIN (R189, R190). -/
def panelSource (s : State) (n : Int) : State :=
  let r := s.zones.get 0
  if r.power = .on then
    match stepEntry s.sources r.selected n with
    | none => s
    | some i => if r.selected = some i then s else selectSource s 0 (some i) .panel
  else s

/-- A signed step count handed to the owner that the binding names (R189). -/
def handSteps (s : State) (b : Binding) (n : Int) : State :=
  match b with
  | .volume z => if (s.zones.get z).power = .on then panelVolume s z n else s
  | .tune => panelTune s n
  | .source => panelSource s n
  | .none => s

/-- A detent (R187): it is recorded, the quarter count returns to 0, and the steps are handed on. -/
def makeDetent (s : State) (e : EncId) (clockwise : Bool) : State :=
  let r := s.encoders.get e
  let n : Int := stepCount s.ms r.lastDetent clockwise
  handSteps (s.putEncoder e { r with quarters := 0, lastDetent := some (s.ms, clockwise) }) r.binding
    (if clockwise then n else -n)

/-- A quarter acts on the quarter count, and the fourth in a direction makes a detent (R186). -/
def takeQuarter (s : State) (e : EncId) (clockwise : Bool) : State :=
  let r := s.encoders.get e
  let q := countQuarter r.quarters clockwise
  if 4 ≤ q.natAbs then makeDetent s e clockwise else s.putEncoder e { r with quarters := q }

/-- A raw change restarts the stability time (R185). -/
def lineChange (s : State) (e : EncId) (a b : Bool) : State :=
  let r := s.encoders.get e
  if r.raw = (a, b) then s else s.putEncoder e { r with raw := (a, b), changedAt := s.ms }

/-- The raw pair has been stable for 1 ms since its most recent change (R185): it becomes the filtered pair, and the change is decoded unless the filtered
pair was none. -/
def filterTakes (s : State) (e : EncId) : State :=
  let r := s.encoders.get e
  match r.filtered with
  | none => s.putEncoder e { r with filtered := some r.raw }
  | some old =>
    if old = r.raw then s
    else
      let s := s.putEncoder e { r with filtered := some r.raw }
      match turnOf old r.raw with
      | .clockwise => takeQuarter s e true
      | .counterClockwise => takeQuarter s e false
      | .jump => s

/-- The stability time of an encoder's raw pair, 1 ms from the most recent raw change (R185). -/
def Encoder.stability (r : Encoder) : Timer := newTimer r.changedAt 1

/-- FILTER_SETTLED: a raw change taken first has restarted the stability time, and the pair is not taken (R185). -/
def filterSettled (s : State) (e : EncId) : State :=
  if timeUp (some (s.encoders.get e).stability) s.ms = true then filterTakes s e else s

end Sys2Proof.Machine
end

