-- ==== Sys2Proof/Machine/Operands.lean ====
section
/-! DEFINITION. The encoding of payloads and of response data (R198): how an operand is read from payload bytes and how each
value of a record is written. Layouts that R198 leaves open are the choices of log 16. -/

namespace Sys2Proof.Machine

/-! ## Reading operands -/

/-- An index of 0 upward; none is out of range (R198). -/
def indexOf (n : Nat) (b : Byte) : Option (Fin n) := if h : b.toNat < n then some ⟨b.toNat, h⟩ else none

/-- A member of an enumeration, numbered from 0 in the order of listing; none is out of range (R198). -/
def enumOf {α : Type} (xs : List α) (b : Byte) : Option α := xs[b.toNat]?

/-- A yes/no or on/off value; none is out of range (R198). -/
def yesNo (b : Byte) : Option Bool := if b = 0 then some false else if b = 1 then some true else none

/-- An index that may be NONE, coded 255; the outer none is out of range (R198). -/
def orNone (n : Nat) (b : Byte) : Option (Option (Fin n)) := if b = 255 then some none else (indexOf n b).map some

/-- A signed byte (R198). -/
def signed8 (b : Byte) : Int := b.toInt

/-- A signed 16-bit value, high byte first (R198). -/
def signed16 (hi lo : Byte) : Int := (hi ++ lo).toInt

/-- An unsigned 16-bit value, high byte first (R198). -/
def unsigned16 (hi lo : Byte) : Nat := hi.toNat * 256 + lo.toNat

/-- An unsigned 24-bit value, high byte first (R198). -/
def unsigned24 (b2 b1 b0 : Byte) : Nat := (b2.toNat * 256 + b1.toNat) * 256 + b0.toNat

/-! ## Writing values -/

/-- One byte (R198). -/
def u8 (n : Nat) : List Byte := [BitVec.ofNat 8 n]

/-- Two bytes, high byte first (R198). -/
def u16 (n : Nat) : List Byte := [BitVec.ofNat 8 (n / 256), BitVec.ofNat 8 n]

/-- Three bytes, high byte first (R198). -/
def u24 (n : Nat) : List Byte := [BitVec.ofNat 8 (n / 65536), BitVec.ofNat 8 (n / 256), BitVec.ofNat 8 n]

/-- Four bytes, high byte first: the order of R198 for values of two or three bytes, taken over for four (log 16). -/
def u32 (n : Nat) : List Byte :=
  [BitVec.ofNat 8 (n / 16777216), BitVec.ofNat 8 (n / 65536), BitVec.ofNat 8 (n / 256), BitVec.ofNat 8 n]

/-- A signed byte (R198). -/
def i8 (x : Int) : List Byte := [BitVec.ofInt 8 x]

/-- A signed 16-bit value (R198). -/
def i16 (x : Int) : List Byte := u16 (BitVec.ofInt 16 x).toNat

/-- A yes/no or on/off value (R198). -/
def flagByte (b : Bool) : List Byte := u8 (if b then 1 else 0)

/-- A member of an enumeration (R198). -/
def enumByte {α : Type} [DecidableEq α] (xs : List α) (x : α) : List Byte := u8 (xs.idxOf x)

/-- An index that may be NONE, as an input or a selection (R198). -/
def orNoneByte {n : Nat} (x : Option (Fin n)) : List Byte := u8 ((x.map (·.1)).getD 255)

/-- A value that may be none, of a given width (R198). -/
def optional {α : Type} (width : Nat) (f : α → List Byte) (x : Option α) : List Byte :=
  match x with
  | none => 0 :: List.replicate width 0
  | some a => 1 :: f a

/-! ## Enumerations in the order the rules list them -/

def surroundModes : List SurroundMode := [.auto, .direct, .stereo, .upmix]
/-- The effective surround mode in GET_ZONE_STATUS and GET_MIX_MATRIX is numbered by itself, DIRECT 0, STEREO 1, UPMIX 2, in the
order of R106: the model's choice beside the codes that R198 gives the surround modes (log 16). -/
def effModes : List EffMode := [.direct, .stereo, .upmix]
def clockModes : List ClockMode := [.follow, .local48, .local44]
def clockStates : List ClockState := [.lockedToSource, .holdover, .localClock]
def powers : List Power := [.standby, .starting, .on, .rampDown, .drain]
def paths : List Path := [.idle, .fading, .filling, .playing]
def origins : List Origin := [.portA, .portB, .panel, .auto]
def activities : List Activity := [.noLink, .silent, .active]
def unitStates : List UnitState := [.free, .syncing, .running]
def driveModes : List DriveMode := [.off, .centre, .audio]
def patterns : List Pattern := [.noise, .pulse]
def stepModes : List StepMode := [.auto, .manual]
def pairStates : List PairState := [.normal, .tripped, .probe, .latched]
def tunerStates : List TunerState := [.off, .unlocked, .acquiring, .locked, .seeking, .scanning]
def phases : List Phase := [.acquire, .test, .return]
def tunerOps : List TunerOp := [.tune, .recall, .step, .afc, .seek, .scan]
def tunerResults : List TunerResult := [.done, .failed, .aborted, .found, .exhausted]
/-- The zones a speaker entry may name; `none` is UNUSED (R119). -/
def speakerZones : List (Option ZoneId) := [some 0, some 1, some 2, none]
/-- The filtered pairs in the order R184 lists them. -/
def pairOrder : List (Bool × Bool) := [(false, false), (false, true), (true, true), (true, false)]

/-! ## Records -/

/-- A link's state, and its sub-state or none (section 1.3). -/
def linkStateCode : LinkState → Nat × Option Nat
  | .disabled => (0, none)
  | .detectQuiet => (1, some 0)
  | .detectActive => (1, some 1)
  | .measureCounting => (2, some 0)
  | .measureUnrecognised => (2, some 1)
  | .alignSeek => (3, some 0)
  | .alignRead => (3, some 1)
  | .locked => (4, none)
  | .recoverSeek => (5, some 0)
  | .recoverRead => (5, some 1)

/-- The format reported: PCM, BSF or UNSUPPORTED (R22). -/
def formatCode : Format → Nat
  | .pcm => 0
  | .bsf => 1
  | .unsupported2 | .unsupported3 => 2

/-- The last good descriptor as a link status reports it (R22). The channel map is its byte, bit 7 for FL (R6, log 16). -/
def descriptorRecord (d : Descriptor) : List Byte :=
  [d.map] ++ u8 d.rateCode ++ flagByte d.lfe ++ u8 d.pref.toNat ++ u8 d.drc ++ u8 d.stream.toNat ++ u8 d.seq.toNat

/-- A link's record (R22); `unit` is the unit that serves the link. -/
def linkRecord (r : Link) (unit : Option UnitId) : List Byte :=
  enumByte [true, false] r.enabled ++ u8 (linkStateCode r.state).1 ++ optional 1 u8 (linkStateCode r.state).2 ++
  optional 1 (fun x => u8 (Rate.code x)) r.rate ++ optional 1 (fun d => u8 (formatCode (Descriptor.format d))) r.lastGood ++
  optional 7 descriptorRecord r.lastGood ++ u8 r.lossWindow ++ optional 1 (fun u => u8 u.1) unit

/-- A link's four totals and four snapshots (R20). -/
def counterRecord (c : LinkCounters) : List Byte :=
  u16 c.code.total ++ u16 c.descriptor.total ++ u16 c.sequence.total ++ u16 c.bsf.total ++
  u16 c.code.snapshot ++ u16 c.descriptor.snapshot ++ u16 c.sequence.snapshot ++ u16 c.bsf.snapshot

/-- A source entry's six fields (R25, R28). -/
def sourceRecord (e : SourceEntry) : List Byte :=
  orNoneByte e.input ++ i8 e.trim ++ u24 e.lipSync ++ flagByte e.autoOn ++ enumByte surroundModes e.mode ++ [e.label]

/-- An activity monitor's record and the millisecond timer (R36). -/
def activityRecord (m : Monitor) (now : Millis) : List Byte :=
  enumByte activities m.state ++ u8 m.run ++ optional 4 (fun t => u32 (BitVec.toNat t)) m.quietSince ++ u32 now.toNat

/-- A decode unit's record (R56). -/
def unitRecord (d : DecodeUnit) (attached : List ZoneId) : List Byte :=
  enumByte unitStates d.state ++ orNoneByte d.link ++ u8 (byteOfBits (zoneIds.map fun z => attached.contains z)) ++
  u16 d.concealed ++ u16 d.silenced

/-- The arbiter's state (R56). -/
def decodeRecord (s : State) : List Byte :=
  (unitIds.flatMap fun u => unitRecord (s.units.get u) (attachedZones s u)) ++ u8 s.waitList.length ++
  (s.waitList.flatMap fun z => u8 z.1 ++ orNoneByte (s.zones.get z).link)

/-- A bound copy (R59). -/
def copyRecord (c : BoundCopy) : List Byte :=
  orNoneByte c.input ++ i8 c.trim ++ u24 c.lipSync ++ enumByte surroundModes c.mode

/-- The mute reasons as a set, in the order of R59. -/
def muteByte (m : Mutes) : List Byte :=
  u8 (byteOfBits [m.user, m.tuning, m.noSignal, m.format, m.rateMismatch, m.decode, m.tone])

/-- Descriptor values in force (R59). The channel map is the byte of the descriptor, bit 7 for FL (R6, log 16). -/
def valsRecord (v : DescValues) : List Byte :=
  [v.map] ++ u8 v.drc ++ u8 v.pref.toNat ++ flagByte v.lfe ++ u8 v.stream.toNat

/-- A decode attachment: DU0, DU1 or waiting, or none (R59). -/
def decodeCode : DecodePos → Option Nat
  | .none => none
  | .waiting => some 2
  | .attached u => some u.1

/-- A zone's options as SET_ZONE_OPTIONS carries and returns them (R83). -/
def optionsRecord (r : Zone) : List Byte :=
  enumByte surroundModes r.mode ++ flagByte r.night ++ enumByte clockModes r.clockMode ++ u8 r.rampInterval ++
  u8 r.autoStandby

/-- The test tone sequencer's report (R157). The time to the next step is written as an optional value of four bytes (log 16). -/
def toneRecord (spk : Vector Speaker 12) (t : Tone) (now : Millis) : List Byte :=
  flagByte t.running ++ enumByte patterns t.pattern ++ enumByte stepModes t.stepMode ++ u8 t.dwell ++
  optional 2 (fun c => u8 (Fin.val c) ++ u8 (spk.get c).position.1) t.speaker ++
  optional 4 (fun x => u32 (Timer.remaining x now)) t.dwellTimer

/-- The zone record in the order of R59, then the fields R85 adds. SILENT, as qr or as the applied gain value, is written as
the absence of a value, and the remaining countdown as an optional value of four bytes (log 16). -/
def zoneRecord (s : State) (r : Zone) : List Byte :=
  enumByte powers r.power ++ enumByte paths r.path ++ orNoneByte r.selected ++ orNoneByte r.bound ++
  optional 6 copyRecord r.copy ++ optional 1 (enumByte origins) r.restart ++ i16 r.qv ++ optional 2 i16 r.qr ++
  u8 r.rampInterval ++ muteByte r.mutes ++ enumByte surroundModes r.mode ++ flagByte r.night ++
  enumByte clockModes r.clockMode ++ enumByte clockStates r.clockState ++ u8 r.rate.code ++
  u8 r.autoStandby ++ flagByte r.countdown.isSome ++ u8 r.buffer.length ++ flagByte r.refilling ++
  u16 r.repeats ++ u16 r.skips ++ optional 5 valsRecord r.vals ++ optional 1 u8 (decodeCode r.decode) ++
  optional 6 (fun a => u24 (Alloc.words a) ++ u24 a.micros) r.alloc ++ enumByte origins r.lastChanged ++
  enumByte effModes r.effMode ++ optional 2 i16 r.appliedGain ++ u16 r.clips ++
  optional 4 (fun t => u32 (Timer.remaining t s.ms)) r.countdown ++ toneRecord s.speakers r.tone s.ms

/-- A row of a coefficient set (R106). -/
def rowRecord (row : CoefRow) : List Byte :=
  u8 row.channel.1 ++ u8 row.position.1 ++ posIds.flatMap fun p => i16 (row.coefs.get p)

/-- A zone's active coefficient set (R106). The channel map is the byte of the descriptor, bit 7 for FL (R6, log 16). The
empty set reports no mode and no map, and its gs and LFE-reduced flag are free values (log 13). -/
def matrixRecord (spk : Vector Speaker 12) (z : ZoneId) (active : Option CoefSet) : List Byte :=
  let rows := activeRows spk z active
  optional 1 (enumByte effModes) (active.map (·.inputs.mode)) ++ optional 1 (fun m => [m]) (active.map (·.inputs.map)) ++
  (match active with
    | some cs => i16 cs.inputs.gs ++ flagByte cs.inputs.lfe
    | none => u16 Config.emptySetGs.toNat ++ [Config.emptySetLfe]) ++
  u8 rows.length ++ rows.flatMap rowRecord

/-- A zone's part of the delay status (R117). The requested lip-sync of a zone bound to NONE, which holds an allocation
but no bound copy, is written 0 (log 16). -/
def allocRecord (r : Zone) : List Byte :=
  optional 12 (fun a => u24 (Alloc.words a) ++ u16 a.frames ++ u24 a.micros ++ u24 ((r.copy.map (·.lipSync)).getD 0) ++
    flagByte a.limited) r.alloc

/-- The allocator's state and the delays in force (R117). A line is written 1 in use and 0 unused (log 16). -/
def delayRecord (s : State) : List Byte :=
  u24 lipShare ++ u24 (freeWords s) ++ (zoneIds.flatMap fun z => allocRecord (s.zones.get z)) ++
  (chanIds.flatMap fun c =>
    enumByte speakerZones (s.speakers.get c).zone ++ flagByte (s.speakers.get c).zone.isSome ++
    optional 2 u16 (s.channels.get c).delay)

/-- A speaker entry (R119). -/
def speakerRecord (e : Speaker) : List Byte :=
  enumByte speakerZones e.zone ++ u8 e.position.1 ++ flagByte e.bridged ++ i8 e.trim ++ u24 e.delay ++
  enumByte [false, true] e.inverted

/-- A channel's role, with its bridging channel when it is held (R122). -/
def roleRecord (r : Role) : List Byte :=
  match r with
  | .own => u8 0 ++ optional 1 u8 none
  | .held k => u8 1 ++ optional 1 u8 (some k.1)
  | .unused => u8 2 ++ optional 1 u8 none

/-- A zone's part of the output status: W, m, drive mode last handed, carrier running, C, carrier frequency in Hz (R132).
W is written as its number, and a carrier 1 running and 0 stopped (log 16). -/
def carrierRecord (r : Zone) : List Byte :=
  u8 r.resolution ++ u8 r.minPulse ++ enumByte driveModes r.drive ++ flagByte (r.driveNow != .off) ++
  u8 r.rate.carrierMultiple ++ u24 (r.rate.carrierMultiple * r.rate.hz)

/-- A channel's output condition: OFF_LEVEL, CENTRE, AUDIO or HELD (R132), by the role as it stands and the drive mode last
handed. So until the next carrier period boundary a channel may report a condition that its period in progress does not yet
show, such as CENTRE or AUDIO with no duty count after a hold has ended, or OFF_LEVEL with a duty count after OFF was handed
or the channel was unassigned (log 42). -/
def conditionCode (s : State) (c : Chan) : Nat :=
  if (s.pairs.get (pairOf c)).state.holds then 3
  else match chanZone s.speakers c with
    | none => 0
    | some z => match (s.zones.get z).drive with
      | .off => 0
      | .centre => 1
      | .audio => 2

/-- The output stage's state (R132). -/
def outputRecord (s : State) : List Byte :=
  (zoneIds.flatMap fun z => carrierRecord (s.zones.get z)) ++
  (chanIds.flatMap fun c =>
    roleRecord (roleOf s.speakers c) ++ optional 1 (fun z => u8 (Fin.val z)) (chanZone s.speakers c) ++
    u8 (conditionCode s c) ++ optional 2 u16 (s.channels.get c).shown)

/-- A pair's last cause (R136): its code, then its channel as an optional value, present for DC alone (log 16). -/
def causeRecord : Cause → List Byte
  | .none => u8 0 ++ optional 1 u8 none
  | .fault => u8 1 ++ optional 1 u8 none
  | .dc c => u8 2 ++ optional 1 u8 (some c.1)

/-- A DC watch: condition, sign in RUN and STANDING, elapsed run time in RUN, of four bytes (R146, log 16). -/
def watchRecord (now : Millis) : Watch → List Byte
  | .clear => u8 0 ++ optional 1 u8 none ++ optional 4 u32 none
  | .run sign t => u8 1 ++ optional 1 (enumByte [true, false]) (some sign) ++ optional 4 u32 (some (t.elapsed now))
  | .standing sign => u8 2 ++ optional 1 (enumByte [true, false]) (some sign) ++ optional 4 u32 none

/-- The timer that a pair runs (R136). -/
def Pair.timer (p : Pair) : Option Timer :=
  match p.state with
  | .tripped => p.retryTimer
  | .probe => p.probeWindow
  | _ => none

/-- A pair's record (R146). R146 gives the time remaining of the retry timer or the probe window in ms and R198 no width for it: that
it is written as an optional value of four bytes is the model's choice, as that FLT is written 1 asserted and 0 not (log 16). -/
def pairRecord (s : State) (q : PairId) : List Byte :=
  let p := s.pairs.get q
  enumByte pairStates p.state ++ causeRecord p.cause ++ u8 p.retries ++ u8 p.retryLimit ++ u16 p.dcTime ++
  optional 4 (fun t => u32 (Timer.remaining t s.ms)) p.timer ++ flagByte p.flt ++ u8 p.faults ++
  watchRecord s.ms (s.channels.get (lowerChan q)).watch ++ watchRecord s.ms (s.channels.get (upperChan q)).watch

/-- A band's record with its fixed fields (R159). -/
def bandRecord (b : Band) (r : BandRecord) : List Byte :=
  u8 r.step ++ u24 (lowEdge b r.step) ++ u24 (highEdge b r.step) ++ u24 b.ifOffset ++ u8 b.prescale ++ u16 b.gateCount ++
  u8 b.settle ++ u24 b.tolerance ++ [r.threshold] ++ flagByte r.stereoOnly

/-- A calibration point (section 12.6). -/
def pointRecord (p : CalPoint) : List Byte := u24 p.frequency ++ u16 p.dac

/-- A preset entry (section 12.6). -/
def presetRecord (p : Preset) : List Byte := enumByte bands p.band ++ u24 p.frequency ++ u8 p.level

/-- A completion entry (R175). -/
def completionRecord (c : Completion) : List Byte :=
  [c.number] ++ enumByte tunerResults c.result ++ enumByte tunerOps c.op ++ enumByte origins c.origin ++
  enumByte bands c.band ++ u24 c.frequency

/-- A measured frequency; one outside the range of three bytes is a free value (log 14). -/
def measuredRecord (f : Int) : List Byte :=
  u24 (if 0 ≤ f ∧ f < 16777216 then f.toNat else (Config.frequencyOutside f).toNat)

/-- The tuner record (R181). The completion list is written with its number of entries before them (log 16). -/
def tunerRecord (t : Tuner) : List Byte :=
  enumByte tunerStates t.state ++ optional 1 (enumByte phases) t.phase ++ enumByte bands t.band ++ u24 t.target ++
  optional 3 measuredRecord t.measured ++ u16 t.dac ++ u8 t.level ++ flagByte t.pilot ++
  optional 2 (fun x => enumByte tunerOps (Prod.fst x) ++ enumByte origins (Prod.snd x)) t.op ++ u8 t.iterations ++
  optional 4 (fun x => enumByte bands (Prod.fst x) ++ u24 (Prod.snd x)) t.start ++ enumByte origins t.lastChanged ++
  u8 t.completions.length ++ t.completions.flatMap completionRecord

/-- An encoder's binding (R188): its code, then its zone as an optional value, present for VOLUME alone (log 16). -/
def bindingRecord : Binding → List Byte
  | .volume z => u8 0 ++ optional 1 u8 (some z.1)
  | .tune => u8 1 ++ optional 1 u8 none
  | .source => u8 2 ++ optional 1 u8 none
  | .none => u8 3 ++ optional 1 u8 none

/-- An encoder's record and the millisecond timer (R188). -/
def encoderRecord (e : Encoder) (now : Millis) : List Byte :=
  bindingRecord e.binding ++ optional 1 (enumByte pairOrder) e.filtered ++ i8 e.quarters ++
  optional 5 (fun x => u32 (BitVec.toNat (Prod.fst x)) ++ enumByte [true, false] (Prod.snd x)) e.lastDetent ++ u32 now.toNat

end Sys2Proof.Machine
end

