-- ==== Sys2Proof/Machine/PortOps.lean ====
section
/-! DEFINITION. Transactions of a control port: status byte, requests with their response, POLL, FETCH and malformed
transactions (R192 to R197), and the two resets (R203, R204). -/

namespace Sys2Proof.Machine

/-- Result codes, as R196 numbers them. -/
def Result.code : Result → Nat
  | .ok => 0
  | .accepted => 1
  | .limited => 2
  | .refusedState => 3
  | .range => 4
  | .length => 5
  | .duplicate => 6
  | .notLocked => 7
  | .unknown => 8

/-- What an owner's taking of a request leaves and answers. -/
structure Reply where
  state : State
  result : Result
  data : List Byte

/-- A refusal, or an answer without data that changes nothing. -/
def State.reply (s : State) (r : Result) : Reply := { state := s, result := r, data := [] }

/-- An OK answer with data. -/
def State.ok (s : State) (data : List Byte) : Reply := { state := s, result := .ok, data := data }

/-- OK, or LIMITED when a value was clamped or rounded, with the values applied (00_scope.md, section 5.6). -/
def State.okOrLimited (s : State) (limited : Bool) (data : List Byte) : Reply :=
  { state := s, result := if limited then .limited else .ok, data := data }

/-- The origin of a request (R194). -/
def portOrigin : Port → Origin
  | .cpa => .portA
  | .cpb => .portB

/-- The status byte as the port forms it from its state (R193). -/
def PortState.statusByte (r : PortState) : Byte :=
  BitVec.ofNat 8 (byteOfBits [false, false, false, false, false, r.framing, r.attention, r.slot.isSome])

/-- The status byte of the transaction: the one latched at its falling edge, or formed now when the command stands for the
whole transaction (R193, log 9). -/
def PortState.status (r : PortState) : Byte :=
  match r.line with
  | .selected b => b
  | _ => r.statusByte

/-- The `n` bytes that a transaction shifted out which a soft reset discarded: those clocked before it as they were, zeros for
the rest (R204, log 41). -/
def CutTransaction.shifted (c : CutTransaction) (fetch : Bool) (n : Nat) : List Byte :=
  (c.status :: (if fetch then c.record else []) ++ List.replicate n 0).take (min c.clocked n) ++
    List.replicate (n - c.clocked) 0

/-- A transaction of `n` bytes ends at a port that ignores its lines: nothing is taken, and the next falling edge begins a
transaction (R203, R204). That the next transaction row of the port is this end is the model's choice (log 9). What MISO
carried is log 10. -/
def PortState.endIgnored (r : PortState) (fetch : Bool) (n : Nat) : PortState :=
  { r with line := .idle, cut := none, miso := (r.cut.map fun c => c.shifted fetch n).getD (List.replicate n 0) }

/-- A transaction completes with the bytes shifted out after the status byte (R192, R195). -/
def PortState.complete (r : PortState) (malformed : Bool) (out : List Byte) : PortState :=
  { r with line := .idle, framing := malformed, miso := r.status :: out }

/-- A request transaction (R192, R194, R195): one that is malformed is discarded, as is one taken while RESPONSE_PENDING
stood in its status byte; otherwise the owner takes it and its response is placed in the slot. -/
def serve (s : State) (p : Port) (tag : Byte) (payload : List Byte) (owner : State → Reply) : State :=
  let r := s.ports.get p
  if r.line = .ignoring then s.putPort p (r.endIgnored false (3 + payload.length))
  else
    let s := s.putPort p (r.complete (decide (250 < payload.length)) (List.replicate (2 + payload.length) 0))
    if 250 < payload.length ∨ r.status.getLsbD 7 = true then s
    else
      let a := owner s
      a.state.updPort p fun r => { r with slot := some { tag := tag, result := a.result, data := a.data } }

/-- A request whose bytes carry nothing (R200, R204). -/
def noPayload (payload : List Byte) (s : State) (f : State → Reply) : Reply :=
  match payload with
  | [] => f s
  | _ => s.reply .length

/-- A request whose payload is one index below `n` (R198). -/
def oneIndex (n : Nat) (payload : List Byte) (s : State) (f : State → Fin n → Reply) : Reply :=
  match payload with
  | [b] => match indexOf n b with
    | some i => f s i
    | none => s.reply .range
  | _ => s.reply .length

/-- The bytes of a response record (R196). -/
def Response.bytes (r : Response) : List Byte := [r.tag] ++ u8 r.result.code ++ u8 r.data.length ++ r.data

/-- The NONE record (R196). -/
def noneRecord : List Byte := [0, 255, 0]

/-- The record that a FETCH shifts out (R197). -/
def PortState.record (r : PortState) : List Byte := (r.slot.map Response.bytes).getD noneRecord

/-- The `n` bytes shifted out after byte 0 of a FETCH: the record, then zeros (R197). -/
def fetchBytes (record : List Byte) (n : Nat) : List Byte := record.take n ++ List.replicate (n - record.length) 0

/-- POLL (R192). -/
def pollPort (s : State) (p : Port) : State :=
  let r := s.ports.get p
  if r.line = .ignoring then s.putPort p (r.endIgnored false 1) else s.putPort p (r.complete false [])

/-- FETCH with `n` bytes after byte 0 (R197): the slot empties when the whole record was clocked out. -/
def fetchPort (s : State) (p : Port) (n : Nat) : State :=
  let r := s.ports.get p
  if r.line = .ignoring then s.putPort p (r.endIgnored true (1 + n))
  else s.putPort p { r.complete false (fetchBytes r.record n) with
    slot := if r.record.length ≤ n then none else r.slot }

/-- What a transaction shifts out after byte 0: the record in a FETCH, zeros otherwise (R192). -/
def shiftedOut (r : PortState) (mosi : List Byte) : List Byte :=
  match mosi with
  | c :: rest => if c = 1 then fetchBytes r.record rest.length else List.replicate rest.length 0
  | [] => []

/-- A malformed transaction ends: FRAMING is set and nothing else changes (R195). -/
def malformedPort (s : State) (p : Port) (mosi : List Byte) (bits : Nat) : State :=
  let r := s.ports.get p
  if isMalformed mosi bits then
    if r.line = .ignoring then s.putPort p (r.endIgnored (decide (mosi.head? = some 1)) mosi.length)
    else s.putPort p { r.complete true (shiftedOut r mosi) with miso := if mosi = [] then [] else r.status :: shiftedOut r mosi }
  else s

/-- Chip select falls: the status byte is formed and latched (R193). At a port that ignores its lines the fall shows that chip
select has risen since, which ended what was ignored (R203, R204), and begins a transaction; at a port that is selected it
cannot happen and changes nothing. No row stands for the rise itself, and both readings are the model's choice (log 9). -/
def selectPort (s : State) (p : Port) : State :=
  s.updPort p fun r =>
    match r.line with
    | .idle => { r with line := .selected r.statusByte }
    | .ignoring => { r with line := .selected r.statusByte, cut := none }
    | .selected _ => r

/-! ## Resets -/

/-- A link after a soft reset (R24). -/
def Link.softReset (r : Link) : Link :=
  { Link.reset with enabled := r.enabled, lossWindow := r.lossWindow, state := if r.enabled then .detectQuiet else .disabled }

/-- Step 1 of R204: every block takes its soft reset (R24, R29, R37, R58, R87, R107, R118, R135, R148, R158, R183, R191). The
millisecond timer and the queue go on. A snapshot that is due finds every count zero, and none is due any more (R19, log 43). -/
def softBlocks (s : State) : State :=
  { s with
    snapshotDue := false
    links := Vector.ofFn fun l => (s.links.get l).softReset
    monitors := Vector.replicate 9 Monitor.reset
    units := Vector.replicate 2 DecodeUnit.reset
    waitList := []
    zones := Vector.ofFn fun z => let r := s.zones.get z; Zone.reset r.selected r.resolution r.minPulse
    channels := Vector.replicate 12 Channel.reset
    pairs := Vector.ofFn fun q => let p := s.pairs.get q; Pair.reset p.dcTime p.retryLimit p.flt
    tuner := s.tuner.softReset
    encoders := Vector.ofFn fun e => let r := s.encoders.get e; Encoder.reset r.raw s.ms r.binding }

/-- Steps 2 to 4 of R204 at one port: a transaction in progress is discarded and ignored to its end, the slot is emptied,
FRAMING cleared, the flag copy left with RESET alone, the masks kept. Of the discarded transaction `clocked` bytes had been
clocked, a free value (log 41). -/
def PortState.softReset (clocked : Nat) (r : PortState) : PortState :=
  { r with
    line := match r.line with
      | .idle => .idle
      | _ => .ignoring
    cut := match r.line with
      | .selected st => some { status := st, record := r.record, clocked := clocked }
      | _ => r.cut
    slot := none, framing := false, flags := resetFlags }

/-- A soft reset (R204): the port that requests it has no transaction in progress any more. -/
def softReset (s : State) : State :=
  let clocked := Config.clockedAtReset s.fresh
  { softBlocks s with
    ports := { cpa := s.ports.cpa.softReset clocked, cpb := s.ports.cpb.softReset clocked }
    fresh := s.fresh + 1 }

/-- A power-on reset (R203): the commands that wait and the count of free values are the model's and go on (log 36). -/
def powerOnReset (s : State) (pins : Pins) : State := { State.powerUp pins with fresh := s.fresh, pending := s.pending }

end Sys2Proof.Machine
end

