-- ==== Sys2Proof/Machine/EncoderCommands.lean ====
section
/-! DEFINITION. The meanings of the panel encoder commands (R184 to R190). -/

namespace Sys2Proof.Machine

/-- A binding from its code and zone byte; the zone is examined for VOLUME alone (R188). -/
def bindingOf (code zone : Byte) : Option Binding :=
  match code.toNat with
  | 0 => (indexOf 3 zone).map .volume
  | 1 => some .tune
  | 2 => some .source
  | 3 => some .none
  | _ => none

/-- SET_BINDING as a request (R188). -/
def reqSetBinding (payload : List Byte) (s : State) : Reply :=
  match payload with
  | [eb, bb, zb] => match indexOf 2 eb, bindingOf bb zb with
    | some e, some b =>
      (s.putEncoder e { s.encoders.get e with binding := b, quarters := 0, lastDetent := none }).ok (bindingRecord b)
    | _, _ => s.reply .range
  | _ => s.reply .length

/-- SET_BINDING (R188). -/
def execSetBinding (p : Port) (tag : Byte) (payload : List Byte) (s : State) : Host.Outcome State Fault Refusal :=
  .next (serve s p tag payload (reqSetBinding payload))

/-- GET_ENCODER_STATUS (R188). -/
def execGetEncoderStatus (p : Port) (tag : Byte) (payload : List Byte) (s : State) : Host.Outcome State Fault Refusal :=
  .next (serve s p tag payload fun s => oneIndex 2 payload s fun s e => s.ok (encoderRecord (s.encoders.get e) s.ms))

/-- ENCODER_LINE_CHANGE (R185). -/
def execEncoderLineChange (e : EncId) (a b : Bool) (s : State) : Host.Outcome State Fault Refusal :=
  .next (lineChange s e a b)

/-- FILTER_SETTLED (R185, R186). -/
def execFilterSettled (e : EncId) (s : State) : Host.Outcome State Fault Refusal := .next (filterSettled s e)

/-- DETENT (R187). -/
def execDetent (e : EncId) (clockwise : Bool) (s : State) : Host.Outcome State Fault Refusal := .next (makeDetent s e clockwise)

end Sys2Proof.Machine
end

