-- ==== Sys2Proof/Machine/Monitors.lean ====
section
/-! DEFINITION. Activity monitors: their states, the judgement of frames and blocks, and auto-on (R30 to R35). -/

namespace Sys2Proof.Machine

/-- The lowest-numbered entry whose input is the link and whose auto-on is yes (R35). -/
def autoOnEntry (s : State) (l : LinkId) : Option SrcId :=
  srcIds.find? fun i => decide ((s.sources.get i).input = some l) && (s.sources.get i).autoOn

/-- MAIN takes an auto-on offer of a link whole (R35). -/
def offerAutoOn (s : State) (l : LinkId) : State :=
  if (s.zones.get 0).power = .standby then
    match autoOnEntry s l with
    | some i => ((powerUpZone (s.updZone 0 fun r => { r with selected := some i }) 0).zoneOrigin 0 .auto).raise .signal
    | none => s
  else s

/-- A monitor is written and a change of its state announced: to the zones on its link for their countdown (a change between
SILENT and NO_LINK concerns none), and on entry to ACTIVE to MAIN as an auto-on offer (R34, R35, R82). -/
def setMonitor (s : State) (l : LinkId) (m : Monitor) : State :=
  let old := (s.monitors.get l).state
  let s := s.putMonitor l m
  let s := if decide (old = .active) != decide (m.state = .active) then s.forEach zoneIds (zoneOnActivity l) else s
  if old ≠ .active ∧ m.state = .active then offerAutoOn s l else s

/-- The monitor enters SILENT with a loud-block run of 0. -/
def Monitor.toSilent (m : Monitor) : Monitor :=
  { m with state := .silent, run := 0, quietTimer := none, whole := false, loud := false }

/-- The monitor enters ACTIVE with its quiet timer at 1,000 ms (R32). -/
def Monitor.toActive (now : Millis) (m : Monitor) : Monitor :=
  { m with state := .active, run := 0, quietTimer := some (newTimer now 1000), whole := false, loud := false }

/-- The monitor follows a link state change of its link (R30). -/
def monitorOnLink (s : State) (l : LinkId) : State :=
  let m := s.monitors.get l
  if (s.links.get l).state = .locked then setMonitor s l m.toSilent
  else setMonitor s l { m.toSilent with state := .noLink
                                        quietSince := if m.state = .active then some s.ms else m.quietSince }

/-- The quiet timer expires: SILENT, and the quiet-since time is recorded. A non-silent frame taken first has restarted the timer,
and the expiry does not happen (R33). -/
def quietExpiry (s : State) (l : LinkId) : State :=
  let m := s.monitors.get l
  if m.state = .active ∧ timeUp m.quietTimer s.ms = true then setMonitor s l { m.toSilent with quietSince := some s.ms } else s

/-- A block judged in SILENT: a loud block adds 1 to the run, and the eighth moves the monitor to ACTIVE; a quiet block sets
the run to 0 (R32). -/
def judgeBlock (s : State) (l : LinkId) (loud : Bool) : State :=
  let m := s.monitors.get l
  if loud then
    if 8 ≤ m.run + 1 then setMonitor s l (m.toActive s.ms) else setMonitor s l { m with run := m.run + 1 }
  else setMonitor s l { m with run := 0 }

/-- A frame is non-silent when the magnitude of a present channel is 256 or more (R31). -/
def frameLoud (map : BitVec 8) (magnitude : Pos → Nat) : Bool := (presentList map).any fun p => decide (256 ≤ magnitude p)

/-- The magnitudes of a PCM frame (R31). -/
def pcmMagnitude (f : Vector Sample 8) (p : Pos) : Nat := (f.get p).toInt.natAbs

/-- The magnitudes of frame `k` of a BSF block; an exponent of 9 to 15 gives 0 (R31). -/
def bsfMagnitude (d : Descriptor) (k : Nat) (f : MantissaFrame) (p : Pos) : Nat :=
  if d.expo k p ≤ 8 then (f.get p).toInt.natAbs * 2 ^ d.expo k p else 0

/-- A BSF block holds a non-silent frame (R31, R32). -/
def bsfLoud (d : Descriptor) (fs : List MantissaFrame) : Bool :=
  ((List.range fs.length).zipWith (fun k f => frameLoud d.map (bsfMagnitude d k f)) fs).any id

/-- The monitor takes a frame of a block as it is delivered (R31 to R33). `first` and `last` say where in the block it stands;
the block is judged with its last frame when all of it was taken in SILENT. -/
def monitorFrame (s : State) (l : LinkId) (first last loud : Bool) : State :=
  let m := s.monitors.get l
  match m.state with
  | .noLink => s
  | .active => setMonitor s l { m with whole := false
                                       quietTimer := if loud then some (newTimer s.ms 1000) else m.quietTimer }
  | .silent =>
    let m := { m with whole := first || m.whole, loud := loud || (!first && m.loud) }
    let s := setMonitor s l m
    if last ∧ m.whole = true then judgeBlock s l m.loud else s

/-- The monitor takes the 64 frames of a BSF block, or of a withheld one, together (R31 to R33). -/
def monitorBlock (s : State) (l : LinkId) (loud : Bool) : State :=
  let m := s.monitors.get l
  match m.state with
  | .noLink => s
  | .active => if loud then setMonitor s l { m with quietTimer := some (newTimer s.ms 1000) } else s
  | .silent => judgeBlock s l loud

end Sys2Proof.Machine
end

