-- ==== Sys2Proof/Machine/LinkOps.lean ====
section
/-! DEFINITION. Link receivers: frames, descriptors, slots with parity and hold registers, and the link states (R1 to R18). -/

namespace Sys2Proof

/-- A frame is well formed with exactly 256 BCK rising edges (R1). -/
def LinkFrame.wellFormed (f : LinkFrame) : Bool := f.data.length == 256

/-- A frame carries a long sync with FS high for 49 bit clocks or more (R1). -/
def LinkFrame.longSync (f : LinkFrame) : Bool := decide (49 ≤ f.fsHigh)

end Sys2Proof

namespace Sys2Proof.Machine

/-! ## Frames and slots -/

/-- A slot from its 32 bits, the first of them bit 31 (R1). -/
def slotOfBits (bits : List Bool) : Slot := BitVec.ofNat 32 (bits.foldl (fun a b => 2 * a + (if b then 1 else 0)) 0)

/-- What the receiver keeps of a frame; one that is not well formed has no usable slots (R1, R5). -/
def rawFrame (f : LinkFrame) : RawFrame :=
  { wellFormed := f.wellFormed
    slots := byPos fun n => if f.wellFormed then slotOfBits ((f.data.drop (32 * n.1)).take 32) else 0 }

/-- A slot has a parity error: an odd count of ones (R2). -/
def parityError (w : Slot) : Bool := (List.range 32).foldl (fun a i => a != w.getLsbD i) false

/-- The S bit of a slot; 0 in a frame that is not well formed (R1, R2, R6). -/
def RawFrame.sBit (f : RawFrame) (n : Fin 8) : Bool := f.wellFormed && (f.slots.get n).getLsbD 6

/-! ## Descriptors -/

/-- Descriptor bits in transmission order: the S bits of slots 0 and 1 of each frame (R6). -/
def descriptorBits (fs : List RawFrame) : List Bool := fs.flatMap fun f => [f.sBit 0, f.sBit 1]

/-- Bytes from bits, most significant bit first (R6). -/
def bytesOfBits : List Bool → List Nat
  | b7 :: b6 :: b5 :: b4 :: b3 :: b2 :: b1 :: b0 :: rest =>
    byteOfBits [b0, b1, b2, b3, b4, b5, b6, b7] :: bytesOfBits rest
  | _ => []

/-- The bytes of a block's descriptor (R6). -/
def descriptorBytes (fs : List RawFrame) : List Nat := bytesOfBits (descriptorBits fs)

/-- The format of byte 1, bits 7 and 6 (R6). -/
def formatOf (n : Nat) : Format :=
  if n = 0 then .pcm else if n = 1 then .bsf else if n = 2 then .unsupported2 else .unsupported3

/-- The eight exponents of four bytes, in position order (R6). -/
def exponentsOf (b0 b1 b2 b3 : Nat) : Vector (BitVec 4) 8 :=
  #v[BitVec.ofNat 4 (b0 / 16), BitVec.ofNat 4 b0, BitVec.ofNat 4 (b1 / 16), BitVec.ofNat 4 b1,
    BitVec.ofNat 4 (b2 / 16), BitVec.ofNat 4 b2, BitVec.ofNat 4 (b3 / 16), BitVec.ofNat 4 b3]

/-- The fields of sixteen descriptor bytes; a DRC above 48 is taken as 48 (R6, R7). -/
def descriptorFields (b : List Nat) : Descriptor :=
  let at_ (i : Nat) : Nat := b.getD i 0
  { format := formatOf (at_ 1 / 64)
    rateCode := at_ 1 / 8 % 8
    lfe := at_ 1 / 4 % 2 == 1
    pref := BitVec.ofNat 2 (at_ 1)
    map := BitVec.ofNat 8 (at_ 2)
    drc := min 48 (at_ 3 / 4)
    stream := BitVec.ofNat 6 (at_ 3 % 4 * 16 + at_ 4 / 16)
    seq := BitVec.ofNat 4 (at_ 4)
    expo1 := exponentsOf (at_ 5) (at_ 6) (at_ 7) (at_ 8)
    expo2 := exponentsOf (at_ 9) (at_ 10) (at_ 11) (at_ 12)
    checksum := BitVec.ofNat 16 (at_ 13 * 256 + at_ 14) }

/-- The checks of R8: sync byte, sum, channel map, rate code against the link's measured rate. -/
def descriptorGood (rate : Option Rate) (b : List Nat) : Bool :=
  decide (b.length = 16) && decide (b.getD 0 0 = 0xC6) && decide (b.sum % 256 = 0) && decide (b.getD 2 0 ≠ 0) &&
  (decide (b.getD 1 0 / 8 % 8 = 7) || decide (rate.map Rate.code = some (b.getD 1 0 / 8 % 8)))

/-- The descriptor of a block when it is good (R7, R8). -/
def blockDescriptor (rate : Option Rate) (fs : List RawFrame) : Option Descriptor :=
  let b := descriptorBytes fs
  if descriptorGood rate b then some (descriptorFields b) else none

/-! ## Slots as delivered -/

/-- The hold register as a PCM sample (R3); a mantissa read as one is a free value (log 12). -/
def Hold.asSample : Hold → Sample
  | .zero => 0
  | .sample x => x
  | .mantissa m => Config.holdAsSample m

/-- The hold register as a BSF mantissa (R4); a sample read as one is a free value (log 12). -/
def Hold.asMantissa : Hold → BitVec 16
  | .zero => 0
  | .sample x => Config.holdAsMantissa x
  | .mantissa m => m

/-- The slots that carry the present channels of a map, each with its position (R3, R4). -/
def carriedSlots (map : BitVec 8) : List (Fin 8 × Pos) := posIds.zip (presentList map)

/-- The sample of bits 31 to 8, taken as zero when V is 0 (R3). -/
def pcmValue (w : Slot) : Sample := if w.getLsbD 7 then w.extractLsb' 8 24 else 0

/-- One slot of a PCM frame: what is delivered and what the hold register then holds, and whether it had a parity error
(R2, R3, R5). That a frame which is not well formed and was received in ALIGN or RECOVER is delivered as R5 says for LOCKED, when
its block is released at the entry to LOCKED, is the model's choice (log 45): its slots give the hold registers' content. -/
def pcmSlot (f : RawFrame) (n : Fin 8) (h : Hold) : (Sample × Hold) × Bool :=
  if f.wellFormed = false then ((h.asSample, h), false)
  else if parityError (f.slots.get n) then ((h.asSample, h), true)
  else ((pcmValue (f.slots.get n), .sample (pcmValue (f.slots.get n))), false)

/-- One slot of a BSF frame, likewise (R2, R4, R5, log 45). -/
def bsfSlot (f : RawFrame) (n : Fin 8) (h : Hold) : (BitVec 16 × Hold) × Bool :=
  if f.wellFormed = false then ((h.asMantissa, h), false)
  else if parityError (f.slots.get n) then ((h.asMantissa, h), true)
  else (((f.slots.get n).extractLsb' 16 16, .mantissa ((f.slots.get n).extractLsb' 16 16)), false)

/-- A frame's channels read slot by slot: values by position, hold registers, CODE errors from parity (R2 to R5). -/
def readSlots {α : Type} (zero : α) (slot : Fin 8 → Hold → (α × Hold) × Bool) (map : BitVec 8) (hold : Vector Hold 8) :
    Vector α 8 × Vector Hold 8 × Nat :=
  (carriedSlots map).foldl (fun acc np =>
    let v := slot np.1 (acc.2.1.get np.1)
    (setAt acc.1 np.2 v.1.1, setAt acc.2.1 np.1 v.1.2, acc.2.2 + (if v.2 then 1 else 0))) (byPos fun _ => zero, hold, 0)

/-- The mantissas of a block as delivered, the hold registers after it, and its CODE errors from parity (R4). -/
def readMantissas (map : BitVec 8) (hold : Vector Hold 8) : List RawFrame → List MantissaFrame × Vector Hold 8 × Nat
  | [] => ([], hold, 0)
  | f :: fs =>
    let a := readSlots 0 (bsfSlot f) map hold
    let b := readMantissas map a.2.1 fs
    (a.1 :: b.1, b.2.1, a.2.2 + b.2.2)

/-! ## Announcements -/

/-- A link state change is taken by the monitor, the decode arbiter and the zones on the link (R18, log 22). -/
def announceState (s : State) (l : LinkId) : State :=
  (arbiterLink (monitorOnLink s l) l).forEach zoneIds (zoneOnLink l)

/-- A format change is taken by the decode arbiter and the zones on the link (R18). -/
def announceFormat (s : State) (l : LinkId) : State := (arbiterLink s l).forEach zoneIds (zoneOnLink l)

/-- CODE errors counted (R2, R5). -/
def Link.countCode (r : Link) (n : Nat) : Link := { r with counters := { r.counters with code := r.counters.code.bump n } }

/-- One DESCRIPTOR error counted (R8, R16). -/
def Link.countDescriptor (r : Link) : Link :=
  { r with counters := { r.counters with descriptor := r.counters.descriptor.bump 1 } }

/-- A SEQUENCE error counted when the number differs from the expected one (R9). -/
def Link.countSequence (r : Link) (d : Descriptor) : Link :=
  if d.seq = r.expectedSeq then r
  else { r with counters := { r.counters with sequence := r.counters.sequence.bump 1 } }

/-- A link that gives up what it received: rate NONE, no descriptor, no block, no timer of its state (R11, R15 to R17). -/
def Link.giveUp (r : Link) (st : LinkState) : Link :=
  { r with state := st, rate := none, lastGood := none, hold := Vector.replicate 8 .zero, reading := [], blockTicks := 0,
           delivery := none, stateTimer := none, candidate := none, measurement := none, detectCount := 0, errorRun := 0 }

/-- The link enters MEASURE.COUNTING with rate NONE. -/
def enterMeasure (s : State) (l : LinkId) : State := announceState (s.updLink l fun r => r.giveUp .measureCounting) l

/-- The link enters RECOVER.SEEK_BLOCK: recovery timer at 50 ms, rate and last good descriptor kept, the block in reading
and the rest of the block in delivery given up; a unit that serves the link hands out zeros (R15, R16, R43). -/
def enterRecover (s : State) (l : LinkId) : State :=
  let s := s.updLink l fun r =>
    { r with state := .recoverSeek, stateTimer := some (newTimer s.ms 50), reading := [], blockTicks := 0, delivery := none }
  let s := match servingUnit s l with
    | some u => unitSilent s u false
    | none => s
  announceState s l

/-! ## Delivery -/

/-- A frame reaches every zone bound to a source on the link (R10). -/
def frameToZones (s : State) (l : LinkId) (f : BufFrame) : State :=
  s.forEach zoneIds fun s z => if (s.zones.get z).link = some l then writeFrame s z f else s

/-- One frame of the block in delivery goes out with a link frame; the descriptor values travel with the first (R10, R31). It
reaches the zones in zone order and then the monitor, so a zone that the monitor wakes by it does not get it: the spec gives
no order between them (log 22). Formats 2 and 3 deliver zeros (log 18). -/
def deliverFrame (s : State) (l : LinkId) : State :=
  let r := s.links.get l
  match r.delivery with
  | none => s
  | some d =>
    match d.frames with
    | [] => s.updLink l fun r => { r with delivery := none }
    | f :: rest =>
      let read := if d.desc.format = .pcm then readSlots 0 (pcmSlot f) d.desc.map r.hold else (byPos fun _ => 0, r.hold, 0)
      let first := decide (rest.length = 63)
      let s := s.updLink l fun r =>
        { r.countCode read.2.2 with
          hold := read.2.1
          delivery := if rest.isEmpty then none else some { d with frames := rest } }
      let s := frameToZones s l { samples := read.1, vals := if first then some d.desc.vals else none }
      monitorFrame s l first rest.isEmpty (frameLoud d.desc.map (pcmMagnitude read.1))

/-- The unit that serves the link, if there is one, hands out a frame (R39). -/
def unitDelivers (s : State) (l : LinkId) : State :=
  match servingUnit s l with
  | some u => unitFrame s u
  | none => s

/-- In RECOVER one frame of zeros goes out with each link frame: through the serving unit when the last good descriptor is
BSF, otherwise to every zone on the link (R16). -/
def recoverZero (s : State) (l : LinkId) : State :=
  if (s.links.get l).lastGood.map (·.format) = some .bsf then unitDelivers s l
  else frameToZones s l { samples := byPos fun _ => 0, vals := none }

/-! ## Blocks -/

/-- A good block is released in LOCKED under its own descriptor, which becomes the last good one (R9, R10). A BSF block goes to
the unit that served the link before this block end (log 21) and to the monitor; another goes into delivery. `announce` is
the announcement that the block end makes. -/
def releaseGood (s : State) (l : LinkId) (d : Descriptor) (fs : List RawFrame) (announce : State → State) : State :=
  let adopt (r : Link) : Link :=
    { r with lastGood := some d, expectedSeq := d.seq + 1, errorRun := 0, reading := [], blockTicks := 0 }
  if d.format = .bsf then
    let m := readMantissas d.map (s.links.get l).hold fs
    let s := s.updLink l fun r => { (adopt r).countCode m.2.2 with hold := m.2.1 }
    let s := match servingUnit s l with
      | some u => unitTakesBlock s u l d m.1
      | none => s
    monitorBlock (announce s) l (bsfLoud d m.1)
  else (announce (s.updLink l adopt)).updLink l fun r => { r with delivery := some { desc := d, frames := fs } }

/-- The link enters LOCKED at a block with a good descriptor, from ALIGN or from RECOVER (R9, R14, R16). -/
def enterLocked (s : State) (l : LinkId) (d : Descriptor) (fs : List RawFrame) : State :=
  releaseGood (s.updLink l fun r =>
    { r with state := .locked, hold := Vector.replicate 8 .zero, stateTimer := none, candidate := none, lastGood := some d })
    l d fs fun s => announceState s l

/-- A block with a descriptor in error that stays in LOCKED: a PCM block is delivered under the last good descriptor, a BSF
block is withheld (R8, R10, R43). -/
def releaseBad (s : State) (l : LinkId) (fs : List RawFrame) : State :=
  match (s.links.get l).lastGood with
  | none => s
  | some d =>
    if d.format = .bsf then
      let s := match servingUnit s l with
        | some u => unitSilent s u true
        | none => s
      monitorBlock s l false
    else s.updLink l fun r => { r with delivery := some { desc := d, frames := fs } }

/-- The end of a block in LOCKED (R6 to R10, R15). A rate mismatch rules over a third descriptor error, and the errors of the
block are counted before it (log 20). -/
def lockedBlockEnd (s : State) (l : LinkId) : State :=
  let r := s.links.get l
  let fs := r.reading
  let mismatch := !(r.rate.map (Rate.isMatch r.blockTicks)).getD false
  match blockDescriptor r.rate fs with
  | some d =>
    let s := s.updLink l fun r => r.countSequence d
    if mismatch then enterMeasure s l
    else
      releaseGood s l d fs fun s => if r.lastGood.map (·.format) = some d.format then s else announceFormat s l
  | none =>
    let s := s.updLink l fun r =>
      { r.countDescriptor with expectedSeq := r.expectedSeq + 1, errorRun := r.errorRun + 1, reading := [], blockTicks := 0 }
    if mismatch then enterMeasure s l
    else if 3 ≤ r.errorRun + 1 then enterRecover s l
    else releaseBad s l fs

/-- A frame joins the block in reading. -/
def Link.readFrame (r : Link) (f : LinkFrame) : Link :=
  { r with reading := r.reading ++ [rawFrame f], blockTicks := r.blockTicks + f.ticks }

/-- A frame starts a block. -/
def Link.startBlock (r : Link) (f : LinkFrame) : Link := { r with reading := [rawFrame f], blockTicks := f.ticks }

/-! ## Frames by link state -/

/-- A link frame in RECOVER (R16): one frame of zeros goes out, and the block in reading is followed. The 64th frame of a block
evaluates it; a block in error waits for the next frame's sync. -/
def recoverFrame (s : State) (l : LinkId) (f : LinkFrame) : State :=
  let s := recoverZero s l
  let r := s.links.get l
  if r.state = .recoverSeek then
    if f.longSync then s.updLink l fun r => { r.startBlock f with state := .recoverRead } else s
  else if r.reading.length = 64 then
    if f.longSync then s.updLink l fun r => r.startBlock f
    else s.updLink l fun r => { r with state := .recoverSeek, reading := [], blockTicks := 0 }
  else if f.longSync then s.updLink l fun r => r.startBlock f
  else
    let s := s.updLink l fun r => r.readFrame f
    let fs := (s.links.get l).reading
    if fs.length = 64 then
      match blockDescriptor r.rate fs with
      | some d => enterLocked s l d fs
      | none => s.updLink l Link.countDescriptor
    else s

/-- A link frame in LOCKED (R5, R10, R15). A frame that is not well formed counts its CODE error here, as it arrives, so that one
received before the entry to LOCKED counts none (log 45). A long sync off the grid sends the link to RECOVER at once, and that frame already
delivers zeros and starts no block (log 19). -/
def lockedFrame (s : State) (l : LinkId) (f : LinkFrame) : State :=
  if f.longSync ∧ (s.links.get l).reading ≠ [] then recoverZero (enterRecover s l) l
  else
    let s := unitDelivers (deliverFrame s l) l
    let s := s.updLink l fun r => (if f.wellFormed then r else r.countCode 1).readFrame f
    if (s.links.get l).reading.length = 64 then lockedBlockEnd s l else s

/-- A link frame in ALIGN (R14). What follows a block's 64th frame is decided by the sync of the next frame. -/
def alignFrame (s : State) (l : LinkId) (f : LinkFrame) : State :=
  let r := s.links.get l
  if r.state = .alignSeek then
    if f.longSync then s.updLink l fun r => { r.startBlock f with state := .alignRead } else s
  else if r.reading.length = 64 then
    if f.longSync then
      match blockDescriptor r.rate r.reading with
      | some d =>
        if r.candidate.map (· + 1) = some d.seq then lockedFrame (enterLocked s l d r.reading) l f
        else s.updLink l fun r => { r.startBlock f with candidate := some d.seq }
      | none => s.updLink l fun r => { r.startBlock f with candidate := none }
    else s.updLink l fun r => { r with state := .alignSeek, candidate := none, reading := [], blockTicks := 0 }
  else if f.longSync then s.updLink l fun r => { r.startBlock f with candidate := none }
  else s.updLink l fun r => r.readFrame f

/-- A measurement closes with `t` reference ticks over 64 frames (R13): a match enters ALIGN with the alignment timer at
100 ms; otherwise UNRECOGNISED, and the next measurement starts at the closing edge. -/
def closeMeasurement (s : State) (l : LinkId) (t : Nat) (allWellFormed : Bool) : State :=
  match matchRate t, allWellFormed with
  | some rate, true =>
    announceState (s.updLink l fun r =>
      { r with state := .alignSeek, rate := some rate, measurement := none, stateTimer := some (newTimer s.ms 100),
               candidate := none, reading := [], blockTicks := 0 }) l
  | _, _ => s.updLink l fun r =>
      { r with state := .measureUnrecognised, rate := none, measurement := some { edges := 0, ticks := 0, allWellFormed := true } }

/-- An FS rising edge in MEASURE (R13). -/
def measureFrame (s : State) (l : LinkId) (f : LinkFrame) : State :=
  match (s.links.get l).measurement with
  | none => s.updLink l fun r => { r with measurement := some { edges := 0, ticks := 0, allWellFormed := true } }
  | some m =>
    let m := { edges := m.edges + 1, ticks := m.ticks + f.ticks, allWellFormed := m.allWellFormed && f.wellFormed }
    if 64 ≤ m.edges then closeMeasurement s l m.ticks m.allWellFormed
    else s.updLink l fun r => { r with measurement := some m }

/-- An FS rising edge in DETECT (R12). -/
def detectFrame (s : State) (l : LinkId) : State :=
  let n := (s.links.get l).detectCount + 1
  if (s.links.get l).state = .detectQuiet then s.updLink l fun r => { r with state := .detectActive, detectCount := 1 }
  else if 16 ≤ n then enterMeasure s l
  else s.updLink l fun r => { r with detectCount := n }

/-- The loss window starts from an FS rising edge with the present setting (R17, R21). -/
def restartLoss (s : State) (l : LinkId) : State :=
  s.updLink l fun r => { r with lossTimer := some (newTimer s.ms r.lossWindow) }

/-- A link frame ends at an FS rising edge, and the link acts on it by its state (R1, R11 to R17). -/
def linkFrame (s : State) (l : LinkId) (f : LinkFrame) : State :=
  match (s.links.get l).state with
  | .disabled => s
  | .detectQuiet | .detectActive => detectFrame (restartLoss s l) l
  | .measureCounting | .measureUnrecognised => measureFrame (restartLoss s l) l f
  | .alignSeek | .alignRead => alignFrame (restartLoss s l) l f
  | .locked => lockedFrame (restartLoss s l) l f
  | .recoverSeek | .recoverRead => recoverFrame (restartLoss s l) l f

/-- The loss window expires with no FS edge: DETECT.QUIET with everything received given up. An FS edge taken first has restarted
the window, and the expiry does not happen (R12, R17). -/
def lossOfSignal (s : State) (l : LinkId) : State :=
  if timeUp (s.links.get l).lossTimer s.ms = true then
    announceState (s.updLink l fun r => { r.giveUp .detectQuiet with lossTimer := none }) l
  else s

end Sys2Proof.Machine
end

