-- ==== Sys2Proof/Machine/LinkCommands.lean ====
section
/-! DEFINITION. The meanings of the link requests and link events, of the source table and of GET_ACTIVITY and
GET_DECODE_STATUS (R1 to R37, R56). -/

namespace Sys2Proof.Machine

/-! ## Link requests -/

/-- ENABLE_LINK as the receiver takes it (R11). -/
def enableLink (s : State) (l : LinkId) : State :=
  if (s.links.get l).state = .disabled then
    announceState (s.updLink l fun r => { r with enabled := true, state := .detectQuiet }) l
  else s.updLink l fun r => { r with enabled := true }

/-- DISABLE_LINK as the receiver takes it (R11). -/
def disableLink (s : State) (l : LinkId) : State :=
  if (s.links.get l).state = .disabled then s.updLink l fun r => { r with enabled := false }
  else announceState (s.updLink l fun r => { r.giveUp .disabled with enabled := false, lossTimer := none }) l

/-- SET_LINK_OPTIONS (R21). -/
def reqSetLinkOptions (payload : List Byte) (s : State) : Reply :=
  match payload with
  | [lb, wb] => match indexOf 9 lb with
    | some l =>
      let w := clampNat 1 32 wb.toNat
      (s.updLink l fun r => { r with lossWindow := w }).okOrLimited (w != wb.toNat) (u8 w)
    | none => s.reply .range
  | _ => s.reply .length

/-- CLEAR_COUNTERS as the receiver takes it (R20). -/
def clearTotals (c : LinkCounters) : LinkCounters :=
  { code := c.code.clearTotal, descriptor := c.descriptor.clearTotal, sequence := c.sequence.clearTotal,
    bsf := c.bsf.clearTotal }

/-- ENABLE_LINK (R11). -/
def execEnableLink (p : Port) (tag : Byte) (payload : List Byte) (s : State) : Host.Outcome State Fault Refusal :=
  .next (serve s p tag payload fun s => oneIndex 9 payload s fun s l => (enableLink s l).ok [])

/-- DISABLE_LINK (R11). -/
def execDisableLink (p : Port) (tag : Byte) (payload : List Byte) (s : State) : Host.Outcome State Fault Refusal :=
  .next (serve s p tag payload fun s => oneIndex 9 payload s fun s l => (disableLink s l).ok [])

/-- SET_LINK_OPTIONS (R21). -/
def execSetLinkOptions (p : Port) (tag : Byte) (payload : List Byte) (s : State) : Host.Outcome State Fault Refusal :=
  .next (serve s p tag payload (reqSetLinkOptions payload))

/-- GET_LINK_STATUS (R22). -/
def execGetLinkStatus (p : Port) (tag : Byte) (payload : List Byte) (s : State) : Host.Outcome State Fault Refusal :=
  .next (serve s p tag payload fun s => oneIndex 9 payload s fun s l => s.ok (linkRecord (s.links.get l) (servingUnit s l)))

/-- GET_LINK_COUNTERS (R20). -/
def execGetLinkCounters (p : Port) (tag : Byte) (payload : List Byte) (s : State) : Host.Outcome State Fault Refusal :=
  .next (serve s p tag payload fun s => oneIndex 9 payload s fun s l => s.ok (counterRecord (s.links.get l).counters))

/-- CLEAR_COUNTERS (R20). -/
def execClearCounters (p : Port) (tag : Byte) (payload : List Byte) (s : State) : Host.Outcome State Fault Refusal :=
  .next (serve s p tag payload fun s => oneIndex 9 payload s fun s l =>
    (s.updLink l fun r => { r with counters := clearTotals r.counters }).ok [])

/-! ## Source table, activity, decode status -/

/-- A source entry is written and the edit announced to each zone (R26, R27). -/
def writeSource (s : State) (i : SrcId) (e : SourceEntry) : State :=
  (s.putSource i e).forEach zoneIds (zoneOnEdit i)

/-- SET_SOURCE (R26, R27). -/
def reqSetSource (payload : List Byte) (s : State) : Reply :=
  match payload with
  | [eb, ib, tb, l2, l1, l0, ab, mb, label] =>
    match indexOf 16 eb, orNone 9 ib, yesNo ab, enumOf surroundModes mb with
    | some i, some input, some auto, some mode =>
      let trim := clampInt (-24) 24 (signed8 tb)
      let lip := clampNat 0 250000 (unsigned24 l2 l1 l0)
      let e : SourceEntry := { input := input, trim := trim, lipSync := lip, autoOn := auto, mode := mode, label := label }
      (writeSource s i e).okOrLimited (trim != signed8 tb || lip != unsigned24 l2 l1 l0) (sourceRecord e)
    | _, _, _, _ => s.reply .range
  | _ => s.reply .length

/-- SET_SOURCE (R26). -/
def execSetSource (p : Port) (tag : Byte) (payload : List Byte) (s : State) : Host.Outcome State Fault Refusal :=
  .next (serve s p tag payload (reqSetSource payload))

/-- GET_SOURCE (R28). -/
def execGetSource (p : Port) (tag : Byte) (payload : List Byte) (s : State) : Host.Outcome State Fault Refusal :=
  .next (serve s p tag payload fun s => oneIndex 16 payload s fun s i => s.ok (sourceRecord (s.sources.get i)))

/-- GET_ACTIVITY (R36). -/
def execGetActivity (p : Port) (tag : Byte) (payload : List Byte) (s : State) : Host.Outcome State Fault Refusal :=
  .next (serve s p tag payload fun s => oneIndex 9 payload s fun s l => s.ok (activityRecord (s.monitors.get l) s.ms))

/-- GET_DECODE_STATUS (R56). -/
def execGetDecodeStatus (p : Port) (tag : Byte) (payload : List Byte) (s : State) : Host.Outcome State Fault Refusal :=
  .next (serve s p tag payload fun s => noPayload payload s fun s => s.ok (decodeRecord s))

/-! ## Link events -/

/-- The DETECT edge count reaches 16 (R12, log 5). -/
def detectReached (s : State) (l : LinkId) : State :=
  if (s.links.get l).state = .detectActive then enterMeasure (restartLoss s l) l else s

/-- A measurement reaches its 64th edge (R13, log 5). -/
def measurementEnds (s : State) (l : LinkId) (ticks : Nat) (allWellFormed : Bool) : State :=
  if (s.links.get l).state.isMeasure then closeMeasurement (restartLoss s l) l ticks allWellFormed else s

/-- The receiver reads a block whose last frame is still to come (R6). -/
def blockEnding (r : Link) : Bool :=
  (r.state == .locked || r.state == .alignRead || r.state == .recoverRead) && decide (r.reading.length = 63)

/-- The last frame of a block (R6, log 6). -/
def endBlock (s : State) (l : LinkId) (f : LinkFrame) : State :=
  if blockEnding (s.links.get l) then linkFrame s l f else s

/-- The last frame of a block whose descriptor is the third in error in a row (R15, log 6). -/
def endErrorRun (s : State) (l : LinkId) (f : LinkFrame) : State :=
  if (s.links.get l).state = .locked ∧ blockEnding (s.links.get l) = true ∧ 2 ≤ (s.links.get l).errorRun then
    let s' := linkFrame s l f
    if (s'.links.get l).state = .recoverSeek then s' else s
  else s

/-- The alignment timer expires in ALIGN (R14). -/
def alignmentExpiry (s : State) (l : LinkId) : State :=
  if (s.links.get l).state.isAlign ∧ timeUp (s.links.get l).stateTimer s.ms = true then enterMeasure s l else s

/-- The recovery timer expires in RECOVER (R16). -/
def recoveryExpiry (s : State) (l : LinkId) : State :=
  if (s.links.get l).state.isRecover ∧ timeUp (s.links.get l).stateTimer s.ms = true then enterMeasure s l else s

/-- The eighth loud block moves the monitor to ACTIVE (R32, log 5). -/
def monitorReached (s : State) (l : LinkId) : State :=
  if (s.monitors.get l).state = .silent then setMonitor s l ((s.monitors.get l).toActive s.ms) else s

/-- LINK_FRAME (R1). -/
def execLinkFrame (l : LinkId) (f : LinkFrame) (s : State) : Host.Outcome State Fault Refusal := .next (linkFrame s l f)

/-- DETECT_COUNT_REACHED (R12). -/
def execDetectCountReached (l : LinkId) (s : State) : Host.Outcome State Fault Refusal := .next (detectReached s l)

/-- RATE_MEASUREMENT (R13). -/
def execRateMeasurement (l : LinkId) (ticks : Nat) (allWellFormed : Bool) (s : State) : Host.Outcome State Fault Refusal :=
  .next (measurementEnds s l ticks allWellFormed)

/-- BLOCK_END (R6). -/
def execBlockEnd (l : LinkId) (f : LinkFrame) (s : State) : Host.Outcome State Fault Refusal := .next (endBlock s l f)

/-- DESCRIPTOR_ERROR_RUN (R15). -/
def execDescriptorErrorRun (l : LinkId) (f : LinkFrame) (s : State) : Host.Outcome State Fault Refusal :=
  .next (endErrorRun s l f)

/-- ALIGNMENT_TIMER_EXPIRY (R14). -/
def execAlignmentTimerExpiry (l : LinkId) (s : State) : Host.Outcome State Fault Refusal := .next (alignmentExpiry s l)

/-- RECOVERY_TIMER_EXPIRY (R16). -/
def execRecoveryTimerExpiry (l : LinkId) (s : State) : Host.Outcome State Fault Refusal := .next (recoveryExpiry s l)

/-- LOSS_OF_SIGNAL (R17). -/
def execLossOfSignal (l : LinkId) (s : State) : Host.Outcome State Fault Refusal := .next (lossOfSignal s l)

/-- COUNTER_SNAPSHOT: the snapshot of the whole second that the millisecond timer stands at (R19, log 43). -/
def execCounterSnapshot (s : State) : Host.Outcome State Fault Refusal := .next (takeSnapshot s)

/-- MONITOR_ACTIVE (R32, R35). -/
def execMonitorActive (l : LinkId) (s : State) : Host.Outcome State Fault Refusal := .next (monitorReached s l)

/-- QUIET_TIMER_EXPIRY (R33). -/
def execQuietTimerExpiry (l : LinkId) (s : State) : Host.Outcome State Fault Refusal := .next (quietExpiry s l)

end Sys2Proof.Machine
end

