-- ==== Sys2Proof/Machine/OutputCommands.lean ====
section
/-! DEFINITION. The meanings of the speaker table, modulator, protection and test tone commands (R119 to R158). -/

namespace Sys2Proof.Machine

/-! ## Speaker table -/

/-- The entry that a SET_SPEAKER asks for, before clamping: its fields have passed step 2 of R120 one by one. -/
structure SpeakerRequest where
  zone : Option ZoneId
  position : Pos
  bridged : Bool
  trim : Int
  delay : Nat
  inverted : Bool

/-- The combinations that step 2 of R120 refuses. -/
def speakerOutOfRange (c : Chan) (q : SpeakerRequest) : Bool :=
  ((q.zone == some 1 || q.zone == some 2) && !(q.position == posFL || q.position == posFR)) ||
  (q.bridged && c.1 % 2 == 1) || (q.bridged && q.zone.isNone)

/-- A zone of the request or of the channel holds its speakers fixed: it is not in STANDBY (R120, step 3). -/
def zoneFixed (s : State) : Option ZoneId → Bool
  | none => false
  | some z => (s.zones.get z).power != .standby

/-- Step 4 of R120: the channel is held, the odd partner is used, or the partner serves another zone. -/
def speakerConflict (spk : Vector Speaker 12) (c : Chan) (q : SpeakerRequest) : Bool :=
  let other := (spk.get (partner c)).zone
  ((heldBy spk c).isSome && (spk.get c).zone.isNone && q.zone.isSome) || (q.bridged && other.isSome) ||
  (q.zone.isSome && other.isSome && other != q.zone)

/-- Step 5 of R120: another channel's entry of the zone stands at the position. -/
def speakerDuplicate (spk : Vector Speaker 12) (c : Chan) (q : SpeakerRequest) : Bool :=
  q.zone.isSome && chanIds.any fun k => k != c && (spk.get k).zone == q.zone && (spk.get k).position == q.position

/-- The entry as written (R120, step 6). -/
def SpeakerRequest.entry (q : SpeakerRequest) : Speaker :=
  { zone := q.zone, position := q.position, bridged := q.bridged, trim := clampInt (-24) 24 q.trim,
    delay := clampNat 0 30000 q.delay, inverted := q.inverted }

/-- The ZONE flag of a zone, or of none (R133). -/
def raiseZone (s : State) : Option ZoneId → State
  | none => s
  | some z => s.raise (.zone z)

/-- A pair that has changed zone is not driven, and its fault count is 0 while it has none or its zone stands in STANDBY
(R137). -/
def refreshPair (old : Vector Speaker 12) (s : State) (q : PairId) : State :=
  if pairZone old q = pairZone s.speakers q then s else s.updPair q fun p => { p with driven := false, faults := 0 }

/-- The entry is written: the ZONE flags of the zone before and the zone after are set (R133). -/
def writeSpeaker (s : State) (c : Chan) (e : Speaker) : State :=
  refreshPair s.speakers (raiseZone (raiseZone (s.putSpeaker c e) (s.speakers.get c).zone) e.zone) (pairOf c)

/-- SET_SPEAKER by the checks of R120 in order. -/
def setSpeaker (s : State) (c : Chan) (q : SpeakerRequest) : Reply :=
  if speakerOutOfRange c q then s.reply .range
  else if zoneFixed s (chanZone s.speakers c) || zoneFixed s q.zone then s.reply .refusedState
  else if speakerConflict s.speakers c q then s.reply .refusedState
  else if speakerDuplicate s.speakers c q then s.reply .duplicate
  else (writeSpeaker s c q.entry).okOrLimited (q.entry.trim != q.trim || q.entry.delay != q.delay) (speakerRecord q.entry)

/-- SET_SPEAKER as a request (R120). -/
def reqSetSpeaker (payload : List Byte) (s : State) : Reply :=
  match payload with
  | [cb, zb, pb, bb, tb, d2, d1, d0, ib] =>
    match indexOf 12 cb, enumOf speakerZones zb, indexOf 8 pb, yesNo bb, enumOf [false, true] ib with
    | some c, some zone, some pos, some bridged, some inverted =>
      setSpeaker s c { zone := zone, position := pos, bridged := bridged, trim := signed8 tb,
                       delay := unsigned24 d2 d1 d0, inverted := inverted }
    | _, _, _, _, _ => s.reply .range
  | _ => s.reply .length

/-- SET_SPEAKER (R120). -/
def execSetSpeaker (p : Port) (tag : Byte) (payload : List Byte) (s : State) : Host.Outcome State Fault Refusal :=
  .next (serve s p tag payload (reqSetSpeaker payload))

/-- GET_SPEAKER (R122). -/
def execGetSpeaker (p : Port) (tag : Byte) (payload : List Byte) (s : State) : Host.Outcome State Fault Refusal :=
  .next (serve s p tag payload fun s => oneIndex 12 payload s fun s c =>
    s.ok (speakerRecord (s.speakers.get c) ++ roleRecord (roleOf s.speakers c)))

/-! ## Modulators -/

/-- SET_MODULATOR as a request (R123, R133). That W is carried and answered as the number 7, 8 or 9, as m is carried, and not as
a code of its own is the model's choice (log 16). -/
def reqSetModulator (payload : List Byte) (s : State) : Reply :=
  match payload with
  | [zb, wb, mb] =>
    match indexOf 3 zb, decide (wb.toNat = 7 ∨ wb.toNat = 8 ∨ wb.toNat = 9) with
    | some z, true =>
      if (s.zones.get z).power = .standby then
        let m := clampNat 0 15 mb.toNat
        ((s.updZone z fun r => { r with resolution := wb.toNat, minPulse := m }).raise (.zone z)).okOrLimited
          (m != mb.toNat) (u8 wb.toNat ++ u8 m)
      else s.reply .refusedState
    | _, _ => s.reply .range
  | _ => s.reply .length

/-- SET_MODULATOR (R123). -/
def execSetModulator (p : Port) (tag : Byte) (payload : List Byte) (s : State) : Host.Outcome State Fault Refusal :=
  .next (serve s p tag payload (reqSetModulator payload))

/-- GET_MODULATOR (R132), with W as its number (log 16). -/
def execGetModulator (p : Port) (tag : Byte) (payload : List Byte) (s : State) : Host.Outcome State Fault Refusal :=
  .next (serve s p tag payload fun s => oneIndex 3 payload s fun s z =>
    s.ok (u8 (s.zones.get z).resolution ++ u8 (s.zones.get z).minPulse))

/-- GET_OUTPUT_STATUS (R132). -/
def execGetOutputStatus (p : Port) (tag : Byte) (payload : List Byte) (s : State) : Host.Outcome State Fault Refusal :=
  .next (serve s p tag payload fun s => noPayload payload s fun s => s.ok (outputRecord s))

/-- CARRIER_PERIOD_BOUNDARY (R127, R129, R137). -/
def execCarrierPeriodBoundary (z : ZoneId) (flt : Vector Bool 6) (s : State) : Host.Outcome State Fault Refusal :=
  .next (carrierBoundary s z flt)

/-! ## Protection -/

/-- SET_PROTECTION as a request (R145, R147). -/
def reqSetProtection (payload : List Byte) (s : State) : Reply :=
  match payload with
  | [qb, hi, lo, rb] => match indexOf 6 qb with
    | some q =>
      let t := clampNat 10 500 (unsigned16 hi lo)
      let n := clampNat 1 15 rb.toNat
      ((s.updPair q fun p => { p with dcTime := t, retryLimit := n }).raise (.pair q)).okOrLimited
        (t != unsigned16 hi lo || n != rb.toNat) (u16 t ++ u8 n)
    | none => s.reply .range
  | _ => s.reply .length

/-- CLEAR_PROTECTION as the monitor takes it (R143). -/
def clearProtection (s : State) (q : PairId) : State :=
  if (s.pairs.get q).state = .latched then probePair s q else s

/-- A driven period ends with FLT asserted and brings the count to 4 (R137, log 5). -/
def faultCountTrip (s : State) (q : PairId) : State := if faultCounted s q then faultTrip s q else s

/-- A DC timer expires in RUN: STANDING, and a DC trip is offered. A qualifying sample of the other sign taken first has restarted
the timer, and the expiry does not happen (R138). -/
def dcExpiry (s : State) (c : Chan) : State :=
  match (s.channels.get c).watch with
  | .run sign t =>
    if timeUp (some t) s.ms = true then offerTrip (s.updChannel c fun x => { x with watch := .standing sign }) (pairOf c) (.dc c)
    else s
  | _ => s

/-- The retry timer expires in TRIPPED (R141). -/
def retryExpiry (s : State) (q : PairId) : State :=
  if (s.pairs.get q).state = .tripped ∧ timeUp (s.pairs.get q).retryTimer s.ms = true then probePair s q else s

/-- The probe window expires in PROBE: the probe has passed. The fault count goes on as it stands, as R142 says, where R137
has it start at 0 on each entry to NORMAL (log 26). -/
def probeExpiry (s : State) (q : PairId) : State :=
  if (s.pairs.get q).state = .probe ∧ timeUp (s.pairs.get q).probeWindow s.ms = true then
    s.updPair q fun p => { p with state := .normal, retries := 0, probeWindow := none }
  else s

/-- The FLT levels as they stand are seen (R146, log 8). -/
def seeFlt (s : State) (flt : Vector Bool 6) : State :=
  s.forEach pairIds fun s q => s.updPair q fun p => { p with flt := flt.get q }

/-- SET_PROTECTION (R145). -/
def execSetProtection (p : Port) (tag : Byte) (payload : List Byte) (s : State) : Host.Outcome State Fault Refusal :=
  .next (serve s p tag payload (reqSetProtection payload))

/-- GET_PROTECTION (R145). -/
def execGetProtection (p : Port) (tag : Byte) (payload : List Byte) (s : State) : Host.Outcome State Fault Refusal :=
  .next (serve s p tag payload fun s => oneIndex 6 payload s fun s q =>
    s.ok (u16 (s.pairs.get q).dcTime ++ u8 (s.pairs.get q).retryLimit))

/-- CLEAR_PROTECTION (R143). -/
def execClearProtection (p : Port) (tag : Byte) (payload : List Byte) (s : State) : Host.Outcome State Fault Refusal :=
  .next (serve s p tag payload fun s => oneIndex 6 payload s fun s q => (clearProtection s q).ok [])

/-- GET_PROTECTION_STATUS (R146). -/
def execGetProtectionStatus (p : Port) (tag : Byte) (payload : List Byte) (flt : Vector Bool 6) (s : State) :
    Host.Outcome State Fault Refusal :=
  .next (serve s p tag payload fun s => noPayload payload s fun s =>
    let s := seeFlt s flt
    s.ok (pairIds.flatMap (pairRecord s)))

/-- FAULT_COUNT_TRIP (R137, R140). -/
def execFaultCountTrip (q : PairId) (s : State) : Host.Outcome State Fault Refusal := .next (faultCountTrip s q)

/-- DC_TIMER_EXPIRY (R138, R140). -/
def execDcTimerExpiry (c : Chan) (s : State) : Host.Outcome State Fault Refusal := .next (dcExpiry s c)

/-- RETRY_TIMER_EXPIRY (R141). -/
def execRetryTimerExpiry (q : PairId) (s : State) : Host.Outcome State Fault Refusal := .next (retryExpiry s q)

/-- PROBE_WINDOW_EXPIRY (R142). -/
def execProbeWindowExpiry (q : PairId) (s : State) : Host.Outcome State Fault Refusal := .next (probeExpiry s q)

/-! ## Test tones -/

/-- The dwell applied: in AUTO taken into 1 to 10 s, in MANUAL as carried (R150). -/
def appliedDwell (m : StepMode) (n : Nat) : Nat :=
  match m with
  | .auto => clampNat 1 10 n
  | .manual => n

/-- The sequencer starts on the zone's first speaker in stepping order, and the zone sets TONE (R150). The ZONE flag is set at
each start (R157). -/
def startTone (s : State) (z : ZoneId) (pattern : Pattern) (m : StepMode) (dwell : Nat) (o : Origin) : State :=
  ((s.updZone z fun r =>
    let t : Tone := { running := true, pattern := pattern, stepMode := m, dwell := dwell,
                      speaker := (toneOrder s.speakers z).head?, dwellTimer := none, noise := 1, pulse := 0 }
    { r with tone := { t with dwellTimer := toneTimer s.ms t }, mutes := { r.mutes with tone := true } }).zoneOrigin z o).raise (.zone z)

/-- TONE_START as a request (R150). -/
def reqToneStart (o : Origin) (payload : List Byte) (s : State) : Reply :=
  match payload with
  | [zb, pb, mb, db] => match indexOf 3 zb, enumOf patterns pb, enumOf stepModes mb with
    | some z, some pattern, some m =>
      if (s.zones.get z).power ≠ .on ∨ (zoneChannels s.speakers z).isEmpty = true then s.reply .refusedState
      else
        let dwell := appliedDwell m db.toNat
        (startTone s z pattern m dwell o).okOrLimited (dwell != db.toNat)
          (enumByte patterns pattern ++ enumByte stepModes m ++ u8 dwell)
    | _, _, _ => s.reply .range
  | _ => s.reply .length

/-- TONE_NEXT as a request (R154). -/
def reqToneNext (o : Origin) (payload : List Byte) (s : State) : Reply :=
  oneIndex 3 payload s fun s z =>
    if (s.zones.get z).tone.running then ((toneStep s z).zoneOrigin z o).ok [] else s.reply .refusedState

/-- TONE_STOP as a request (R155, log 40). -/
def reqToneStop (o : Origin) (payload : List Byte) (s : State) : Reply :=
  oneIndex 3 payload s fun s z =>
    if (s.zones.get z).tone.running then ((endTone s z).zoneOrigin z o).ok [] else s.ok []

/-- The dwell timer of a running sequencer expires. A timer that a step taken first has restarted has time left, and its
expiry does not happen (R154). -/
def dwellExpiry (s : State) (z : ZoneId) : State :=
  if (s.zones.get z).tone.running = true ∧ timeUp (s.zones.get z).tone.dwellTimer s.ms = true then toneStep s z else s

/-- TONE_START (R150). -/
def execToneStart (p : Port) (tag : Byte) (payload : List Byte) (s : State) : Host.Outcome State Fault Refusal :=
  .next (serve s p tag payload (reqToneStart (portOrigin p) payload))

/-- TONE_NEXT (R154). -/
def execToneNext (p : Port) (tag : Byte) (payload : List Byte) (s : State) : Host.Outcome State Fault Refusal :=
  .next (serve s p tag payload (reqToneNext (portOrigin p) payload))

/-- TONE_STOP (R155). -/
def execToneStop (p : Port) (tag : Byte) (payload : List Byte) (s : State) : Host.Outcome State Fault Refusal :=
  .next (serve s p tag payload (reqToneStop (portOrigin p) payload))

/-- DWELL_TIMER_EXPIRY (R154). -/
def execDwellTimerExpiry (z : ZoneId) (s : State) : Host.Outcome State Fault Refusal := .next (dwellExpiry s z)

end Sys2Proof.Machine
end

