-- ==== Sys2Proof/Machine/PortCommands.lean ====
section
/-! DEFINITION. The meanings of the port commands (R192 to R204). -/

namespace Sys2Proof.Machine

/-- READ_EVENTS (R200): the whole flag copy of the port is reported and cleared. -/
def reqReadEvents (p : Port) (payload : List Byte) (s : State) : Reply :=
  noPayload payload s fun s =>
    (s.updPort p fun r => { r with flags := Vector.replicate 26 false }).ok (eventReport (s.ports.get p).flags)

/-- SET_EVENT_MASK (R201): the port's whole mask set is replaced. -/
def reqSetEventMask (p : Port) (payload : List Byte) (s : State) : Reply :=
  if payload.length = 7 then
    let m := masksOfBytes payload
    (s.updPort p fun r => { r with masks := m }).ok (flagBytes m)
  else s.reply .length

/-- GET_EVENT_MASK (R201). -/
def reqGetEventMask (p : Port) (payload : List Byte) (s : State) : Reply :=
  noPayload payload s fun s => s.ok (flagBytes (s.ports.get p).masks)

/-- DEVICE_RESET (R204). -/
def reqDeviceReset (payload : List Byte) (s : State) : Reply := noPayload payload s fun s => (softReset s).ok []

/-- POLL (R192, R193, R195). -/
def execPoll (p : Port) (s : State) : Host.Outcome State Fault Refusal := .next (pollPort s p)

/-- FETCH (R197). -/
def execFetch (p : Port) (n : Nat) (s : State) : Host.Outcome State Fault Refusal := .next (fetchPort s p n)

/-- READ_EVENTS (R194, R200). -/
def execReadEvents (p : Port) (tag : Byte) (payload : List Byte) (s : State) : Host.Outcome State Fault Refusal :=
  .next (serve s p tag payload (reqReadEvents p payload))

/-- SET_EVENT_MASK (R194, R201). -/
def execSetEventMask (p : Port) (tag : Byte) (payload : List Byte) (s : State) : Host.Outcome State Fault Refusal :=
  .next (serve s p tag payload (reqSetEventMask p payload))

/-- GET_EVENT_MASK (R194, R201). -/
def execGetEventMask (p : Port) (tag : Byte) (payload : List Byte) (s : State) : Host.Outcome State Fault Refusal :=
  .next (serve s p tag payload (reqGetEventMask p payload))

/-- DEVICE_RESET (R194, R204). -/
def execDeviceReset (p : Port) (tag : Byte) (payload : List Byte) (s : State) : Host.Outcome State Fault Refusal :=
  .next (serve s p tag payload (reqDeviceReset payload))

/-- A well-formed request with a code outside the command table is answered UNKNOWN (R194, step 3). A code that the table
lists is no such request, and nothing happens (log 32). -/
def execUnknownCommand (p : Port) (code tag : Byte) (payload : List Byte) (s : State) : Host.Outcome State Fault Refusal :=
  .next (if codeListed code then s else serve s p tag payload fun s => s.reply .unknown)

/-- A transaction that ends malformed (R195). -/
def execMalformedTransaction (p : Port) (mosi : List Byte) (bits : Nat) (s : State) : Host.Outcome State Fault Refusal :=
  .next (malformedPort s p mosi bits)

/-- A power-on reset (R203). -/
def execPowerOnReset (pins : Pins) (s : State) : Host.Outcome State Fault Refusal := .next (powerOnReset s pins)

/-- Chip select falls (R193). -/
def execChipSelectFallingEdge (p : Port) (s : State) : Host.Outcome State Fault Refusal := .next (selectPort s p)

end Sys2Proof.Machine
end

