-- ==== Sys2Proof/Machine/TunerCommands.lean ====
section
/-! DEFINITION. The meanings of the tuner requests and tuner events (R159 to R183). -/

namespace Sys2Proof.Machine

/-! ## Band table and calibration -/

/-- The settable fields of a band's record are replaced (R160). -/
def Tuner.withRecord (t : Tuner) (b : Band) (r : BandRecord) : Tuner :=
  match b with
  | .fm => { t with fm := r }
  | .am => { t with am := r }

/-- A band's calibration table is replaced (R161). -/
def Tuner.withCal (t : Tuner) (b : Band) (points : List CalPoint) : Tuner :=
  match b with
  | .fm => { t with fmCal := points }
  | .am => { t with amCal := points }

/-- The steps a band may have, in kHz (R159). -/
def stepAllowed (b : Band) (step : Nat) : Bool :=
  match b with
  | .fm => step == 100 || step == 50
  | .am => step == 9 || step == 10

/-- The stereo-only setting: on or off for FM; not examined for AM, where it reads off (R159, R160). -/
def stereoOperand (b : Band) (x : Byte) : Option Bool :=
  match b with
  | .fm => yesNo x
  | .am => some false

/-- SET_BAND as a request (R160). -/
def reqSetBand (o : Origin) (payload : List Byte) (s : State) : Reply :=
  match payload with
  | [bb, sb, tb, xb] => match enumOf bands bb with
    | none => s.reply .range
    | some b => match stepAllowed b sb.toNat, stereoOperand b xb with
      | true, some stereo =>
        if s.tuner.inFlight then s.reply .refusedState
        else
          let r : BandRecord := { step := sb.toNat, threshold := tb, stereoOnly := stereo }
          (setTuner s { s.tuner.withRecord b r with lastChanged := o }).ok (bandRecord b r)
      | _, _ => s.reply .range
  | _ => s.reply .length

/-- Points of five bytes each (section 12.6). -/
def readPoints : List Byte → List CalPoint
  | f2 :: f1 :: f0 :: d1 :: d0 :: rest => { frequency := unsigned24 f2 f1 f0, dac := unsigned16 d1 d0 } :: readPoints rest
  | _ => []

/-- The table is written; when it is the current band's and the tuner is OFF, the tuner enters UNLOCKED at the coarse value of
its target (R161). -/
def loadCalibration (t : Tuner) (b : Band) (points : List CalPoint) (o : Origin) : Tuner :=
  let t : Tuner := { t.withCal b points with lastChanged := o }
  if b = t.band ∧ t.state = .off then { t.writeCoarse with state := .unlocked } else t

/-- LOAD_CALIBRATION as a request (R161). -/
def reqLoadCalibration (o : Origin) (payload : List Byte) (s : State) : Reply :=
  match payload with
  | bb :: nb :: rest =>
    if rest.length = 5 * nb.toNat then
      match enumOf bands bb, decide (2 ≤ nb.toNat ∧ nb.toNat ≤ 16 ∧ increasing (readPoints rest) = true) with
      | some b, true =>
        if s.tuner.inFlight then s.reply .refusedState
        else (setTuner s (loadCalibration s.tuner b (readPoints rest) o)).ok (u8 nb.toNat ++ rest)
      | _, _ => s.reply .range
    else s.reply .length
  | _ => s.reply .length

/-- GET_CALIBRATION as a request (R181). -/
def reqGetCalibration (payload : List Byte) (s : State) : Reply :=
  match payload with
  | [bb] => match enumOf bands bb with
    | some b => s.ok ((s.tuner.cal b).flatMap pointRecord)
    | none => s.reply .range
  | _ => s.reply .length

/-! ## Tuning requests -/

/-- A TUNE or RECALL of a frequency of a band, from step 3 of R164 on. -/
def tuneRequest (s : State) (b : Band) (f : Nat) (op : TunerOp) (o : Origin) : Reply :=
  if (s.tuner.cal b).isEmpty then s.reply .refusedState
  else
    let applied := appliedFrequency b (s.tuner.record b).step f
    { state := setTuner s (s.tuner.tuneTo b applied op o)
      result := if applied = f then .accepted else .limited
      data := u24 applied }

/-- TUNE as a request (R164). -/
def reqTune (o : Origin) (payload : List Byte) (s : State) : Reply :=
  match payload with
  | [bb, f2, f1, f0] => match enumOf bands bb with
    | some b => tuneRequest s b (unsigned24 f2 f1 f0) .tune o
    | none => s.reply .range
  | _ => s.reply .length

/-- SEEK as a request (R172); up is 0 and down is 1. That a direction out of range in OFF is RANGE is the model's choice: R172
fixes no order of the two refusals (log 44). -/
def reqSeek (o : Origin) (payload : List Byte) (s : State) : Reply :=
  match payload with
  | [db] => match enumOf [true, false] db with
    | some up =>
      if s.tuner.state = .off then s.reply .refusedState
      else { state := setTuner s (s.tuner.beginSeek up o), result := .accepted, data := [] }
    | none => s.reply .range
  | _ => s.reply .length

/-- SCAN as a request (R173). -/
def reqScan (o : Origin) (payload : List Byte) (s : State) : Reply :=
  noPayload payload s fun s =>
    if s.tuner.state = .off then s.reply .refusedState
    else { state := setTuner s (s.tuner.beginScan o), result := .accepted, data := [] }

/-! ## Preset list -/

/-- The list is replaced by a taken request: the origin is recorded and PRESETS set (R178 to R180, R182). -/
def putPresets (s : State) (ps : List Preset) (o : Origin) : State :=
  (s.putTuner { s.tuner with presets := ps, lastChanged := o }).raise .presets

/-- The index of another entry with the same band and frequency (R178, step 4). -/
def otherIndex (ps : List Preset) (i : Nat) (b : Band) (f : Nat) : Option Nat :=
  (List.range ps.length).find? fun j =>
    decide (j ≠ i) && ((ps[j]?).map fun p => decide (p.band = b ∧ p.frequency = f)).getD false

/-- STORE_PRESET as a request (R178). -/
def reqStorePreset (o : Origin) (payload : List Byte) (s : State) : Reply :=
  match payload with
  | [ib] =>
    let t := s.tuner
    let i := ib.toNat
    if t.presets.length < i ∨ (i = t.presets.length ∧ i = 40) then s.reply .range
    else if t.state ≠ .locked then s.reply .notLocked
    else match otherIndex t.presets i t.band t.target with
      | some j => { state := s, result := .duplicate, data := u8 j }
      | none =>
        let e : Preset := { band := t.band, frequency := t.target, level := t.level }
        (putPresets s (if i = t.presets.length then t.presets ++ [e] else t.presets.set i e) o).ok (presetRecord e)
  | _ => s.reply .length

/-- RECALL_PRESET as a request (R179). -/
def reqRecallPreset (o : Origin) (payload : List Byte) (s : State) : Reply :=
  match payload with
  | [ib] => match s.tuner.presets[ib.toNat]? with
    | some e => tuneRequest s e.band e.frequency .recall o
    | none => s.reply .range
  | _ => s.reply .length

/-- ERASE_PRESET as a request (R179). -/
def reqErasePreset (o : Origin) (payload : List Byte) (s : State) : Reply :=
  match payload with
  | [ib] =>
    if ib.toNat < s.tuner.presets.length then (putPresets s (s.tuner.presets.eraseIdx ib.toNat) o).ok []
    else s.reply .range
  | _ => s.reply .length

/-- Entries of five bytes each, none when a band code is out of range (section 12.6, R180). -/
def readPresets : List Byte → Option (List Preset)
  | bb :: f2 :: f1 :: f0 :: level :: rest =>
    match enumOf bands bb, readPresets rest with
    | some b, some ps => some ({ band := b, frequency := unsigned24 f2 f1 f0, level := level.toNat } :: ps)
    | _, _ => none
  | _ => some []

/-- The entry's frequency lies within its band's present edges (R180). -/
def withinEdges (t : Tuner) (p : Preset) : Bool :=
  decide (lowEdge p.band (t.record p.band).step ≤ p.frequency ∧ p.frequency ≤ highEdge p.band (t.record p.band).step)

/-- No two entries have the same band and frequency (R178). -/
def distinctStations : List Preset → Bool
  | [] => true
  | p :: ps => !holdsStation ps p.band p.frequency && distinctStations ps

/-- LOAD_PRESETS as a request (R180). That a list with both an entry out of range and two equal stations is RANGE is the model's
choice: R180 fixes no order of the refusals (log 44). -/
def reqLoadPresets (o : Origin) (payload : List Byte) (s : State) : Reply :=
  match payload with
  | nb :: rest =>
    if rest.length = 5 * nb.toNat then
      match decide (nb.toNat ≤ 40), readPresets rest with
      | true, some ps =>
        if ps.all (withinEdges s.tuner) then
          if distinctStations ps then (putPresets s ps o).ok (u8 nb.toNat ++ rest) else s.reply .duplicate
        else s.reply .range
      | _, _ => s.reply .range
    else s.reply .length
  | _ => s.reply .length

/-! ## The commands -/

/-- SET_BAND (R160). -/
def execSetBand (p : Port) (tag : Byte) (payload : List Byte) (s : State) : Host.Outcome State Fault Refusal :=
  .next (serve s p tag payload (reqSetBand (portOrigin p) payload))

/-- GET_BAND_TABLE (R181). -/
def execGetBandTable (p : Port) (tag : Byte) (payload : List Byte) (s : State) : Host.Outcome State Fault Refusal :=
  .next (serve s p tag payload fun s => noPayload payload s fun s =>
    s.ok (bandRecord .fm s.tuner.fm ++ bandRecord .am s.tuner.am ++ u8 s.tuner.fmCal.length ++ u8 s.tuner.amCal.length))

/-- LOAD_CALIBRATION (R161). -/
def execLoadCalibration (p : Port) (tag : Byte) (payload : List Byte) (s : State) : Host.Outcome State Fault Refusal :=
  .next (serve s p tag payload (reqLoadCalibration (portOrigin p) payload))

/-- GET_CALIBRATION (R181). -/
def execGetCalibration (p : Port) (tag : Byte) (payload : List Byte) (s : State) : Host.Outcome State Fault Refusal :=
  .next (serve s p tag payload (reqGetCalibration payload))

/-- TUNE (R164). -/
def execTune (p : Port) (tag : Byte) (payload : List Byte) (s : State) : Host.Outcome State Fault Refusal :=
  .next (serve s p tag payload (reqTune (portOrigin p) payload))

/-- SEEK (R172). -/
def execSeek (p : Port) (tag : Byte) (payload : List Byte) (s : State) : Host.Outcome State Fault Refusal :=
  .next (serve s p tag payload (reqSeek (portOrigin p) payload))

/-- SCAN (R173). -/
def execScan (p : Port) (tag : Byte) (payload : List Byte) (s : State) : Host.Outcome State Fault Refusal :=
  .next (serve s p tag payload (reqScan (portOrigin p) payload))

/-- GET_TUNER_STATUS (R181), with the PILOT level as it stands (R162, log 8). -/
def execGetTunerStatus (p : Port) (tag : Byte) (payload : List Byte) (pilot : Bool) (s : State) :
    Host.Outcome State Fault Refusal :=
  .next (serve s p tag payload fun s => noPayload payload s fun s =>
    let s := s.putTuner { s.tuner with pilot := pilot }
    s.ok (tunerRecord s.tuner))

/-- STORE_PRESET (R178). -/
def execStorePreset (p : Port) (tag : Byte) (payload : List Byte) (s : State) : Host.Outcome State Fault Refusal :=
  .next (serve s p tag payload (reqStorePreset (portOrigin p) payload))

/-- RECALL_PRESET (R179). -/
def execRecallPreset (p : Port) (tag : Byte) (payload : List Byte) (s : State) : Host.Outcome State Fault Refusal :=
  .next (serve s p tag payload (reqRecallPreset (portOrigin p) payload))

/-- ERASE_PRESET (R179). -/
def execErasePreset (p : Port) (tag : Byte) (payload : List Byte) (s : State) : Host.Outcome State Fault Refusal :=
  .next (serve s p tag payload (reqErasePreset (portOrigin p) payload))

/-- LOAD_PRESETS (R180). -/
def execLoadPresets (p : Port) (tag : Byte) (payload : List Byte) (s : State) : Host.Outcome State Fault Refusal :=
  .next (serve s p tag payload (reqLoadPresets (portOrigin p) payload))

/-- GET_PRESETS (R180). -/
def execGetPresets (p : Port) (tag : Byte) (payload : List Byte) (s : State) : Host.Outcome State Fault Refusal :=
  .next (serve s p tag payload fun s => noPayload payload s fun s =>
    s.ok (u8 s.tuner.presets.length ++ s.tuner.presets.flatMap presetRecord))

/-- DAC_TRANSFER (R163). -/
def execDacTransfer (s : State) : Host.Outcome State Fault Refusal := .next (transferDac s)

/-- SETTLE_TIME_EXPIRY (R166). -/
def execSettleTimeExpiry (s : State) : Host.Outcome State Fault Refusal := .next (settleExpiry s)

/-- GATE_COMPLETE (R166). -/
def execGateComplete (ticks : Nat) (s : State) : Host.Outcome State Fault Refusal :=
  .next (endGate s (some (measuredLO s.tuner.band ticks)))

/-- GATE_ABANDONED (R167). -/
def execGateAbandoned (s : State) : Host.Outcome State Fault Refusal := .next (abandonGate s)

/-- AFC_TIMER_EXPIRY (R170). -/
def execAfcTimerExpiry (s : State) : Host.Outcome State Fault Refusal := .next (afcExpiry s)

/-- LEVEL_READING (R169). -/
def execLevelReading (period : Nat) (pilot : Bool) (s : State) : Host.Outcome State Fault Refusal :=
  .next (levelRise s period pilot)

/-- LEVEL_TIMEOUT (R169). -/
def execLevelTimeout (pilot : Bool) (s : State) : Host.Outcome State Fault Refusal := .next (levelTimeout s pilot)

/-- The third reading of a station test completes at an LVL rising edge (R171, log 6). -/
def thirdReading (s : State) (period : Nat) (pilot : Bool) : State :=
  if s.tuner.phase = some .test ∧ s.tuner.readings.length = 2 ∧ (s.tuner.riseReading period).isSome = true then
    levelRise s period pilot
  else s

/-- STATION_TEST (R171). -/
def execStationTest (period : Nat) (pilot : Bool) (s : State) : Host.Outcome State Fault Refusal :=
  .next (thirdReading s period pilot)

/-- FREQ_RISING_EDGE (R166). -/
def execFreqRisingEdge (ticks : Nat) (s : State) : Host.Outcome State Fault Refusal := .next (freqEdge s ticks)

/-- LVL_FALLING_EDGE (R169). -/
def execLvlFallingEdge (high : Nat) (s : State) : Host.Outcome State Fault Refusal := .next (levelFall s high)

end Sys2Proof.Machine
end

