-- ==== Sys2Proof/Machine/Frame.lean ====
section
/-! DEFINITION. One output frame of a zone: the buffer read, the descriptor values that come into force, the take-over of a
shadow set, mix, gain, DC watch, delays and duty counts, tone and ramp frame count (R70, R75, R81, R96 to R105, R111, R125,
R151). -/

namespace Sys2Proof.Machine

/-- The source vector of a frame that carries nothing. -/
def zeroFrame : Vector Sample 8 := byPos fun _ => 0

/-- New descriptor values call for a new coefficient set: channel map, downmix preference or LFE-reduced flag (R70). -/
def buildNeeded (old : Option DescValues) (new : DescValues) : Bool :=
  match old with
  | none => true
  | some v => v.map != new.map || v.pref != new.pref || v.lfe != new.lfe

/-- Values read with a frame come into force, with a shadow set when they call for one (R70, R89). -/
def Zone.takeVals (spk : Vector Speaker 12) (z : ZoneId) (r : Zone) (v : DescValues) : Zone :=
  let r' := { r with vals := some v }
  if buildNeeded r.vals v then { r' with shadow := buildFor spk z r' } else r'

/-- What the zone reads for an output frame: the record after the read and the source vector (R67, R81, R97). -/
def Zone.readFrame (spk : Vector Speaker 12) (z : ZoneId) (r : Zone) : Zone × Vector Sample 8 :=
  if (r.path = .playing ∨ r.path = .fading) ∧ r.refilling = false then
    match r.buffer with
    | [] => ({ r with refilling := true, repeats := satAdd r.repeats 1 }, zeroFrame)
    | f :: rest =>
      let r := { r with buffer := rest }
      match f.vals with
      | some v => (r.takeVals spk z v, f.samples)
      | none => (r, f.samples)
  else (r, zeroFrame)

/-- A shadow set becomes the active set whole (R96). -/
def Zone.takeShadow (r : Zone) : Zone :=
  match r.shadow with
  | some cs => { r with active := some cs, shadow := none }
  | none => r

/-- A running sequencer shifts its noise register for the frame (R151). -/
def Zone.shiftTone (r : Zone) : Zone :=
  if r.tone.running then { r with tone := { r.tone with noise := noiseShift r.tone.noise } } else r

/-- A running sequencer's pulse count advances after the frame (R152). -/
def Zone.countTone (r : Zone) : Zone :=
  if r.tone.running then { r with tone := { r.tone with pulse := pulseNext r.tone.pulse r.rate } } else r

/-- The tone sample of the frame (R151, R152). -/
def Tone.sample (t : Tone) : Sample :=
  match t.pattern with
  | .noise => noiseSample t.noise
  | .pulse => pulseSample t.pulse

/-- The mix value of a row and whether it clipped: the mix stage's, or the tone's while a tone runs (R98, R104). -/
def rowMix (r : Zone) (source : Vector Sample 8) (row : CoefRow) : Sample × Bool :=
  if r.tone.running then (if r.tone.speaker = some row.channel then r.tone.sample else 0, false)
  else mixValue row.coefs source

/-- The mix value and gain output of a row with the clips they count (R98 to R104). -/
def rowOutput (spk : Vector Speaker 12) (r : Zone) (source : Vector Sample 8) (row : CoefRow) : Sample × Nat :=
  let y := rowMix r source row
  let g := gainOutput y.1 r.appliedGain ((r.copy.map (·.trim)).getD 0) (spk.get row.channel).trim r.night
    ((r.vals.map (·.drc)).getD 0)
  (g.1, (if y.2 then 1 else 0) + (if g.2 then 1 else 0))

/-- A gain output goes to the DC watch and, through the lip-sync section and the speaker line, to the duty converter, whose
count waits for the next output frame (R105, R111, R125, R127). -/
def feedChannel (now : Millis) (dcTime w m : Nat) (x : Sample) (c : Channel) : Channel :=
  let a := delayStep c.lipSection x
  let b := delayStep c.line a.1
  { c with watch := watchSample now dcTime c.watch x, lipSection := a.2, line := b.2, next := dutyCount w m b.1 }

/-- One speaker row of an output frame. -/
def frameRow (z : ZoneId) (source : Vector Sample 8) (s : State) (row : CoefRow) : State :=
  let r := s.zones.get z
  let out := rowOutput s.speakers r source row
  let s := s.updZone z fun r => { r with clips := satAdd r.clips out.2 }
  s.updChannel row.channel
    (feedChannel s.ms (s.pairs.get (pairOf row.channel)).dcTime r.resolution r.minPulse out.1)

/-- The samples of an output frame of a bound zone (R97 to R105). -/
def formFrame (s : State) (z : ZoneId) : State :=
  let read := (s.zones.get z).readFrame s.speakers z
  let s := s.updZone z fun _ => read.1.takeShadow.shiftTone
  (s.forEach (activeRows s.speakers z (s.zones.get z).active) (frameRow z read.2)).updZone z Zone.countTone

/-- The ramp frame count of a zone counts the frame; at the ramp interval the ramp takes its step (R75, log 24). -/
def countRampFrame (s : State) (z : ZoneId) : State :=
  let r := s.zones.get z
  if r.power = .standby then s
  else if r.rampInterval ≤ r.rampCount + 1 then rampStep s z
  else s.updZone z fun r => { r with rampCount := r.rampCount + 1 }

/-- One output frame of a zone: its samples while it is bound, then its ramp frame count. -/
def outputFrame (s : State) (z : ZoneId) : State :=
  countRampFrame (if (s.zones.get z).power.isBound then formFrame s z else s) z

end Sys2Proof.Machine
end

