-- ==== Sys2Proof/Machine/ZoneCommands.lean ====
section
/-! DEFINITION. The meanings of the zone requests and zone events, and of GET_MIX_MATRIX and GET_DELAY_STATUS (R59 to R87,
R97, R106, R117). -/

namespace Sys2Proof.Machine

/-! ## Requests -/

/-- POWER_ON as a request (R60 to R65). -/
def reqPowerOn (o : Origin) (payload : List Byte) (s : State) : Reply :=
  oneIndex 3 payload s fun s z =>
    let a := powerOn s z o
    { state := a.1, result := if a.2 then .accepted else .ok, data := [] }

/-- POWER_OFF as a request (R60 to R65). -/
def reqPowerOff (o : Origin) (payload : List Byte) (s : State) : Reply :=
  oneIndex 3 payload s fun s z =>
    let a := powerOff s z o
    { state := a.1, result := if a.2 then .accepted else .ok, data := [] }

/-- SELECT_SOURCE as a request (R69). -/
def reqSelectSource (o : Origin) (payload : List Byte) (s : State) : Reply :=
  match payload with
  | [zb, sb] => match indexOf 3 zb, orNone 16 sb with
    | some z, some src => (selectSource s z src o).ok (orNoneByte src)
    | _, _ => s.reply .range
  | _ => s.reply .length

/-- SET_VOLUME as a request (R77). -/
def reqSetVolume (o : Origin) (payload : List Byte) (s : State) : Reply :=
  match payload with
  | [zb, hi, lo] => match indexOf 3 zb with
    | some z =>
      let q := signed16 hi lo
      (setVolume s z q o).okOrLimited (clampInt (-160) 24 q != q) (i16 (clampInt (-160) 24 q))
    | none => s.reply .range
  | _ => s.reply .length

/-- STEP_VOLUME as a request (R77). -/
def reqStepVolume (o : Origin) (payload : List Byte) (s : State) : Reply :=
  match payload with
  | [zb, nb] => match indexOf 3 zb with
    | some z =>
      let q := (s.zones.get z).qv + signed8 nb
      (setVolume s z q o).okOrLimited (clampInt (-160) 24 q != q) (i16 (clampInt (-160) 24 q))
    | none => s.reply .range
  | _ => s.reply .length

/-- SET_MUTE as a request (R77). -/
def reqSetMute (o : Origin) (payload : List Byte) (s : State) : Reply :=
  match payload with
  | [zb, ob] => match indexOf 3 zb, yesNo ob with
    | some z, some on =>
      ((s.updZone z fun r => { r with mutes := { r.mutes with user := on } }).zoneOrigin z o).ok (flagByte on)
    | _, _ => s.reply .range
  | _ => s.reply .length

/-- The five options of a zone (R83). -/
structure ZoneOptions where
  mode : SurroundMode
  night : Bool
  clockMode : ClockMode
  rampInterval : Nat
  autoStandby : Nat

/-- The clock mode of a zone that is not bound changes (R78, R79, R83, log 28): in LOCAL the output rate becomes the local rate
at once, and the carrier that runs in DRAIN restarts at it (R124). In STANDBY none runs on, and the new rate applies when it
next starts. -/
def storeClock (s : State) (z : ZoneId) (m : ClockMode) : State :=
  let old := (s.zones.get z).rate
  let s := s.updZone z fun r =>
    { r with clockInEffect := m
             clockState := if m = .follow then .holdover else .localClock
             rate := m.localRate.getD r.rate }
  if (s.zones.get z).rate = old then s else restartCarrier s z

/-- The options of a zone are replaced, and each that changed acts (R82, R83, R89). -/
def setZoneOptions (s : State) (z : ZoneId) (opt : ZoneOptions) (o : Origin) : State :=
  let old := s.zones.get z
  let bound := old.power.isBound
  let s := s.updZone z fun r =>
    let r := { r with mode := opt.mode, night := opt.night, clockMode := opt.clockMode, rampInterval := opt.rampInterval,
                      autoStandby := opt.autoStandby }
    let r := if bound ∧ old.mode ≠ opt.mode then { r with shadow := buildFor s.speakers z r } else r
    if bound ∧ old.rampInterval ≠ opt.rampInterval then { r with rampCount := 0 } else r
  let s :=
    if old.clockMode = opt.clockMode then s
    else if bound then rebindCause s z else storeClock s z opt.clockMode
  let s :=
    if old.autoStandby = opt.autoStandby then s
    else if opt.autoStandby = 0 then s.updZone z fun r => { r with countdown := none } else startCountdown s z
  s.zoneOrigin z o

/-- SET_ZONE_OPTIONS as a request (R83). -/
def reqSetZoneOptions (o : Origin) (payload : List Byte) (s : State) : Reply :=
  match payload with
  | [zb, mb, nb, cb, rb, ab] =>
    match indexOf 3 zb, enumOf surroundModes mb, yesNo nb, enumOf clockModes cb with
    | some z, some mode, some night, some clock =>
      let ramp := clampNat 1 64 rb.toNat
      let auto := clampNat 0 120 ab.toNat
      let s := setZoneOptions s z
        { mode := mode, night := night, clockMode := clock, rampInterval := ramp, autoStandby := auto } o
      s.okOrLimited (ramp != rb.toNat || auto != ab.toNat)
        (enumByte surroundModes mode ++ flagByte night ++ enumByte clockModes clock ++ u8 ramp ++ u8 auto)
    | _, _, _, _ => s.reply .range
  | _ => s.reply .length

/-- POWER_ON (R60). -/
def execPowerOn (p : Port) (tag : Byte) (payload : List Byte) (s : State) : Host.Outcome State Fault Refusal :=
  .next (serve s p tag payload (reqPowerOn (portOrigin p) payload))

/-- POWER_OFF (R62). -/
def execPowerOff (p : Port) (tag : Byte) (payload : List Byte) (s : State) : Host.Outcome State Fault Refusal :=
  .next (serve s p tag payload (reqPowerOff (portOrigin p) payload))

/-- SELECT_SOURCE (R69). -/
def execSelectSource (p : Port) (tag : Byte) (payload : List Byte) (s : State) : Host.Outcome State Fault Refusal :=
  .next (serve s p tag payload (reqSelectSource (portOrigin p) payload))

/-- SET_VOLUME (R77). -/
def execSetVolume (p : Port) (tag : Byte) (payload : List Byte) (s : State) : Host.Outcome State Fault Refusal :=
  .next (serve s p tag payload (reqSetVolume (portOrigin p) payload))

/-- STEP_VOLUME (R77). -/
def execStepVolume (p : Port) (tag : Byte) (payload : List Byte) (s : State) : Host.Outcome State Fault Refusal :=
  .next (serve s p tag payload (reqStepVolume (portOrigin p) payload))

/-- SET_MUTE (R77). -/
def execSetMute (p : Port) (tag : Byte) (payload : List Byte) (s : State) : Host.Outcome State Fault Refusal :=
  .next (serve s p tag payload (reqSetMute (portOrigin p) payload))

/-- SET_ZONE_OPTIONS (R83). -/
def execSetZoneOptions (p : Port) (tag : Byte) (payload : List Byte) (s : State) : Host.Outcome State Fault Refusal :=
  .next (serve s p tag payload (reqSetZoneOptions (portOrigin p) payload))

/-- GET_ZONE_STATUS (R85). -/
def execGetZoneStatus (p : Port) (tag : Byte) (payload : List Byte) (s : State) : Host.Outcome State Fault Refusal :=
  .next (serve s p tag payload fun s => oneIndex 3 payload s fun s z => s.ok (zoneRecord s (s.zones.get z)))

/-- CLEAR_ZONE_COUNTERS (R85), which as a zone request records its origin (R84, log 40). That the ZONE flag is set where that origin
is a new one and not for the counts is the model's choice between R84 and R86 (log 47). -/
def execClearZoneCounters (p : Port) (tag : Byte) (payload : List Byte) (s : State) : Host.Outcome State Fault Refusal :=
  .next (serve s p tag payload fun s => oneIndex 3 payload s fun s z =>
    ((s.updZone z fun r => { r with repeats := 0, skips := 0, clips := 0 }).zoneOrigin z (portOrigin p)).ok [])

/-- GET_MIX_MATRIX (R106). -/
def execGetMixMatrix (p : Port) (tag : Byte) (payload : List Byte) (s : State) : Host.Outcome State Fault Refusal :=
  .next (serve s p tag payload fun s => oneIndex 3 payload s fun s z =>
    s.ok (matrixRecord s.speakers z (s.zones.get z).active))

/-- GET_DELAY_STATUS (R117). -/
def execGetDelayStatus (p : Port) (tag : Byte) (payload : List Byte) (s : State) : Host.Outcome State Fault Refusal :=
  .next (serve s p tag payload fun s => noPayload payload s fun s => s.ok (delayRecord s))

/-! ## Events -/

/-- The frame written brings the buffer to 64 frames and ends FILLING or refilling (R67, R81, log 6). -/
def bufferFills (s : State) (z : ZoneId) (samples : Vector Sample 8) : State :=
  let r := s.zones.get z
  if r.buffer.length = 63 ∧ (r.path = .filling ∨ r.refilling = true) then
    writeFrame s z { samples := samples, vals := none }
  else s

/-- START_TIMER_EXPIRY (R61). -/
def execStartTimerExpiry (z : ZoneId) (s : State) : Host.Outcome State Fault Refusal := .next (startExpiry s z)

/-- DRAIN_TIMER_EXPIRY (R64). -/
def execDrainTimerExpiry (z : ZoneId) (s : State) : Host.Outcome State Fault Refusal := .next (drainExpiry s z)

/-- RAMP_STEP (R75). -/
def execRampStep (z : ZoneId) (s : State) : Host.Outcome State Fault Refusal := .next (rampStep s z)

/-- BUFFER_FILLED (R67). -/
def execBufferFilled (z : ZoneId) (samples : Vector Sample 8) (s : State) : Host.Outcome State Fault Refusal :=
  .next (bufferFills s z samples)

/-- ZONE_OUTPUT_FRAME (R97). -/
def execZoneOutputFrame (z : ZoneId) (s : State) : Host.Outcome State Fault Refusal := .next (outputFrame s z)

/-- AUTO_STANDBY_EXPIRY (R82). -/
def execAutoStandbyExpiry (z : ZoneId) (s : State) : Host.Outcome State Fault Refusal := .next (autoStandbyExpiry s z)

end Sys2Proof.Machine
end

