-- ==== Sys2Proof/Machine/Dispatch.lean ====
section
/-! DEFINITION. The one match over the commands: each arm is a call of the command's meaning. -/

namespace Sys2Proof.Machine

/-- The effect of a command on everything but the queue. -/
def exec (i : Instr) (s : State) : Host.Outcome State Fault Refusal :=
  match i with
  | .poll p => Sys2Proof.Machine.execPoll p s
  | .fetch p n => Sys2Proof.Machine.execFetch p n s
  | .readEvents p tag payload => Sys2Proof.Machine.execReadEvents p tag payload s
  | .setEventMask p tag payload => Sys2Proof.Machine.execSetEventMask p tag payload s
  | .getEventMask p tag payload => Sys2Proof.Machine.execGetEventMask p tag payload s
  | .deviceReset p tag payload => Sys2Proof.Machine.execDeviceReset p tag payload s
  | .unknownCommand p code tag payload => Sys2Proof.Machine.execUnknownCommand p code tag payload s
  | .malformedTransaction p mosi bits => Sys2Proof.Machine.execMalformedTransaction p mosi bits s
  | .powerOnReset pins => Sys2Proof.Machine.execPowerOnReset pins s
  | .enableLink p tag payload => Sys2Proof.Machine.execEnableLink p tag payload s
  | .disableLink p tag payload => Sys2Proof.Machine.execDisableLink p tag payload s
  | .setLinkOptions p tag payload => Sys2Proof.Machine.execSetLinkOptions p tag payload s
  | .getLinkStatus p tag payload => Sys2Proof.Machine.execGetLinkStatus p tag payload s
  | .getLinkCounters p tag payload => Sys2Proof.Machine.execGetLinkCounters p tag payload s
  | .clearCounters p tag payload => Sys2Proof.Machine.execClearCounters p tag payload s
  | .setSource p tag payload => Sys2Proof.Machine.execSetSource p tag payload s
  | .getSource p tag payload => Sys2Proof.Machine.execGetSource p tag payload s
  | .getActivity p tag payload => Sys2Proof.Machine.execGetActivity p tag payload s
  | .getDecodeStatus p tag payload => Sys2Proof.Machine.execGetDecodeStatus p tag payload s
  | .powerOn p tag payload => Sys2Proof.Machine.execPowerOn p tag payload s
  | .powerOff p tag payload => Sys2Proof.Machine.execPowerOff p tag payload s
  | .selectSource p tag payload => Sys2Proof.Machine.execSelectSource p tag payload s
  | .setVolume p tag payload => Sys2Proof.Machine.execSetVolume p tag payload s
  | .stepVolume p tag payload => Sys2Proof.Machine.execStepVolume p tag payload s
  | .setMute p tag payload => Sys2Proof.Machine.execSetMute p tag payload s
  | .setZoneOptions p tag payload => Sys2Proof.Machine.execSetZoneOptions p tag payload s
  | .getZoneStatus p tag payload => Sys2Proof.Machine.execGetZoneStatus p tag payload s
  | .clearZoneCounters p tag payload => Sys2Proof.Machine.execClearZoneCounters p tag payload s
  | .getMixMatrix p tag payload => Sys2Proof.Machine.execGetMixMatrix p tag payload s
  | .getDelayStatus p tag payload => Sys2Proof.Machine.execGetDelayStatus p tag payload s
  | .setSpeaker p tag payload => Sys2Proof.Machine.execSetSpeaker p tag payload s
  | .getSpeaker p tag payload => Sys2Proof.Machine.execGetSpeaker p tag payload s
  | .setModulator p tag payload => Sys2Proof.Machine.execSetModulator p tag payload s
  | .getModulator p tag payload => Sys2Proof.Machine.execGetModulator p tag payload s
  | .getOutputStatus p tag payload => Sys2Proof.Machine.execGetOutputStatus p tag payload s
  | .setProtection p tag payload => Sys2Proof.Machine.execSetProtection p tag payload s
  | .getProtection p tag payload => Sys2Proof.Machine.execGetProtection p tag payload s
  | .clearProtection p tag payload => Sys2Proof.Machine.execClearProtection p tag payload s
  | .getProtectionStatus p tag payload flt => Sys2Proof.Machine.execGetProtectionStatus p tag payload flt s
  | .toneStart p tag payload => Sys2Proof.Machine.execToneStart p tag payload s
  | .toneNext p tag payload => Sys2Proof.Machine.execToneNext p tag payload s
  | .toneStop p tag payload => Sys2Proof.Machine.execToneStop p tag payload s
  | .setBand p tag payload => Sys2Proof.Machine.execSetBand p tag payload s
  | .getBandTable p tag payload => Sys2Proof.Machine.execGetBandTable p tag payload s
  | .loadCalibration p tag payload => Sys2Proof.Machine.execLoadCalibration p tag payload s
  | .getCalibration p tag payload => Sys2Proof.Machine.execGetCalibration p tag payload s
  | .tune p tag payload => Sys2Proof.Machine.execTune p tag payload s
  | .seek p tag payload => Sys2Proof.Machine.execSeek p tag payload s
  | .scan p tag payload => Sys2Proof.Machine.execScan p tag payload s
  | .getTunerStatus p tag payload pilot => Sys2Proof.Machine.execGetTunerStatus p tag payload pilot s
  | .storePreset p tag payload => Sys2Proof.Machine.execStorePreset p tag payload s
  | .recallPreset p tag payload => Sys2Proof.Machine.execRecallPreset p tag payload s
  | .erasePreset p tag payload => Sys2Proof.Machine.execErasePreset p tag payload s
  | .loadPresets p tag payload => Sys2Proof.Machine.execLoadPresets p tag payload s
  | .getPresets p tag payload => Sys2Proof.Machine.execGetPresets p tag payload s
  | .setBinding p tag payload => Sys2Proof.Machine.execSetBinding p tag payload s
  | .getEncoderStatus p tag payload => Sys2Proof.Machine.execGetEncoderStatus p tag payload s
  | .linkFrame l f => Sys2Proof.Machine.execLinkFrame l f s
  | .detectCountReached l => Sys2Proof.Machine.execDetectCountReached l s
  | .rateMeasurement l ticks allWellFormed => Sys2Proof.Machine.execRateMeasurement l ticks allWellFormed s
  | .blockEnd l f => Sys2Proof.Machine.execBlockEnd l f s
  | .descriptorErrorRun l f => Sys2Proof.Machine.execDescriptorErrorRun l f s
  | .alignmentTimerExpiry l => Sys2Proof.Machine.execAlignmentTimerExpiry l s
  | .recoveryTimerExpiry l => Sys2Proof.Machine.execRecoveryTimerExpiry l s
  | .lossOfSignal l => Sys2Proof.Machine.execLossOfSignal l s
  | .counterSnapshot => Sys2Proof.Machine.execCounterSnapshot s
  | .monitorActive l => Sys2Proof.Machine.execMonitorActive l s
  | .quietTimerExpiry l => Sys2Proof.Machine.execQuietTimerExpiry l s
  | .startTimerExpiry z => Sys2Proof.Machine.execStartTimerExpiry z s
  | .drainTimerExpiry z => Sys2Proof.Machine.execDrainTimerExpiry z s
  | .rampStep z => Sys2Proof.Machine.execRampStep z s
  | .bufferFilled z samples => Sys2Proof.Machine.execBufferFilled z samples s
  | .zoneOutputFrame z => Sys2Proof.Machine.execZoneOutputFrame z s
  | .autoStandbyExpiry z => Sys2Proof.Machine.execAutoStandbyExpiry z s
  | .carrierPeriodBoundary z flt => Sys2Proof.Machine.execCarrierPeriodBoundary z flt s
  | .faultCountTrip q => Sys2Proof.Machine.execFaultCountTrip q s
  | .dcTimerExpiry c => Sys2Proof.Machine.execDcTimerExpiry c s
  | .retryTimerExpiry q => Sys2Proof.Machine.execRetryTimerExpiry q s
  | .probeWindowExpiry q => Sys2Proof.Machine.execProbeWindowExpiry q s
  | .dwellTimerExpiry z => Sys2Proof.Machine.execDwellTimerExpiry z s
  | .dacTransfer => Sys2Proof.Machine.execDacTransfer s
  | .settleTimeExpiry => Sys2Proof.Machine.execSettleTimeExpiry s
  | .gateComplete ticks => Sys2Proof.Machine.execGateComplete ticks s
  | .gateAbandoned => Sys2Proof.Machine.execGateAbandoned s
  | .afcTimerExpiry => Sys2Proof.Machine.execAfcTimerExpiry s
  | .levelReading period pilot => Sys2Proof.Machine.execLevelReading period pilot s
  | .levelTimeout pilot => Sys2Proof.Machine.execLevelTimeout pilot s
  | .stationTest period pilot => Sys2Proof.Machine.execStationTest period pilot s
  | .encoderLineChange e a b => Sys2Proof.Machine.execEncoderLineChange e a b s
  | .filterSettled e => Sys2Proof.Machine.execFilterSettled e s
  | .detent e clockwise => Sys2Proof.Machine.execDetent e clockwise s
  | .chipSelectFallingEdge p => Sys2Proof.Machine.execChipSelectFallingEdge p s
  | .freqRisingEdge ticks => Sys2Proof.Machine.execFreqRisingEdge ticks s
  | .lvlFallingEdge high => Sys2Proof.Machine.execLvlFallingEdge high s

end Sys2Proof.Machine
end

