-- ==== Sys2Proof/Machine/Pins.lean ====
section
/-! DEFINITION. The output signals of the part as they follow from its state (00_scope.md, section 3): MISO, attention lines,
tuning DAC, BAND and the modulator outputs. What MISO carried in a transaction is kept in the ports (log 10). -/

namespace Sys2Proof.Machine

/-- The level of BAND: high while the band is AM and low while it is FM (R163). -/
def Band.level : Band → Bool
  | .fm => false
  | .am => true

/-- The level of a port's attention line, which is driven low when asserted (R202). -/
def PortState.attnLevel (p : PortState) : Bool := !p.attention

/-- What a port drives MISO with: nothing while chip select is high; while it is low, the status byte during byte 0 of a
transaction, and zeros in one that the port ignores (R192, R193, R203, R204; log 10). -/
def PortState.misoDrive (p : PortState) : Option Byte :=
  match p.line with
  | .idle => none
  | .selected status => some status
  | .ignoring => some 0

/-- The output signals: what each port drives MISO with, attention lines, the word on TDAC, BAND, and what PWM0 to PWM11 make of the carrier period in
progress. -/
structure OutputPins where
  misoA : Option Byte
  misoB : Option Byte
  attnA : Bool
  attnB : Bool
  tdac : Nat
  band : Bool
  pwm : Vector Wave 12
  deriving DecidableEq, Repr

/-- What drives a port's MISO. -/
def OutputPins.miso (o : OutputPins) : Port → Option Byte
  | .cpa => o.misoA
  | .cpb => o.misoB

/-- The output signals of a state (R126, R163, R192, R202). -/
def State.outputs (s : State) : OutputPins :=
  { misoA := s.ports.cpa.misoDrive, misoB := s.ports.cpb.misoDrive
    attnA := s.ports.cpa.attnLevel, attnB := s.ports.cpb.attnLevel, tdac := s.tuner.transferred, band := s.tuner.band.level
    pwm := Vector.ofFn fun c => (s.channels.get c).wave }

end Sys2Proof.Machine
end

