-- ==== Sys2Proof/WellFormed.lean ====
section
/-! DEFINITION. Which commands can reach the part: payloads that a request can carry, transactions that are what their row
says, frames and times that can be measured. `exec` is total on the others too (log 32). -/

namespace Sys2Proof

/-- A link frame that can be received: time passes between its two FS edges, and FS is high for some of its bit clocks (R1). -/
def LinkFrame.possible (f : LinkFrame) : Bool := decide (0 < f.ticks) && decide (f.fsHigh ≤ f.data.length)

/-- A command that can reach the part. -/
def Instr.wellFormed (i : Instr) : Bool :=
  match i with
  | .poll _ => true
  | .fetch _ _ => true
  | .readEvents _ _ payload => decide (payload.length ≤ 250)
  | .setEventMask _ _ payload => decide (payload.length ≤ 250)
  | .getEventMask _ _ payload => decide (payload.length ≤ 250)
  | .deviceReset _ _ payload => decide (payload.length ≤ 250)
  | .unknownCommand _ code _ payload => !codeListed code && decide (payload.length ≤ 250)
  | .malformedTransaction _ mosi bits => isMalformed mosi bits && decide (bits < 8)
  | .powerOnReset _ => true
  | .enableLink _ _ payload => decide (payload.length ≤ 250)
  | .disableLink _ _ payload => decide (payload.length ≤ 250)
  | .setLinkOptions _ _ payload => decide (payload.length ≤ 250)
  | .getLinkStatus _ _ payload => decide (payload.length ≤ 250)
  | .getLinkCounters _ _ payload => decide (payload.length ≤ 250)
  | .clearCounters _ _ payload => decide (payload.length ≤ 250)
  | .setSource _ _ payload => decide (payload.length ≤ 250)
  | .getSource _ _ payload => decide (payload.length ≤ 250)
  | .getActivity _ _ payload => decide (payload.length ≤ 250)
  | .getDecodeStatus _ _ payload => decide (payload.length ≤ 250)
  | .powerOn _ _ payload => decide (payload.length ≤ 250)
  | .powerOff _ _ payload => decide (payload.length ≤ 250)
  | .selectSource _ _ payload => decide (payload.length ≤ 250)
  | .setVolume _ _ payload => decide (payload.length ≤ 250)
  | .stepVolume _ _ payload => decide (payload.length ≤ 250)
  | .setMute _ _ payload => decide (payload.length ≤ 250)
  | .setZoneOptions _ _ payload => decide (payload.length ≤ 250)
  | .getZoneStatus _ _ payload => decide (payload.length ≤ 250)
  | .clearZoneCounters _ _ payload => decide (payload.length ≤ 250)
  | .getMixMatrix _ _ payload => decide (payload.length ≤ 250)
  | .getDelayStatus _ _ payload => decide (payload.length ≤ 250)
  | .setSpeaker _ _ payload => decide (payload.length ≤ 250)
  | .getSpeaker _ _ payload => decide (payload.length ≤ 250)
  | .setModulator _ _ payload => decide (payload.length ≤ 250)
  | .getModulator _ _ payload => decide (payload.length ≤ 250)
  | .getOutputStatus _ _ payload => decide (payload.length ≤ 250)
  | .setProtection _ _ payload => decide (payload.length ≤ 250)
  | .getProtection _ _ payload => decide (payload.length ≤ 250)
  | .clearProtection _ _ payload => decide (payload.length ≤ 250)
  | .getProtectionStatus _ _ payload _ => decide (payload.length ≤ 250)
  | .toneStart _ _ payload => decide (payload.length ≤ 250)
  | .toneNext _ _ payload => decide (payload.length ≤ 250)
  | .toneStop _ _ payload => decide (payload.length ≤ 250)
  | .setBand _ _ payload => decide (payload.length ≤ 250)
  | .getBandTable _ _ payload => decide (payload.length ≤ 250)
  | .loadCalibration _ _ payload => decide (payload.length ≤ 250)
  | .getCalibration _ _ payload => decide (payload.length ≤ 250)
  | .tune _ _ payload => decide (payload.length ≤ 250)
  | .seek _ _ payload => decide (payload.length ≤ 250)
  | .scan _ _ payload => decide (payload.length ≤ 250)
  | .getTunerStatus _ _ payload _ => decide (payload.length ≤ 250)
  | .storePreset _ _ payload => decide (payload.length ≤ 250)
  | .recallPreset _ _ payload => decide (payload.length ≤ 250)
  | .erasePreset _ _ payload => decide (payload.length ≤ 250)
  | .loadPresets _ _ payload => decide (payload.length ≤ 250)
  | .getPresets _ _ payload => decide (payload.length ≤ 250)
  | .setBinding _ _ payload => decide (payload.length ≤ 250)
  | .getEncoderStatus _ _ payload => decide (payload.length ≤ 250)
  | .linkFrame _ f => f.possible
  | .detectCountReached _ => true
  | .rateMeasurement _ ticks _ => decide (0 < ticks)
  | .blockEnd _ f => f.possible
  | .descriptorErrorRun _ f => f.possible
  | .alignmentTimerExpiry _ => true
  | .recoveryTimerExpiry _ => true
  | .lossOfSignal _ => true
  | .counterSnapshot => true
  | .monitorActive _ => true
  | .quietTimerExpiry _ => true
  | .startTimerExpiry _ => true
  | .drainTimerExpiry _ => true
  | .rampStep _ => true
  | .bufferFilled _ _ => true
  | .zoneOutputFrame _ => true
  | .autoStandbyExpiry _ => true
  | .carrierPeriodBoundary _ _ => true
  | .faultCountTrip _ => true
  | .dcTimerExpiry _ => true
  | .retryTimerExpiry _ => true
  | .probeWindowExpiry _ => true
  | .dwellTimerExpiry _ => true
  | .dacTransfer => true
  | .settleTimeExpiry => true
  | .gateComplete ticks => decide (0 < ticks)
  | .gateAbandoned => true
  | .afcTimerExpiry => true
  | .levelReading period _ => decide (0 < period)
  | .levelTimeout _ => true
  | .stationTest period _ => decide (0 < period)
  | .encoderLineChange _ _ _ => true
  | .filterSettled _ => true
  | .detent _ _ => true
  | .chipSelectFallingEdge _ => true
  | .freqRisingEdge ticks => decide (0 < ticks)
  | .lvlFallingEdge _ => true

end Sys2Proof
end

