-- ==== Sys2Proof/Safety.lean ====
section
/-! DEFINITION. What the spec promises of every state the part can be in, and the words in which statements say what a command
leaves: a request's response, the flags it sets, what it leaves alone. -/

namespace Sys2Proof.Machine

/-! ## Time and buffers -/

/-- A timer runs and its length has passed by the millisecond timer, so that its expiry can happen (log 4). -/
abbrev ranOut (t : Option Timer) (now : Millis) : Prop := (t.any fun w => decide (w.len ≤ (now - w.start).toNat)) = true

/-- What a buffer keeps when a frame arrives: all of it while it holds fewer than 128 frames, and without its 64 oldest frames
when it holds 128. Descriptor values that a discarded frame carried pass to the oldest that remains (R70, R80). That this one
keeps values of its own, and that of several discarded values the newest pass, is the model's choice (log 46). -/
def makesRoom (buffer kept : List BufFrame) : Prop :=
  (buffer.length < 128 ∧ kept = buffer) ∨
  ∃ old f rest, buffer = old ++ f :: rest ∧ old.length = 64 ∧ rest.length = 63 ∧
    kept = { f with vals := f.vals.or (old.reverse.findSome? (·.vals)) } :: rest

/-! ## Invariants -/

/-- No two speakers of one zone stand at one position (R119). -/
def distinctPositions (spk : Vector Speaker 12) : Prop :=
  ∀ c d : Chan, c ≠ d → (spk.get c).zone.isSome = true → (spk.get c).zone = (spk.get d).zone →
    (spk.get c).position ≠ (spk.get d).position

/-- The laws of the speaker table (R119), but for the limits on the number of a zone's speakers, which follow from them. -/
def tableLawful (spk : Vector Speaker 12) : Prop :=
  distinctPositions spk ∧
  ∀ c : Chan,
    ((spk.get c).bridged = true → c.1 % 2 = 0 ∧ (spk.get c).zone.isSome = true ∧ (spk.get (partner c)).zone = none) ∧
    ((spk.get c).zone.isSome = true → (spk.get (partner c)).zone.isSome = true →
      (spk.get c).zone = (spk.get (partner c)).zone) ∧
    ((spk.get c).zone = some 1 ∨ (spk.get c).zone = some 2 → (spk.get c).position = posFL ∨ (spk.get c).position = posFR)

/-- The most speakers a zone has (R119). -/
def speakerLimit (z : ZoneId) : Nat := if z = 0 then 8 else 2

/-- The values of a zone record lie in their ranges (R59, R80, R103, R123). -/
def Zone.inRange (r : Zone) : Prop :=
  (-160 ≤ r.qv ∧ r.qv ≤ 24) ∧ (∀ q, r.qr = some q → -160 ≤ q ∧ q ≤ 24) ∧ (1 ≤ r.rampInterval ∧ r.rampInterval ≤ 64) ∧
  r.autoStandby ≤ 120 ∧ r.buffer.length ≤ 128 ∧ r.repeats ≤ 65535 ∧ r.skips ≤ 65535 ∧ r.clips ≤ 65535 ∧
  (7 ≤ r.resolution ∧ r.resolution ≤ 9) ∧ r.minPulse ≤ 15

/-- A counter's three parts lie in 0 to 65,535 (R19). -/
def Counter.inRange (c : Counter) : Prop := c.total ≤ 65535 ∧ c.second ≤ 65535 ∧ c.snapshot ≤ 65535

/-- A link's error counters lie in their ranges (R19). -/
def LinkCounters.inRange (c : LinkCounters) : Prop :=
  c.code.inRange ∧ c.descriptor.inRange ∧ c.sequence.inRange ∧ c.bsf.inRange

/-- Buffers and counters stay within their ranges (R19, R59, R80), and a snapshot is due at a whole second alone (R19, log 43). -/
def countsInRange (s : State) : Prop :=
  (s.snapshotDue = true → s.ms.toNat % 1000 = 0) ∧
  (∀ z, (s.zones.get z).inRange) ∧ (∀ l, (s.links.get l).counters.inRange) ∧
  ∀ u, (s.units.get u).concealed ≤ 65535 ∧ (s.units.get u).silenced ≤ 65535

/-- TONE is present exactly while the sequencer runs, and it runs only while the zone is ON (R149). -/
def Zone.toneLawful (r : Zone) : Prop := r.mutes.tone = r.tone.running ∧ (r.tone.running = true → r.power = .on)

/-- The activity monitor of the zone's link is not ACTIVE, or the zone has no link (R82). -/
abbrev Zone.quiet (r : Zone) (s : State) : Prop := ∀ l, r.link = some l → (s.monitors.get l).state ≠ .active

/-- The auto-standby countdown of the zone at its whole length of N minutes, started now (R82). -/
def Zone.fullCountdown (r : Zone) (s : State) : Option Timer := some { start := s.ms, len := r.autoStandby * 60000 }

/-- The auto-standby countdown runs exactly in a zone that is ON and quiet with a setting above 0 (R82). -/
def countdownsFollow (s : State) : Prop :=
  ∀ z, (s.zones.get z).countdown.isSome = true ↔
    (s.zones.get z).power = .on ∧ 0 < (s.zones.get z).autoStandby ∧ (s.zones.get z).quiet s

/-- All lip-sync allocations together fit the share (R112). -/
def shareKept (s : State) : Prop := allocatedWords s ≤ lipShare

/-- The preset list holds at most 40 entries and no station twice (R178), the completion list at most 4 entries (R175). -/
def tunerLists (t : Tuner) : Prop :=
  t.presets.length ≤ 40 ∧ t.presets.Pairwise (fun p q => (p.band, p.frequency) ≠ (q.band, q.frequency)) ∧
  t.completions.length ≤ 4

/-- A unit's bound link is none exactly when it is FREE (R38), and every zone attached to a unit that is not FREE is bound to
a source on the unit's link, no unit that is FREE having an attached zone (R38). -/
def unitsLawful (s : State) : Prop :=
  (∀ u, (s.units.get u).state = .free ↔ (s.units.get u).link = none) ∧
  ∀ z u, (s.zones.get z).decode = .attached u → (s.units.get u).link ≠ none ∧ (s.zones.get z).link = (s.units.get u).link

/-- A zone that is not bound holds no source, copy, buffer content, decode attachment or allocation (R59, R60, R63). -/
def Zone.atRest (r : Zone) : Prop :=
  r.power.isBound = false →
    r.bound = none ∧ r.copy = none ∧ r.buffer = [] ∧ r.path = .idle ∧ r.vals = none ∧ r.alloc = none ∧ r.decode = .none

/-- The probe window runs in PROBE alone and the retry timer in TRIPPED alone (R136). -/
def Pair.timersLawful (p : Pair) : Prop :=
  (p.retryTimer.isSome = true ↔ p.state = .tripped) ∧ (p.probeWindow.isSome = true ↔ p.state = .probe)

/-- DECODE is present exactly while the zone waits for a unit or is attached to one in SYNCING (R55, R73). -/
def decodeMutesFollow (s : State) : Prop := ∀ z, (s.zones.get z).mutes.decode = decodeMuted s (s.zones.get z).decode

/-- The format is one of those that the part does not decode, 2 and 3 (R6, R71). -/
def Format.isUnplayable (x : Format) : Bool := decide (x = .unsupported2 ∨ x = .unsupported3)

/-- The link's last good descriptor is of an unplayable format (R71). -/
def Link.unplayable (x : Link) : Bool := x.lastGood.any fun d => d.format.isUnplayable

/-- NO_SIGNAL is present exactly while the zone's link is not LOCKED and FORMAT exactly while the link's last good descriptor has
format 2 or 3 (R71), and TUNING exactly while its link is TL and the tuner is not LOCKED (R72); a zone without a link has none of
them. -/
def linkMutesFollow (s : State) : Prop :=
  ∀ z, ((s.zones.get z).link = none → (s.zones.get z).mutes.noSignal = false ∧ (s.zones.get z).mutes.format = false ∧
      (s.zones.get z).mutes.tuning = false) ∧
    ∀ l, (s.zones.get z).link = some l →
      (s.zones.get z).mutes.noSignal = decide ((s.links.get l).state ≠ .locked) ∧
      (s.zones.get z).mutes.format = (s.links.get l).unplayable ∧
      (s.zones.get z).mutes.tuning = decide (l = 8 ∧ s.tuner.state ≠ .locked)

/-- The wait list names every zone that waits for a decode unit, once, and no other zone (R49). -/
def waitListLawful (s : State) : Prop := s.waitList.Nodup ∧ ∀ y, y ∈ s.waitList ↔ (s.zones.get y).decode = .waiting

/-- The decode arbiter's laws. A zone has a decode position, attached or waiting, exactly when its link needs decode: it is LOCKED
or in RECOVER with a last good descriptor of format BSF (R49). No zone waits while a unit is FREE, nor for a link that a unit
serves (R49, R50, R52). A unit that is not FREE has an attached zone, and no two units serve one link (R38). -/
def arbiterLawful (s : State) : Prop :=
  (∀ z, (s.zones.get z).decode ≠ .none ↔ ∃ l, (s.zones.get z).link = some l ∧
    (s.links.get l).state.carries = true ∧ (s.links.get l).lastGood.map (·.format) = some .bsf) ∧
  (∀ u, (s.units.get u).state = .free → s.waitList = []) ∧
  (∀ z u, z ∈ s.waitList → (s.units.get u).link ≠ (s.zones.get z).link) ∧
  (∀ u, (s.units.get u).state ≠ .free → ∃ z, (s.zones.get z).decode = .attached u) ∧
  ∀ u v, u ≠ v → (s.units.get u).link = (s.units.get v).link → (s.units.get u).link = none

/-- A channel is at the off level: it presents no duty count, and its output is low for the whole period (R126, R130). -/
def Channel.isOff (x : Channel) : Prop := x.shown = none ∧ x.wave = .low

/-- The channels of a pair are at the off level (R130). -/
def pairOff (t : State) (q : PairId) : Prop :=
  (t.channels.get (lowerChan q)).isOff ∧ (t.channels.get (upperChan q)).isOff

/-- The timers of every pair are lawful, and the channels of a pair that is TRIPPED or LATCHED are at the off level (R130,
R136). -/
def pairsLawful (s : State) : Prop :=
  ∀ q, (s.pairs.get q).timersLawful ∧ ((s.pairs.get q).state.holds = true → pairOff s q)

/-! ## Requests -/

/-- A request on the port is taken: the port does not ignore its lines, and RESPONSE_PENDING is clear in the status byte of
the transaction (R194). -/
def Ready (s : State) (p : Port) : Prop :=
  (s.ports.get p).line ≠ .ignoring ∧ (s.ports.get p).status.getLsbD 7 = false

/-- A port after a request of `n` payload bytes that was answered; `st` is the status byte of the transaction (R192, R194,
R195). -/
def PortState.answered (r : PortState) (st : Byte) (tag : Byte) (n : Nat) (res : Result) (data : List Byte) : PortState :=
  { r with
    line := .idle, framing := false, miso := st :: List.replicate (2 + n) 0
    slot := some { tag := tag, result := res, data := data } }

/-- `t` with a port as a request of `n` payload bytes that was answered leaves it. -/
def State.answered (t : State) (p : Port) (st : Byte) (tag : Byte) (n : Nat) (res : Result) (data : List Byte) : State :=
  { t with ports := t.ports.put p ((t.ports.get p).answered st tag n res data) }

/-- The status byte of the transaction that a command on a port stands for (R193). -/
def State.status (s : State) (p : Port) : Byte := (s.ports.get p).status

/-- The response that stands in a port's slot. -/
def State.slot (s : State) (p : Port) : Option Response := (s.ports.get p).slot

/-- OK, or LIMITED when the value applied is not the value asked for (00_scope.md, section 5.6). -/
def okIf (b : Bool) : Result := if b then .ok else .limited

/-- The payload has a length that the command of the code accepts (section 12.6). -/
def lengthAccepted (code : Nat) (payload : List Byte) : Bool :=
  match code with
  | 0x02 | 0x04 | 0x05 | 0x1C | 0x2E | 0x34 | 0x3B | 0x49 | 0x4E | 0x4F | 0x54 => payload.length == 0
  | 0x10 | 0x11 | 0x13 | 0x14 | 0x15 | 0x19 | 0x1A | 0x20 | 0x21 | 0x27 | 0x28 | 0x2C | 0x31 | 0x33 | 0x39 | 0x3A => payload.length == 1
  | 0x41 | 0x42 | 0x4B | 0x4D | 0x50 | 0x51 | 0x52 | 0x59 => payload.length == 1
  | 0x12 | 0x22 | 0x24 | 0x25 => payload.length == 2
  | 0x23 | 0x32 | 0x58 => payload.length == 3
  | 0x38 | 0x40 | 0x48 | 0x4C => payload.length == 4
  | 0x26 => payload.length == 6
  | 0x03 => payload.length == 7
  | 0x18 | 0x30 => payload.length == 9
  | 0x4A => decide (2 ≤ payload.length) && payload.length == 2 + 5 * (payload.getD 1 0).toNat
  | 0x53 => decide (1 ≤ payload.length) && payload.length == 1 + 5 * (payload.getD 0 0).toNat
  | _ => false

/-- How many objects the one index of a request may name, for the codes whose payload is one index or one enumeration value
that is checked before anything else (R11, R20, R22, R28, R36, R65, R85, R106, R122, R132, R143, R145, R154, R155, R172,
R181, R188). -/
def indexBound (code : Nat) : Option Nat :=
  match code with
  | 0x10 | 0x11 | 0x13 | 0x14 | 0x15 | 0x1A => some 9
  | 0x19 => some 16
  | 0x20 | 0x21 | 0x27 | 0x28 | 0x2C | 0x33 | 0x41 | 0x42 => some 3
  | 0x31 => some 12
  | 0x39 | 0x3A => some 6
  | 0x4B | 0x4D | 0x59 => some 2
  | _ => none

/-- A payload of the accepted length holds an operand out of range, for the requests of several operands whose range does not
depend on the state (R21, R26, R69, R77, R83, R123, R145, R150, R160, R161, R164, R180, R188, R198). -/
def operandsOutOfRange (code : Nat) (payload : List Byte) : Bool :=
  let x (i : Nat) : Nat := (payload.getD i 0).toNat
  match code with
  | 0x12 => decide (9 ≤ x 0)
  | 0x18 => decide (16 ≤ x 0 ∨ (9 ≤ x 1 ∧ x 1 ≠ 255) ∨ 2 ≤ x 6 ∨ 4 ≤ x 7)
  | 0x22 => decide (3 ≤ x 0 ∨ (16 ≤ x 1 ∧ x 1 ≠ 255))
  | 0x23 | 0x24 => decide (3 ≤ x 0)
  | 0x25 => decide (3 ≤ x 0 ∨ 2 ≤ x 1)
  | 0x26 => decide (3 ≤ x 0 ∨ 4 ≤ x 1 ∨ 2 ≤ x 2 ∨ 3 ≤ x 3)
  | 0x32 => decide (3 ≤ x 0 ∨ x 1 < 7 ∨ 9 < x 1)
  | 0x38 => decide (6 ≤ x 0)
  | 0x40 => decide (3 ≤ x 0 ∨ 2 ≤ x 1 ∨ 2 ≤ x 2)
  | 0x48 => decide (2 ≤ x 0 ∨ (x 0 = 0 ∧ ((x 1 ≠ 100 ∧ x 1 ≠ 50) ∨ 2 ≤ x 3)) ∨ (x 0 = 1 ∧ x 1 ≠ 9 ∧ x 1 ≠ 10))
  | 0x4A => decide (2 ≤ x 0 ∨ x 1 < 2 ∨ 16 < x 1 ∨ increasing (readPoints (payload.drop 2)) = false)
  | 0x4C => decide (2 ≤ x 0)
  | 0x53 => decide (40 < x 0 ∨ readPresets (payload.drop 1) = none)
  | 0x58 => decide (2 ≤ x 0 ∨ 4 ≤ x 1 ∨ (x 1 = 0 ∧ 3 ≤ x 2))
  | _ => false

/-! ## Frames of a link -/

/-- The slots of a frame that carry a present channel of the map and hold an odd count of ones: the CODE errors that they count
in LOCKED. A frame that is not well formed has none (R2, R3, R5). -/
def RawFrame.parityErrors (f : RawFrame) (map : BitVec 8) : Nat :=
  if f.wellFormed then
    (posIds.filter fun n => decide (n.1 < (presentList map).length ∧
      ((List.range 32).filter fun i => (f.slots.get n).getLsbD i).length % 2 = 1)).length
  else 0

/-! ## Gates -/

/-- The command ends the gate of an iteration that does not lock: complete with an error above the tolerance, or with the first
error in a row within it, or abandoned. `m` is the measured frequency it leaves and `e` the frequency error, for which the
measured LO of an abandoned gate is 0 (R166, R167, R168). -/
def gateMisses (s : State) (c : Instr) (m : Option Int) (e : Int) : Prop :=
  (∃ ticks, c = .gateComplete ticks ∧ s.tuner.gate.open = true ∧
    m = some (measuredLO s.tuner.band ticks - s.tuner.band.ifOffset) ∧ e = s.tuner.error (measuredLO s.tuner.band ticks) ∧
    (s.tuner.inRun = false ∨ s.tuner.band.tolerance < e.natAbs)) ∨
  (c = .gateAbandoned ∧ ranOut s.tuner.gate.limit s.ms ∧ m = none ∧ e = s.tuner.target + s.tuner.band.ifOffset)

/-- The command completes a level reading, with PILOT as it carries it, and `x` is the tuner's record but for the reading taken: a
rising edge that ends a captured period, as LEVEL_READING or, for the third reading of a station test, as STATION_TEST, or 20 ms
without an edge (R169, log 6). -/
def readingCompletes (s : State) (c : Instr) (level : Nat) (pilot : Bool) (x : Tuner) : Prop :=
  (∃ period high, (c = .levelReading period pilot ∨
      (c = .stationTest period pilot ∧ s.tuner.phase = some .test ∧ s.tuner.readings.length = 2)) ∧
    s.tuner.capturing = true ∧ s.tuner.lvlHigh = some high ∧ 0 < period ∧ high ≤ period ∧ level = 255 * high / period ∧
    x = { s.tuner with lvl := true, lvlHigh := none, lvlTimer := { start := s.ms, len := 20 } }) ∨
  (c = .levelTimeout pilot ∧ ranOut (some s.tuner.lvlTimer) s.ms ∧ level = (if s.tuner.lvl then 255 else 0) ∧
    x = { s.tuner with lvlTimer := { start := s.ms, len := 20 } })

/-- A search of record `x` is done with its candidate, and `y` is its record then: while channels are left it tries the next one in
its direction and has one fewer left, and after the last it returns to its start frequency (R172, R173). -/
def searchGoesOn (x y : Tuner) : Prop :=
  y.state = x.state ∧ y.op = x.op ∧ y.start = x.start ∧ y.searchUp = x.searchUp ∧ y.iterations = 0 ∧ y.gate = .transfer ∧
  if 0 < x.triesLeft then
    y.phase = some .acquire ∧ y.triesLeft = x.triesLeft - 1 ∧ y.band = x.band ∧
    y.target = if x.searchUp then channelAbove x.band (x.record x.band).step x.target
      else channelBelow x.band (x.record x.band).step x.target
  else y.phase = some .return ∧ y.triesLeft = 0 ∧ ∀ start, x.start = some start → (y.band, y.target) = start

/-! ## Flags of changes -/

/-- What R23 lists of a link is the same in both records: enable setting, loss window, state and rate, and of two last good
descriptors the format, channel map, downmix preference, LFE-reduced flag and stream id. -/
def Link.unlisted (a b : Link) : Prop :=
  a.enabled = b.enabled ∧ a.lossWindow = b.lossWindow ∧ a.state = b.state ∧ a.rate = b.rate ∧
  ∀ d e, a.lastGood = some d → b.lastGood = some e →
    d.format = e.format ∧ d.map = e.map ∧ d.pref = e.pref ∧ d.lfe = e.lfe ∧ d.stream = e.stream

/-- What R86, R133 and R157 list of a zone is the same in both records: power, path, restart-pending, selected and bound source;
qv, mute reasons, options, clock state and output rate; decode attachment, delay allocation, effective surround mode, channel
map and stream id in force; the recorded origin; the modulator settings; and the speaker under test. -/
def Zone.unlisted (a b : Zone) : Prop :=
  (a.power = b.power ∧ a.path = b.path ∧ a.restart = b.restart ∧ a.selected = b.selected ∧ a.bound = b.bound) ∧
  (a.qv = b.qv ∧ a.mutes = b.mutes ∧ a.mode = b.mode ∧ a.night = b.night ∧ a.clockMode = b.clockMode ∧
    a.rampInterval = b.rampInterval ∧ a.autoStandby = b.autoStandby ∧ a.clockState = b.clockState ∧ a.rate = b.rate) ∧
  (a.decode = b.decode ∧ a.alloc = b.alloc ∧ a.effMode = b.effMode ∧ a.vals.map (·.map) = b.vals.map (·.map) ∧
    a.vals.map (·.stream) = b.vals.map (·.stream)) ∧
  a.lastChanged = b.lastChanged ∧ a.resolution = b.resolution ∧ a.minPulse = b.minPulse ∧ a.tone.speaker = b.tone.speaker

/-- A port's flag copy does not hold the flag. -/
def State.lacks (t : State) (p : Port) (f : Flag) : Prop := (t.ports.get p).flags.get f.index = false

/-- Where a flag copy does not hold an owner's flag after a step from `s` to `t`, nothing that is listed for the flag has changed:
LINK for the link and the state of its monitor (R23, R34), ZONE for the zone and its speaker entries (R86, R133, R157), DU for the
unit's state, bound link and attached set and for the wait list (R57), PAIR for the pair (R147), TUNER_DONE for the completions,
TUNER_LOCK for state and band, PRESETS for the preset list (R182). A step that changes a listed field therefore sets the flag in
both copies. -/
def changesFlagged (s t : State) : Prop :=
  ∀ p : Port,
    (∀ l, t.lacks p (.link l) →
      (s.links.get l).unlisted (t.links.get l) ∧ (s.monitors.get l).state = (t.monitors.get l).state) ∧
    (∀ z, t.lacks p (.zone z) → (s.zones.get z).unlisted (t.zones.get z) ∧
      ∀ c, (s.speakers.get c).zone = some z ∨ (t.speakers.get c).zone = some z → s.speakers.get c = t.speakers.get c) ∧
    (∀ u, t.lacks p (.du u) →
      (s.units.get u).state = (t.units.get u).state ∧ (s.units.get u).link = (t.units.get u).link ∧ s.waitList = t.waitList ∧
      ∀ z, (s.zones.get z).decode = .attached u ↔ (t.zones.get z).decode = .attached u) ∧
    (∀ q, t.lacks p (.pair q) →
      (s.pairs.get q).state = (t.pairs.get q).state ∧ (s.pairs.get q).retries = (t.pairs.get q).retries ∧
      (s.pairs.get q).cause = (t.pairs.get q).cause ∧ (s.pairs.get q).dcTime = (t.pairs.get q).dcTime ∧
      (s.pairs.get q).retryLimit = (t.pairs.get q).retryLimit) ∧
    (t.lacks p .tunerDone → s.tuner.completions = t.tuner.completions) ∧
    (t.lacks p .tunerLock → s.tuner.state = t.tuner.state ∧ s.tuner.band = t.tuner.band) ∧
    (t.lacks p .presets → s.tuner.presets = t.tuner.presets)

/-! ## What a command leaves alone -/

/-- A set of flags is set in both copies, and no flag is cleared (R199). -/
def flagsAdded (s t : State) : Prop :=
  ∃ added : Fin 26 → Bool, ∀ p i, (t.ports.get p).flags.get i = ((s.ports.get p).flags.get i || added i)

/-- Everything a port holds but its flag copy is unchanged. -/
def portKept (s t : State) (p : Port) : Prop :=
  t.ports.get p = { s.ports.get p with flags := (t.ports.get p).flags }

/-- The other port. -/
def otherPort : Port → Port
  | .cpa => .cpb
  | .cpb => .cpa

/-! ## After a reset -/

/-- A link that has given up everything (R11, R24). -/
def Link.cleared (r : Link) : Prop :=
  r.rate = none ∧ r.lastGood = none ∧ r.reading = [] ∧ r.delivery = none ∧ r.stateTimer = none ∧ r.detectCount = 0

/-- A pair that has not tripped (R148). -/
def Pair.quiet (p : Pair) : Prop :=
  p.state = .normal ∧ p.retries = 0 ∧ p.cause = .none ∧ p.retryTimer = none ∧ p.probeWindow = none ∧ p.faults = 0

/-- A tuner with no operation and no completion (R183). -/
def Tuner.quiet (x : Tuner) : Prop :=
  x.phase = none ∧ x.op = none ∧ x.start = none ∧ x.iterations = 0 ∧ x.inRun = false ∧ x.completions = [] ∧
  x.nextNumber = 0 ∧ x.measured = none ∧ x.level = 0 ∧ x.lastChanged = .auto ∧ x.gate = .idle ∧ x.afcTimer = none

/-- What both resets leave in the blocks, apart from the configuration that a soft reset keeps (R24, R37, R58, R87, R107, R118,
R134, R135, R148, R158, R183, R191). -/
def blocksReset (t : State) : Prop :=
  (∀ l, (t.links.get l).cleared ∧ (t.links.get l).counters = LinkCounters.zero) ∧
  (∀ l, (t.monitors.get l).state = .noLink ∧ (t.monitors.get l).run = 0 ∧ (t.monitors.get l).quietTimer = none ∧
    (t.monitors.get l).quietSince = none) ∧
  (∀ u, t.units.get u = DecodeUnit.reset) ∧ t.waitList = [] ∧
  (∀ z, t.zones.get z = Zone.reset (t.zones.get z).selected (t.zones.get z).resolution (t.zones.get z).minPulse) ∧
  (∀ c, (t.channels.get c).isOff ∧ (t.channels.get c).delay = none ∧ (t.channels.get c).line = [] ∧
    (t.channels.get c).lipSection = [] ∧ (t.channels.get c).watch = .clear) ∧
  (∀ q, (t.pairs.get q).quiet) ∧ t.tuner.quiet ∧
  (∀ e, (t.encoders.get e).filtered = none ∧ (t.encoders.get e).quarters = 0 ∧ (t.encoders.get e).lastDetent = none)

/-- A flag copy that holds RESET alone (R203, R204). -/
def resetAlone (r : PortState) : Prop := ∀ i, r.flags.get i = decide (i = resetFlagIndex)

/-! ## Frames -/

/-- What a change of a link's state leaves alone when no zone rebinds for it: the other links and monitors, the source and
speaker tables, what the channels present, the pairs, the tuner, the encoders, the millisecond timer and its due snapshot. -/
def linkFrameKept (s t : State) (l : LinkId) : Prop :=
  (∀ k, k ≠ l → t.links.get k = s.links.get k ∧ t.monitors.get k = s.monitors.get k) ∧
  t.sources = s.sources ∧ t.speakers = s.speakers ∧ t.channels = s.channels ∧ t.pairs = s.pairs ∧ t.tuner = s.tuner ∧
  t.encoders = s.encoders ∧ t.ms = s.ms ∧ t.snapshotDue = s.snapshotDue

/-- What an operation of one zone leaves alone: links, monitors, the source and speaker tables, the tuner, the encoders, the
millisecond timer and its due snapshot. -/
def zoneFrameKept (s t : State) : Prop :=
  t.links = s.links ∧ t.monitors = s.monitors ∧ t.sources = s.sources ∧ t.speakers = s.speakers ∧ t.tuner = s.tuner ∧
  t.encoders = s.encoders ∧ t.ms = s.ms ∧ t.snapshotDue = s.snapshotDue

/-- What a tuning request does to the zones and the tuner's flags, `t` being in a state other than LOCKED: a departure from LOCKED
is announced to the zones bound to TL, which set TUNING, and no other zone changes (R72, R176); TUNER_LOCK is set at a change of
state or band and TUNER_DONE with the completion of an operation that was in flight, in both copies (R182). -/
def tunerUnlocks (s t : State) : Prop :=
  (∀ z, t.zones.get z =
    if s.tuner.state = .locked ∧ (s.zones.get z).link = some 8 then
      { s.zones.get z with
        mutes := { (s.zones.get z).mutes with tuning := true }
        lastChanged := if (s.zones.get z).mutes.tuning = true then (s.zones.get z).lastChanged else .auto }
    else s.zones.get z) ∧
  ∀ p,
    (t.ports.get p).flags.get Flag.tunerLock.index = ((s.ports.get p).flags.get Flag.tunerLock.index ||
      decide (t.tuner.state ≠ s.tuner.state ∨ t.tuner.band ≠ s.tuner.band)) ∧
    (t.ports.get p).flags.get Flag.tunerDone.index =
      ((s.ports.get p).flags.get Flag.tunerDone.index || s.tuner.op.isSome)

/-- The zone holds nothing of a source (R63). -/
def Zone.released (r : Zone) : Prop :=
  r.bound = none ∧ r.copy = none ∧ r.buffer = [] ∧ r.path = .idle ∧ r.vals = none ∧ r.alloc = none ∧ r.decode = .none ∧
  r.mutes.tuning = false ∧ r.mutes.noSignal = false ∧ r.mutes.format = false ∧ r.mutes.rateMismatch = false ∧
  r.mutes.decode = false

/-- The clock as a binding leaves it, for the zone's link `x` and the output rate before the binding (R66, R78, R79, R83). The
clock mode comes into effect. In LOCAL the clock state is LOCAL at the local rate, and RATE_MISMATCH says that the link is LOCKED
or in RECOVER at another rate. In FOLLOW the clock state is LOCKED_TO_SOURCE when the link is LOCKED and HOLDOVER otherwise, and
the rate is that of a link that is LOCKED or in RECOVER and otherwise stays. -/
def Zone.clockBound (r : Zone) (x : Option Link) (rate : Rate) : Prop :=
  r.clockInEffect = r.clockMode ∧
  (∀ k, ((r.clockMode = .local48 ∧ k = .r48) ∨ (r.clockMode = .local44 ∧ k = .r44)) →
    r.clockState = .localClock ∧ r.rate = k ∧
    ∀ y, x = some y → r.mutes.rateMismatch = decide (y.state.carries = true ∧ y.rate ≠ some k)) ∧
  (r.clockMode = .follow →
    r.clockState = (if x.map (·.state) = some .locked then .lockedToSource else .holdover) ∧
    (∀ y k, x = some y → y.state.carries = true → y.rate = some k → r.rate = k) ∧
    ((∀ y, x = some y → y.state.carries = false) → r.rate = rate) ∧
    (x.isSome = true → r.mutes.rateMismatch = false))

/-- The zone is bound to its selected source as a binding leaves it, but for the frames that have reached its buffer since (R66):
bound source and copy, clock, qr, ramp frame count and path, NO_SIGNAL, FORMAT and TUNING by the link, and in ON the auto-standby
countdown, which starts afresh where the zone is then quiet and stops otherwise (R82). `rate` is the output rate before the
binding. -/
def Zone.justTaken (r : Zone) (s : State) (selected : Option SrcId) (rate : Rate) : Prop :=
  r.bound = selected ∧ r.copy.map (·.input) = selected.map (fun i => (s.sources.get i).input) ∧
  r.copy.map (·.trim) = selected.map (fun i => (s.sources.get i).trim) ∧
  r.copy.map (·.lipSync) = selected.map (fun i => (s.sources.get i).lipSync) ∧
  r.copy.map (·.mode) = selected.map (fun i => (s.sources.get i).mode) ∧
  r.qr = none ∧ r.rampCount = 0 ∧ r.refilling = false ∧
  r.path = (if r.link.isSome then .filling else .idle) ∧ r.alloc.isSome = true ∧
  r.clockBound (r.link.map s.links.get) rate ∧
  (r.power = .on → r.countdown = if 0 < r.autoStandby ∧ r.quiet s then r.fullCountdown s else none) ∧
  ∀ l, r.link = some l →
    r.mutes.noSignal = decide ((s.links.get l).state ≠ .locked) ∧
    r.mutes.format = (s.links.get l).unplayable ∧
    r.mutes.tuning = decide (l = 8 ∧ s.tuner.state ≠ .locked)

/-- The zone is as a binding leaves it, with an empty buffer (R66). -/
def Zone.justBound (r : Zone) (s : State) (selected : Option SrcId) (rate : Rate) : Prop :=
  r.justTaken s selected rate ∧ r.buffer = []

/-- A zone keeps what it is bound to, its clock mode in effect and its output rate. -/
def Zone.bindingKept (r x : Zone) : Prop :=
  x.bound = r.bound ∧ x.copy = r.copy ∧ x.clockInEffect = r.clockInEffect ∧ x.rate = r.rate

/-- NO_SIGNAL and FORMAT of a zone on link `l` while the link is LOCKED (R71). -/
def Zone.atLockMutes (r : Zone) (s : State) (l : LinkId) : Prop :=
  r.mutes.noSignal = false ∧ r.mutes.format = (s.links.get l).unplayable

/-- What the entry of link `l` to LOCKED does to a bound zone on the link (R68, R71, R78, R79), `t` being the state after it.
NO_SIGNAL is cleared, and FORMAT says whether the new descriptor's format is 2 or 3. In LOCAL the zone keeps its clock and takes
RATE_MISMATCH by the link's rate. In FOLLOW at the link's rate its clock is LOCKED_TO_SOURCE. In FOLLOW at another rate the entry
is a rebind cause: a zone that plays with qr not SILENT fades, one that fades goes on with it, both in HOLDOVER at the rate they
have, and any other binds its selected source at once. -/
def zoneAtLock (s t : State) (l : LinkId) (z : ZoneId) : Prop :=
  (s.zones.get z).link = some l → (s.zones.get z).power.isBound = true →
  (∀ k, (((s.zones.get z).clockInEffect = .local48 ∧ k = .r48) ∨ ((s.zones.get z).clockInEffect = .local44 ∧ k = .r44)) →
    (s.zones.get z).bindingKept (t.zones.get z) ∧ (t.zones.get z).atLockMutes t l ∧
    (t.zones.get z).clockState = (s.zones.get z).clockState ∧
    (t.zones.get z).mutes.rateMismatch = decide ((s.links.get l).rate ≠ some k)) ∧
  ((s.zones.get z).clockInEffect = .follow → (s.links.get l).rate = some (s.zones.get z).rate →
    (s.zones.get z).bindingKept (t.zones.get z) ∧ (t.zones.get z).atLockMutes t l ∧
    (t.zones.get z).clockState = .lockedToSource ∧ (t.zones.get z).mutes.rateMismatch = false) ∧
  ((s.zones.get z).clockInEffect = .follow → (s.links.get l).rate ≠ some (s.zones.get z).rate →
    ((s.zones.get z).power ≠ .starting →
      ((s.zones.get z).path = .fading ∨ ((s.zones.get z).path = .playing ∧ (s.zones.get z).qr ≠ none)) →
      (s.zones.get z).bindingKept (t.zones.get z) ∧ (t.zones.get z).atLockMutes t l ∧
      (t.zones.get z).clockState = .holdover ∧ (t.zones.get z).mutes.rateMismatch = false ∧
      (t.zones.get z).path = .fading ∧ (t.zones.get z).qr = (s.zones.get z).qr) ∧
    (((s.zones.get z).power = .starting ∨ (s.zones.get z).path = .idle ∨
        ((s.zones.get z).path = .filling ∧ ((s.zones.get z).qr = none ∨ (s.zones.get z).buffer.length ≠ 63)) ∨
        ((s.zones.get z).path = .playing ∧ (s.zones.get z).qr = none)) →
      (t.zones.get z).justTaken t (s.zones.get z).selected (s.zones.get z).rate ∧
      (t.zones.get z).power = (s.zones.get z).power))

/-- What it does to a bound zone on link `l` that the link is in a state other than LOCKED in `t` (R71, R78, R79): NO_SIGNAL is set
and FORMAT follows the last good descriptor; in FOLLOW the clock state is HOLDOVER at the same output rate; in LOCAL the clock
stands, and RATE_MISMATCH says that the link is in RECOVER at another rate. The zone keeps its binding. A monitor that leaves
ACTIVE for it starts the countdown of a zone in ON with a setting above 0; one that was in NO_LINK, or in SILENT with no frame
left to deliver, leaves the countdown as it is (R34, R82). -/
def zonesOffLock (s t : State) (l : LinkId) : Prop :=
  ∀ z, (s.zones.get z).link = some l → (s.zones.get z).power.isBound = true →
    (s.zones.get z).bindingKept (t.zones.get z) ∧ (t.zones.get z).mutes.noSignal = true ∧
    (t.zones.get z).mutes.format = (t.links.get l).unplayable ∧
    ((s.monitors.get l).state = .active → (t.zones.get z).countdown =
      if (s.zones.get z).power = .on ∧ 0 < (s.zones.get z).autoStandby then (s.zones.get z).fullCountdown s
      else (s.zones.get z).countdown) ∧
    ((s.monitors.get l).state = .noLink ∨ ((s.monitors.get l).state = .silent ∧ (s.links.get l).delivery = none) →
      (t.zones.get z).countdown = (s.zones.get z).countdown) ∧
    ((s.zones.get z).clockInEffect = .follow →
      (t.zones.get z).clockState = .holdover ∧ (t.zones.get z).mutes.rateMismatch = false) ∧
    ∀ k, (((s.zones.get z).clockInEffect = .local48 ∧ k = .r48) ∨ ((s.zones.get z).clockInEffect = .local44 ∧ k = .r44)) →
      (t.zones.get z).clockState = (s.zones.get z).clockState ∧
      (t.zones.get z).mutes.rateMismatch = decide ((t.links.get l).state.carries = true ∧ (t.links.get l).rate ≠ some k)

/-! ## Panel encoders -/

/-- The pairs old and new of a clockwise quarter, in the order 00, 01, 11, 10 (R186). -/
def clockwisePairs : List ((Bool × Bool) × (Bool × Bool)) :=
  [((false, false), (false, true)), ((false, true), (true, true)), ((true, true), (true, false)), ((true, false), (false, false))]

end Sys2Proof.Machine
end

