-- ==== Sys2Proof/Certificates/Slice0/Obligations.lean ====
section
/-! DEFINITION. The statements about the model, for the provers. A statement about a request gives the whole next state where
it can: the fields it names and no other field changes. -/

section

open Sys2Proof Sys2Proof.Machine

/-! ## The step, and transactions (chapter Control Ports and Event Reporting) -/

/-- The step takes the command at the front of the queue and carries it out on the state with the queue's rest. That an empty
queue leaves the block idle is the model's choice (log 2). -/
def Obligations.StepRunsFrontCommand : Prop :=
  (∀ (c : Instr) (s : State), step (s.withCommand c) = exec c s) ∧ ∀ s : State, s.pending = [] → step s = .next s

/-- Every command is carried out: no state stops the part, and the queue is left as it is. Transactions and resets are carried
out by R194, R195 and R203. The queue is the model's own, and what a command that cannot reach the part does is the model's
choice (logs 1, 32, 36), as is it that an event of links, zones, outputs or tuner whose condition does not hold changes
nothing (log 4). -/
def Obligations.EveryCommandCompletes : Prop :=
  ∀ (c : Instr) (s : State), ∃ t, exec c s = .next t ∧ t.pending = s.pending

/-- A transaction that carries a well-formed command is read back as that command (R192, R194, section 12.6). -/
def Obligations.TransactionsDecode : Prop :=
  ∀ (i : Instr) (p : Port) (flt : Vector Bool 6) (pilot : Bool) (mosi : List Byte) (bits : Nat),
    i.wellFormed = true → i.port = some p → i.transaction = some (mosi, bits) →
    (∀ t y f, i = .getProtectionStatus p t y f → f = flt) → (∀ t y x, i = .getTunerStatus p t y x → x = pilot) →
    decodeTransaction p flt pilot mosi bits = i

/-- POLL shifts out the status byte alone, and a falling chip select latches a status byte with its three bits (R192, R193,
R195). At a port that ignores its lines the fall shows that what was ignored has ended, and a port that is selected takes none
(log 9). FETCH shifts out the record of the slot, or the NONE record, and then zeros; the slot empties when the whole record
was clocked out (R196, R197). MISO is driven exactly while chip select is low: with the status byte during byte 0, and with zeros
at a port that ignores its lines (R192; the reading of it off the port's state is log 10). -/
def Obligations.PollFetchAndSelect : Prop :=
  ((∀ (s : State) (p : Port), (s.ports.get p).line ≠ .ignoring →
     exec (.poll p) s =
       .next (s.putPort p { s.ports.get p with line := .idle, framing := false, miso := [s.status p] })) ∧
   (∀ (s : State) (p : Port), (∀ x, (s.ports.get p).line ≠ .selected x) →
     ∃ st : Byte, exec (.chipSelectFallingEdge p) s =
         .next (s.putPort p { s.ports.get p with
           line := .selected st, cut := if (s.ports.get p).line = .ignoring then none else (s.ports.get p).cut }) ∧
       st.getLsbD 7 = (s.ports.get p).slot.isSome ∧ st.getLsbD 6 = (s.ports.get p).attention ∧
       st.getLsbD 5 = (s.ports.get p).framing ∧ ∀ k < 5, st.getLsbD k = false) ∧
   ∀ (s : State) (p : Port) (x : Byte), (s.ports.get p).line = .selected x → exec (.chipSelectFallingEdge p) s = .next s) ∧
  (∀ (s : State) (p : Port) (n : Nat) (record : List Byte), (s.ports.get p).line ≠ .ignoring →
     (∀ x, s.slot p = some x →
       record = [x.tag, BitVec.ofNat 8 x.result.code, BitVec.ofNat 8 x.data.length] ++ x.data) →
     (s.slot p = none → record = [0, 255, 0]) →
     exec (.fetch p n) s = .next (s.putPort p { s.ports.get p with
       line := .idle, framing := false, miso := s.status p :: (record ++ List.replicate n 0).take n
       slot := if record.length ≤ n then none else s.slot p })) ∧
  ∀ (s : State) (p : Port),
    ((s.ports.get p).line = .idle → s.outputs.miso p = none) ∧
    (∀ x, (s.ports.get p).line = .selected x → s.outputs.miso p = some x) ∧
    ((s.ports.get p).line = .ignoring → s.outputs.miso p = some 0)

/-- READ_EVENTS reports the port's copy, masked and unmasked flags alike, and clears it whole; nothing else changes but the
port; another payload length is refused with LENGTH. The eight bytes of a report hold each flag at its place and the group
summary, and no other bit is 1 (R200). -/
def Obligations.ReadEventsEffect : Prop :=
  (∀ (s : State) (p : Port) (tag : Byte), Ready s p →
     exec (.readEvents p tag []) s =
       .next ((s.putPort p { s.ports.get p with flags := Vector.replicate 26 false }).answered p (s.status p) tag 0 .ok
         (eventReport (s.ports.get p).flags))) ∧
  (∀ (s : State) (p : Port) (tag : Byte) (payload : List Byte), Ready s p → payload ≠ [] → payload.length ≤ 250 →
     exec (.readEvents p tag payload) s = .next (s.answered p (s.status p) tag payload.length .length [])) ∧
  (∀ v : Vector Bool 26,
     (eventReport v).length = 8 ∧
     (∀ l : LinkId, l.1 < 8 → ((eventReport v).getD 1 0).getLsbD l.1 = v.get (Flag.link l).index) ∧
     ((eventReport v).getD 2 0).getLsbD 0 = v.get (Flag.link 8).index ∧
     (∀ z : ZoneId, ((eventReport v).getD 3 0).getLsbD z.1 = v.get (Flag.zone z).index) ∧
     (∀ u : UnitId, ((eventReport v).getD 4 0).getLsbD u.1 = v.get (Flag.du u).index) ∧
     ((eventReport v).getD 5 0).getLsbD 0 = v.get Flag.tunerDone.index ∧
     ((eventReport v).getD 5 0).getLsbD 1 = v.get Flag.tunerLock.index ∧
     ((eventReport v).getD 5 0).getLsbD 2 = v.get Flag.presets.index ∧
     (∀ q : PairId, ((eventReport v).getD 6 0).getLsbD q.1 = v.get (Flag.pair q).index) ∧
     ((eventReport v).getD 7 0).getLsbD 0 = v.get Flag.signal.index ∧
     ((eventReport v).getD 7 0).getLsbD 1 = v.get Flag.limited.index ∧
     ((eventReport v).getD 7 0).getLsbD 2 = v.get Flag.reset.index ∧
     ((eventReport v).getD 0 0).getLsbD 0 = linkIds.any (fun l => v.get (Flag.link l).index) ∧
     ((eventReport v).getD 0 0).getLsbD 1 = zoneIds.any (fun z => v.get (Flag.zone z).index) ∧
     ((eventReport v).getD 0 0).getLsbD 2 = unitIds.any (fun u => v.get (Flag.du u).index) ∧
     ((eventReport v).getD 0 0).getLsbD 3 =
       (v.get Flag.tunerDone.index || v.get Flag.tunerLock.index || v.get Flag.presets.index) ∧
     ((eventReport v).getD 0 0).getLsbD 4 = pairIds.any (fun q => v.get (Flag.pair q).index) ∧
     ((eventReport v).getD 0 0).getLsbD 5 =
       (v.get Flag.signal.index || v.get Flag.limited.index || v.get Flag.reset.index) ∧
     (∀ k < 8, (6 ≤ k → ((eventReport v).getD 0 0).getLsbD k = false) ∧ (1 ≤ k → ((eventReport v).getD 2 0).getLsbD k = false) ∧
       (3 ≤ k → ((eventReport v).getD 3 0).getLsbD k = false) ∧ (2 ≤ k → ((eventReport v).getD 4 0).getLsbD k = false) ∧
       (3 ≤ k → ((eventReport v).getD 5 0).getLsbD k = false) ∧ (6 ≤ k → ((eventReport v).getD 6 0).getLsbD k = false) ∧
       (3 ≤ k → ((eventReport v).getD 7 0).getLsbD k = false)))

/-- SET_EVENT_MASK replaces the port's mask set by the seven bytes and answers it, the ignored bits as 0, GET_EVENT_MASK returns
it, and neither touches the other port or a flag; the bytes of a mask set are data bytes 1 to 7 of a report (R201). Another
payload length is refused with LENGTH (R194, section 12.6). Attention follows from flags and masks as they stand (R202). -/
def Obligations.EventMaskEffects : Prop :=
  (∀ (s : State) (p : Port) (tag : Byte) (payload : List Byte), Ready s p → payload.length = 7 →
    ∃ m : Vector Bool 26,
      exec (.setEventMask p tag payload) s =
        .next ((s.putPort p { s.ports.get p with masks := m }).answered p (s.status p) tag 7 .ok (flagBytes m)) ∧
      (∀ l : LinkId, l.1 < 8 → m.get (Flag.link l).index = (payload.getD 0 0).getLsbD l.1) ∧
      m.get (Flag.link 8).index = (payload.getD 1 0).getLsbD 0 ∧
      (∀ z : ZoneId, m.get (Flag.zone z).index = (payload.getD 2 0).getLsbD z.1) ∧
      (∀ u : UnitId, m.get (Flag.du u).index = (payload.getD 3 0).getLsbD u.1) ∧
      m.get Flag.tunerDone.index = (payload.getD 4 0).getLsbD 0 ∧
      m.get Flag.tunerLock.index = (payload.getD 4 0).getLsbD 1 ∧
      m.get Flag.presets.index = (payload.getD 4 0).getLsbD 2 ∧
      (∀ q : PairId, m.get (Flag.pair q).index = (payload.getD 5 0).getLsbD q.1) ∧
      m.get Flag.signal.index = (payload.getD 6 0).getLsbD 0 ∧ m.get Flag.limited.index = (payload.getD 6 0).getLsbD 1 ∧
      m.get Flag.reset.index = (payload.getD 6 0).getLsbD 2) ∧
  (∀ (s : State) (p : Port) (tag : Byte), Ready s p →
    exec (.getEventMask p tag []) s = .next (s.answered p (s.status p) tag 0 .ok (flagBytes (s.ports.get p).masks))) ∧
  (∀ (s : State) (p : Port) (tag : Byte) (payload : List Byte), Ready s p → payload.length ≤ 250 →
    (payload.length ≠ 7 →
      exec (.setEventMask p tag payload) s = .next (s.answered p (s.status p) tag payload.length .length [])) ∧
    (payload ≠ [] →
      exec (.getEventMask p tag payload) s = .next (s.answered p (s.status p) tag payload.length .length []))) ∧
  (∀ m : Vector Bool 26, flagBytes m = (eventReport m).drop 1) ∧
  ∀ r : PortState, r.attention = true ↔ ∃ i, r.flags.get i = true ∧ r.masks.get i = false

/-- A code outside the command table is answered UNKNOWN (R194), and a malformed transaction sets FRAMING and leaves the slot,
the flags, the masks and everything outside the port as they were (R195). A request taken while RESPONSE_PENDING stands in
the status byte of its transaction is discarded: the slot keeps its response, FRAMING is cleared, and nothing outside the
port changes (R194, step 2). A transaction at a port that ignores its lines is not taken: it changes nothing but that the
port ignores them no longer, and MISO carries zeros, or, where a soft reset discarded the transaction, the bytes it shifted
out before and zeros from the byte on at which the reset was taken (R203, R204; how many bytes were clocked is log 41, a free
value). That the next transaction row at such a port stands for the end of what was ignored, so that nothing of it is taken,
is the model's choice (log 9), and so is what the model keeps as the MISO bytes of it, the zeros and byte 0 among them
(log 10). -/
def Obligations.UnknownMalformedPending : Prop :=
  ((∀ (s : State) (p : Port) (code tag : Byte) (payload : List Byte), Ready s p → payload.length ≤ 250 →
     codeListed code = false →
     exec (.unknownCommand p code tag payload) s =
       .next (s.answered p (s.status p) tag payload.length .unknown [])) ∧
   ∀ (s : State) (p : Port) (mosi : List Byte) (bits : Nat), (s.ports.get p).line ≠ .ignoring →
     isMalformed mosi bits = true →
     ∃ out, exec (.malformedTransaction p mosi bits) s =
       .next (s.putPort p { s.ports.get p with line := .idle, framing := true, miso := out })) ∧
  (∀ (c : Instr) (s : State) (p : Port) (code : Nat) (tag : Byte) (payload : List Byte),
     c.port = some p → c.request = some (code, tag, payload) → payload.length ≤ 250 → (s.ports.get p).line ≠ .ignoring →
     (s.status p).getLsbD 7 = true →
     exec c s = .next (s.putPort p { s.ports.get p with
       line := .idle, framing := false, miso := s.status p :: List.replicate (2 + payload.length) 0 })) ∧
  ((∀ (c : Instr) (s : State) (p : Port) (code : Nat) (tag : Byte) (payload : List Byte),
      c.port = some p → c.request = some (code, tag, payload) → (s.ports.get p).line = .ignoring →
      ∃ out : List Byte, out.length = 3 + payload.length ∧ (∀ k, 1 ≤ k → out.getD k 0 = 0) ∧
        ((s.ports.get p).cut = none → out.getD 0 0 = 0) ∧
        (∀ x, (s.ports.get p).cut = some x → out.getD 0 0 = if 0 < x.clocked then x.status else 0) ∧
        exec c s = .next (s.putPort p { s.ports.get p with line := .idle, cut := none, miso := out })) ∧
   (∀ (s : State) (p : Port) (mosi : List Byte) (bits : Nat), (s.ports.get p).line = .ignoring → isMalformed mosi bits = true →
      ∃ out : List Byte, out.length = mosi.length ∧ ((s.ports.get p).cut = none → ∀ k, out.getD k 0 = 0) ∧
        (∀ x k, (s.ports.get p).cut = some x → x.clocked ≤ k → out.getD k 0 = 0) ∧
        exec (.malformedTransaction p mosi bits) s =
          .next (s.putPort p { s.ports.get p with line := .idle, cut := none, miso := out })) ∧
   (∀ (s : State) (p : Port) (n : Nat), (s.ports.get p).line = .ignoring → (s.ports.get p).cut = none →
      exec (.poll p) s = .next (s.putPort p { s.ports.get p with line := .idle, miso := [0] }) ∧
      exec (.fetch p n) s = .next (s.putPort p { s.ports.get p with line := .idle, miso := List.replicate (1 + n) 0 })) ∧
   ∀ (s : State) (p : Port) (n : Nat) (x : CutTransaction), (s.ports.get p).line = .ignoring → (s.ports.get p).cut = some x →
     exec (.poll p) s = .next (s.putPort p { s.ports.get p with
       line := .idle, cut := none, miso := [if 0 < x.clocked then x.status else 0] }) ∧
     ∃ out : List Byte, out.length = 1 + n ∧ (∀ k, x.clocked ≤ k → out.getD k 0 = 0) ∧
       (∀ k, k < x.clocked → k ≤ n → out.getD k 0 = (x.status :: x.record).getD k 0) ∧
       exec (.fetch p n) s = .next (s.putPort p { s.ports.get p with line := .idle, cut := none, miso := out }))

/-- A soft reset: what every block holds after it, the configuration it keeps, and what it does at both ports (R204 with R24,
R29, R37, R58, R87, R107, R118, R135, R148, R158, R183, R191). Of a transaction that it discards the port keeps what its
remaining bytes follow from (log 41). The values that the spec does not give, such as the values of a FREE unit and the marks
of what a unit owes, are the model's choice (log 33), as is it that no snapshot is due (log 43). -/
def Obligations.DeviceResetEffect : Prop :=
  ∀ (s : State) (p : Port) (tag : Byte), Ready s p →
    ∃ t, exec (.deviceReset p tag []) s = .next t ∧ blocksReset t ∧
      t.slot p = some { tag := tag, result := .ok, data := [] } ∧ t.slot (otherPort p) = none ∧
      (∀ q, (t.ports.get q).framing = false ∧ (t.ports.get q).masks = (s.ports.get q).masks ∧ resetAlone (t.ports.get q)) ∧
      (t.ports.get p).line = .idle ∧
      ((t.ports.get (otherPort p)).line = if (s.ports.get (otherPort p)).line = .idle then .idle else .ignoring) ∧
      (∀ st, (s.ports.get (otherPort p)).line = .selected st → ∃ n, (t.ports.get (otherPort p)).cut = some
        { status := st, clocked := n, record := match s.slot (otherPort p) with
            | some x => [x.tag, BitVec.ofNat 8 x.result.code, BitVec.ofNat 8 x.data.length] ++ x.data
            | none => [0, 255, 0] }) ∧
      t.ms = s.ms ∧ t.snapshotDue = false ∧ t.sources = s.sources ∧ t.speakers = s.speakers ∧
      (∀ l, (t.links.get l).enabled = (s.links.get l).enabled ∧ (t.links.get l).lossWindow = (s.links.get l).lossWindow ∧
        (t.links.get l).state = if (s.links.get l).enabled then .detectQuiet else .disabled) ∧
      (∀ z, (t.zones.get z).selected = (s.zones.get z).selected ∧
        (t.zones.get z).resolution = (s.zones.get z).resolution ∧ (t.zones.get z).minPulse = (s.zones.get z).minPulse) ∧
      (∀ q, (t.pairs.get q).dcTime = (s.pairs.get q).dcTime ∧ (t.pairs.get q).retryLimit = (s.pairs.get q).retryLimit) ∧
      (t.tuner.fm = s.tuner.fm ∧ t.tuner.am = s.tuner.am ∧ t.tuner.fmCal = s.tuner.fmCal ∧ t.tuner.amCal = s.tuner.amCal ∧
        t.tuner.presets = s.tuner.presets ∧ t.tuner.band = s.tuner.band ∧ t.tuner.target = s.tuner.target) ∧
      (t.tuner.state = if (s.tuner.cal s.tuner.band).isEmpty then .off else .unlocked) ∧
      ((s.tuner.cal s.tuner.band).isEmpty = true → t.tuner.dac = s.tuner.dac) ∧
      (∀ d, coarse (s.tuner.cal s.tuner.band) s.tuner.target = some d → t.tuner.dac = d) ∧
      ∀ e, (t.encoders.get e).binding = (s.encoders.get e).binding ∧ (t.encoders.get e).raw = (s.encoders.get e).raw

/-- A power-on reset leaves the values that the chapters name, RESET alone in both copies, and no mask (R203 with R24, R29, R37,
R58, R87, R107, R118, R134, R148, R158, R183, R191). The values that the spec does not give, such as the values of a FREE unit
and the marks of what a unit owes, are the model's choice (log 33), as is it that no snapshot is due (log 43). -/
def Obligations.PowerOnResetEffect : Prop :=
  ∀ (s : State) (pins : Pins),
    ∃ t, exec (.powerOnReset pins) s = .next t ∧ blocksReset t ∧ t.ms = 0 ∧ t.snapshotDue = false ∧
      (∀ q, (t.ports.get q).slot = none ∧ (t.ports.get q).framing = false ∧ (t.ports.get q).masks = Vector.replicate 26 false ∧
        resetAlone (t.ports.get q)) ∧
      (t.ports.cpa.line = if pins.csLowA then .ignoring else .idle) ∧
      (t.ports.cpb.line = if pins.csLowB then .ignoring else .idle) ∧
      (∀ l, (t.links.get l).enabled = true ∧ (t.links.get l).state = .detectQuiet ∧ (t.links.get l).lossWindow = 4) ∧
      (∀ i : SrcId, t.sources.get i =
        { input := if h : i.1 < 9 then some ⟨i.1, h⟩ else none, trim := 0, lipSync := 0, autoOn := false, mode := .auto,
          label := BitVec.ofNat 8 i.1 }) ∧
      ((t.zones.get 0).selected = some 0 ∧ (t.zones.get 1).selected = none ∧ (t.zones.get 2).selected = none) ∧
      (∀ z, (t.zones.get z).resolution = 9 ∧ (t.zones.get z).minPulse = 2) ∧
      (∀ c, t.speakers.get c =
        { zone := none, position := posFL, bridged := false, trim := 0, delay := 0, inverted := false }) ∧
      (∀ q, (t.pairs.get q).dcTime = 100 ∧ (t.pairs.get q).retryLimit = 4) ∧
      t.tuner.fm = { step := 100, threshold := 100, stereoOnly := false } ∧
      t.tuner.am = { step := 9, threshold := 80, stereoOnly := false } ∧ t.tuner.fmCal = [] ∧ t.tuner.amCal = [] ∧
      t.tuner.state = .off ∧ t.tuner.band = .fm ∧ t.tuner.target = 87500 ∧ t.tuner.dac = 0 ∧ t.tuner.presets = [] ∧
      (t.encoders.get 0).binding = .volume 0 ∧ (t.encoders.get 1).binding = .tune

/-- A request of the command table whose payload has another length than its row of section 12.6 gives is answered LENGTH and
changes nothing (R194). A request whose one operand is an index or a code out of range is answered RANGE and changes nothing
(R11, R20, R22, R28, R36, R65, R85, R106, R122, R132, R143, R145, R154, R155, R172, R181, R188), and so is one of several
operands one of which is out of range (R21, R26, R69, R77, R83, R123, R145, R150, R160, R161, R164, R180, R188), an index
beyond the preset list, and a LOAD_PRESETS with a frequency outside its band's edges (R178, R179, R180). TONE_START of a zone
that is not ON or has no speaker, TONE_NEXT of an idle sequencer and RECALL_PRESET of an entry whose band has no calibration
table are refused with REFUSED_STATE (R150, R154, R164, R179), STORE_PRESET out of LOCKED with NOT_LOCKED (R178), and
LOAD_PRESETS of one station twice with DUPLICATE (R180). Each changes nothing but the port. That SET_MODULATOR carries W as the
number 7, 8 or 9, so that any other byte is out of range, is the model's choice (log 16), as is it that RANGE comes before the
REFUSED_STATE of a SEEK in OFF and before the DUPLICATE of a LOAD_PRESETS, for which R172 and R180 fix no order (log 44). -/
def Obligations.WrongOperandsRefused : Prop :=
  (∀ (c : Instr) (s : State) (p : Port) (code : Nat) (tag : Byte) (payload : List Byte),
     c.port = some p → c.request = some (code, tag, payload) → payload.length ≤ 250 → lengthAccepted code payload = false →
     Ready s p → exec c s = .next (s.answered p (s.status p) tag payload.length .length [])) ∧
  (∀ (c : Instr) (s : State) (p : Port) (code n : Nat) (tag b : Byte),
     c.port = some p → c.request = some (code, tag, [b]) → indexBound code = some n → n ≤ b.toNat → Ready s p →
     exec c s = .next (s.answered p (s.status p) tag 1 .range [])) ∧
  (∀ (c : Instr) (s : State) (p : Port) (code : Nat) (tag : Byte) (payload : List Byte),
     c.port = some p → c.request = some (code, tag, payload) → payload.length ≤ 250 → lengthAccepted code payload = true →
     operandsOutOfRange code payload = true → Ready s p →
     exec c s = .next (s.answered p (s.status p) tag payload.length .range [])) ∧
  ((∀ (s : State) (p : Port) (tag zb pb mb db : Byte) (z : ZoneId), Ready s p → zb.toNat = z.1 → pb.toNat < 2 →
      mb.toNat < 2 → ((s.zones.get z).power ≠ .on ∨ ∀ c, (s.speakers.get c).zone ≠ some z) →
      exec (.toneStart p tag [zb, pb, mb, db]) s = .next (s.answered p (s.status p) tag 4 .refusedState [])) ∧
   ∀ (s : State) (p : Port) (tag zb : Byte) (z : ZoneId), Ready s p → zb.toNat = z.1 →
      (s.zones.get z).tone.running = false →
      exec (.toneNext p tag [zb]) s = .next (s.answered p (s.status p) tag 1 .refusedState [])) ∧
  ((∀ (s : State) (p : Port) (tag ib : Byte), Ready s p →
      (s.tuner.presets.length < ib.toNat ∨ (ib.toNat = s.tuner.presets.length ∧ ib.toNat = 40)) →
      exec (.storePreset p tag [ib]) s = .next (s.answered p (s.status p) tag 1 .range [])) ∧
   (∀ (s : State) (p : Port) (tag ib : Byte), Ready s p → ib.toNat ≤ s.tuner.presets.length → ib.toNat < 40 →
      s.tuner.state ≠ .locked →
      exec (.storePreset p tag [ib]) s = .next (s.answered p (s.status p) tag 1 .notLocked [])) ∧
   (∀ (s : State) (p : Port) (tag ib : Byte), Ready s p → s.tuner.presets.length ≤ ib.toNat →
      exec (.recallPreset p tag [ib]) s = .next (s.answered p (s.status p) tag 1 .range []) ∧
      exec (.erasePreset p tag [ib]) s = .next (s.answered p (s.status p) tag 1 .range [])) ∧
   ∀ (s : State) (p : Port) (tag ib : Byte) (e : Preset), Ready s p → s.tuner.presets[ib.toNat]? = some e →
      s.tuner.cal e.band = [] →
      exec (.recallPreset p tag [ib]) s = .next (s.answered p (s.status p) tag 1 .refusedState [])) ∧
  ∀ (s : State) (p : Port) (tag nb : Byte) (rest : List Byte) (ps : List Preset), Ready s p → nb.toNat ≤ 40 →
    rest.length = 5 * nb.toNat → readPresets rest = some ps →
    ((∃ x ∈ ps, x.frequency < lowEdge x.band (s.tuner.record x.band).step ∨
        highEdge x.band (s.tuner.record x.band).step < x.frequency) →
      exec (.loadPresets p tag (nb :: rest)) s = .next (s.answered p (s.status p) tag (1 + rest.length) .range [])) ∧
    ((∀ x ∈ ps, lowEdge x.band (s.tuner.record x.band).step ≤ x.frequency ∧
        x.frequency ≤ highEdge x.band (s.tuner.record x.band).step) →
      ¬ps.Pairwise (fun x y => (x.band, x.frequency) ≠ (y.band, y.frequency)) →
      exec (.loadPresets p tag (nb :: rest)) s = .next (s.answered p (s.status p) tag (1 + rest.length) .duplicate []))

/-- Flags reach both copies alike: any command but a READ_EVENTS or a reset sets one set of flags in both copies and clears
none, and a READ_EVENTS on one port leaves the other port's copy as it is. Of a flag and a READ_EVENTS that meet, the order of
the two commands decides: the statement holds for each in turn (R199). -/
def Obligations.FlagsReachBothPorts : Prop :=
  (∀ (c : Instr) (s t : State), exec c s = .next t → (∀ p tag y, c ≠ .readEvents p tag y) →
    (∀ p tag y, c ≠ .deviceReset p tag y) → (∀ pins, c ≠ .powerOnReset pins) → flagsAdded s t) ∧
  ∀ (s t : State) (p : Port) (tag : Byte) (payload : List Byte), exec (.readEvents p tag payload) s = .next t →
    t.ports.get (otherPort p) = s.ports.get (otherPort p)

/-- A command on one port, and a command on none, leave the other port's line, slot, masks, FRAMING and MISO bytes as they
are, unless it resets the part (R192, R199, R201, R203, R204). -/
def Obligations.OtherPortKept : Prop :=
  ∀ (c : Instr) (s t : State) (p : Port), exec c s = .next t → c.port ≠ some p → (∀ q tag y, c ≠ .deviceReset q tag y) →
    (∀ pins, c ≠ .powerOnReset pins) → portKept s t p

/-! ## Audio input links, sensing, source table -/

/-- GET_LINK_STATUS, GET_ACTIVITY and GET_DECODE_STATUS answer the records as they stand and change nothing; the bytes are laid
out as log 16 says (R22, R36, R56). -/
def Obligations.LinkReports : Prop :=
  (∀ (s : State) (p : Port) (tag lb : Byte) (l : LinkId), Ready s p → lb.toNat = l.1 →
    exec (.getLinkStatus p tag [lb]) s =
      .next (s.answered p (s.status p) tag 1 .ok (linkRecord (s.links.get l) (servingUnit s l))) ∧
    exec (.getActivity p tag [lb]) s =
      .next (s.answered p (s.status p) tag 1 .ok (activityRecord (s.monitors.get l) s.ms))) ∧
  ∀ (s : State) (p : Port) (tag : Byte), Ready s p →
    exec (.getDecodeStatus p tag []) s = .next (s.answered p (s.status p) tag 0 .ok (decodeRecord s))

/-- DISABLE_LINK takes a link to DISABLED with nothing kept of what it received, ENABLE_LINK takes a DISABLED link to
DETECT.QUIET; both answer OK, and in a link already there change nothing but the enable setting, with the LINK flag where that
setting changes (R11, R23). The zones bound to a source on a link that changes state keep their binding and output rate, with
NO_SIGNAL set and, in FOLLOW, in HOLDOVER; where the monitor of the link leaves ACTIVE by it, their countdown starts in ON (R34,
R71, R78, R79, R82). -/
def Obligations.EnableDisableLink : Prop :=
  ((∀ (s : State) (p : Port) (tag lb : Byte) (l : LinkId), Ready s p → lb.toNat = l.1 → (s.links.get l).state ≠ .disabled →
     ∃ t, exec (.disableLink p tag [lb]) s = .next t ∧ t.slot p = some { tag := tag, result := .ok, data := [] } ∧
       (t.links.get l).enabled = false ∧ (t.links.get l).state = .disabled ∧ (t.links.get l).cleared ∧
       (t.links.get l).lossTimer = none ∧ (∀ n, (t.links.get l).hold.get n = .zero) ∧ (t.monitors.get l).state = .noLink ∧
       (t.links.get l).lossWindow = (s.links.get l).lossWindow ∧ (t.links.get l).counters = (s.links.get l).counters ∧
       (∀ k, (t.ports.get k).flags.get (Flag.link l).index = true) ∧ zonesOffLock s t l ∧ linkFrameKept s t l) ∧
   ∀ (s : State) (p : Port) (tag lb : Byte) (l : LinkId), Ready s p → lb.toNat = l.1 → (s.links.get l).state = .disabled →
     exec (.disableLink p tag [lb]) s =
       .next ({ s with
         links := setAt s.links l { s.links.get l with enabled := false }
         ports := s.ports.raiseIf (s.links.get l).enabled (.link l) }.answered p (s.status p) tag 1 .ok [])) ∧
  ((∀ (s : State) (p : Port) (tag lb : Byte) (l : LinkId), Ready s p → lb.toNat = l.1 → (s.links.get l).state = .disabled →
     ∃ t, exec (.enableLink p tag [lb]) s = .next t ∧ t.slot p = some { tag := tag, result := .ok, data := [] } ∧
       t.links.get l = { s.links.get l with enabled := true, state := .detectQuiet } ∧ (t.monitors.get l).state = .noLink ∧
       (∀ k, (t.ports.get k).flags.get (Flag.link l).index = true) ∧ zonesOffLock s t l ∧ linkFrameKept s t l) ∧
   ∀ (s : State) (p : Port) (tag lb : Byte) (l : LinkId), Ready s p → lb.toNat = l.1 → (s.links.get l).state ≠ .disabled →
     exec (.enableLink p tag [lb]) s =
       .next ({ s with
         links := setAt s.links l { s.links.get l with enabled := true }
         ports := s.ports.raiseIf (!(s.links.get l).enabled) (.link l) }.answered p (s.status p) tag 1 .ok []))

/-- GET_SOURCE answers the six fields of the entry as they stand and changes nothing; an index outside 0 to 15 is refused with
RANGE, and another length with LENGTH (R28). -/
def Obligations.GetSourceRule : Prop :=
  (∀ (s : State) (p : Port) (tag ib : Byte) (i : SrcId) (e : SourceEntry), Ready s p → ib.toNat = i.1 →
    e = s.sources.get i →
    exec (.getSource p tag [ib]) s =
      .next (s.answered p (s.status p) tag 1 .ok
        [BitVec.ofNat 8 ((e.input.map Fin.val).getD 255), BitVec.ofInt 8 e.trim, BitVec.ofNat 8 (e.lipSync / 65536),
          BitVec.ofNat 8 (e.lipSync / 256), BitVec.ofNat 8 e.lipSync, if e.autoOn then 1 else 0,
          (match e.mode with
            | .auto => 0
            | .direct => 1
            | .stereo => 2
            | .upmix => 3),
          e.label])) ∧
  (∀ (s : State) (p : Port) (tag ib : Byte), Ready s p → 16 ≤ ib.toNat →
    exec (.getSource p tag [ib]) s = .next (s.answered p (s.status p) tag 1 .range [])) ∧
  ∀ (s : State) (p : Port) (tag : Byte) (payload : List Byte), Ready s p → payload.length ≠ 1 → payload.length ≤ 250 →
    exec (.getSource p tag payload) s = .next (s.answered p (s.status p) tag payload.length .length [])

/-- CLEAR_COUNTERS clears the four totals of one link and nothing else; GET_LINK_COUNTERS answers the four totals and the four
snapshots; both refuse another index with RANGE and another length with LENGTH (R20). -/
def Obligations.CounterRequests : Prop :=
  (∀ (s : State) (p : Port) (tag lb : Byte) (l : LinkId), Ready s p → lb.toNat = l.1 →
    exec (.clearCounters p tag [lb]) s =
      .next ({ s with
        links := setAt s.links l { s.links.get l with
          counters :=
            { code := { (s.links.get l).counters.code with total := 0 }
              descriptor := { (s.links.get l).counters.descriptor with total := 0 }
              sequence := { (s.links.get l).counters.sequence with total := 0 }
              bsf := { (s.links.get l).counters.bsf with total := 0 } } } }.answered p (s.status p) tag 1 .ok [])) ∧
  (∀ (s : State) (p : Port) (tag lb : Byte) (l : LinkId) (c : LinkCounters), Ready s p → lb.toNat = l.1 →
    c = (s.links.get l).counters →
    exec (.getLinkCounters p tag [lb]) s =
      .next (s.answered p (s.status p) tag 1 .ok
        ([c.code.total, c.descriptor.total, c.sequence.total, c.bsf.total, c.code.snapshot, c.descriptor.snapshot,
          c.sequence.snapshot, c.bsf.snapshot].flatMap u16))) ∧
  (∀ (s : State) (p : Port) (tag lb : Byte), Ready s p → 9 ≤ lb.toNat →
    exec (.clearCounters p tag [lb]) s = .next (s.answered p (s.status p) tag 1 .range []) ∧
    exec (.getLinkCounters p tag [lb]) s = .next (s.answered p (s.status p) tag 1 .range [])) ∧
  ∀ (s : State) (p : Port) (tag : Byte) (payload : List Byte), Ready s p → payload.length ≠ 1 → payload.length ≤ 250 →
    exec (.clearCounters p tag payload) s = .next (s.answered p (s.status p) tag payload.length .length []) ∧
    exec (.getLinkCounters p tag payload) s = .next (s.answered p (s.status p) tag payload.length .length [])

/-- SET_LINK_OPTIONS sets the loss window, clamped to 1 to 32 ms, and leaves a window that runs as it started (R21, R23); that
the OK answer carries the value too is read from R196 (log 15). The snapshot of a whole second moves every current-second
count into its snapshot and changes nothing else, no flag among it (R19, R23). It is taken once for each whole second: where
none is due, nothing happens. That the command which takes it comes within the millisecond of the whole second, and that the end
of that millisecond takes it otherwise, is the model's choice (log 43), which IterationEvents states. -/
def Obligations.LinkOptionsAndSnapshot : Prop :=
  (∀ (s : State) (p : Port) (tag lb wb : Byte) (l : LinkId) (w : Nat), Ready s p → lb.toNat = l.1 →
     w = max 1 (min 32 wb.toNat) →
     exec (.setLinkOptions p tag [lb, wb]) s =
       .next ({ s with
         links := setAt s.links l { s.links.get l with lossWindow := w }
         ports := s.ports.raiseIf (decide ((s.links.get l).lossWindow ≠ w)) (.link l) }.answered p (s.status p) tag 2
         (okIf (decide (w = wb.toNat))) [BitVec.ofNat 8 w])) ∧
  (∀ s : State, s.snapshotDue = false → exec .counterSnapshot s = .next s) ∧
  (∀ s : State, s.snapshotDue = true →
     ∃ t, exec .counterSnapshot s = .next t ∧ t = { s with links := t.links, snapshotDue := false } ∧
     ∀ l : LinkId, t.links.get l = { s.links.get l with
       counters :=
         { code := { (s.links.get l).counters.code with
             snapshot := (s.links.get l).counters.code.second, second := 0 }
           descriptor := { (s.links.get l).counters.descriptor with
             snapshot := (s.links.get l).counters.descriptor.second, second := 0 }
           sequence := { (s.links.get l).counters.sequence with
             snapshot := (s.links.get l).counters.sequence.second, second := 0 }
           bsf := { (s.links.get l).counters.bsf with snapshot := (s.links.get l).counters.bsf.second, second := 0 } } })

/-- The slot of a PCM frame (R2, R3, R5): an odd count of ones is a parity error, and then, as in a frame that is not well
formed, the hold register is delivered and kept; otherwise bits 31 to 8 are delivered when V is 1 and zero when V is 0, and
the hold register takes what is delivered. The register delivers the sample it took, and zero after it was cleared. That this
holds of a frame that is not well formed and came before the entry to LOCKED too is the model's choice (log 45). -/
def Obligations.PcmSlotRule : Prop :=
  ∀ (f : RawFrame) (n : Fin 8) (h : Hold),
    Hold.zero.asSample = 0 ∧ (∀ x, (Hold.sample x).asSample = x) ∧
    (f.wellFormed = false → pcmSlot f n h = ((h.asSample, h), false)) ∧
    (f.wellFormed = true → ((List.range 32).filter fun i => (f.slots.get n).getLsbD i).length % 2 = 1 →
      pcmSlot f n h = ((h.asSample, h), true)) ∧
    (f.wellFormed = true → ((List.range 32).filter fun i => (f.slots.get n).getLsbD i).length % 2 = 0 →
      let v : Sample := if (f.slots.get n).getLsbD 7 then (f.slots.get n).extractLsb' 8 24 else 0
      pcmSlot f n h = ((v, .sample v), false))

/-- A link from rest to LOCKED and back, by its state. DISABLED takes no frame, the first edge in DETECT.QUIET moves the link to
DETECT.ACTIVE with a count of 1, and each further edge counts, the sixteenth moving it to MEASURE.COUNTING (R11, R12, R17, R23).
The expiries of the alignment and the recovery timer take the link to MEASURE.COUNTING, a loss of signal takes it to
DETECT.QUIET; rate, descriptor and blocks are given up (R12, R14, R16, R17). An expiry of a timer that has time left, because an
edge restarted it, does not happen (R17; for the alignment and the recovery timer log 4). A measurement counts 64 frames; when
all are well formed and match a rate the link enters ALIGN.SEEK_BLOCK with that rate and the alignment timer at 100 ms,
otherwise MEASURE.UNRECOGNISED with rate NONE and the next measurement begun (R13, R14). In ALIGN and RECOVER a long sync starts
a block and the frames that follow join it; what a complete block does is decided by its descriptor: two good ones in sequence
lock the link from ALIGN, one good one from RECOVER (R14, R16). The descriptor of a block is read from the S bits of slots 0 and
1 of its 64 frames, most significant bit first; it is in error by the four checks, and otherwise its fields are those of the
layout, a DRC above 48 taken as 48 (R6, R7, R8). The zones bound to a source on the link take its entry to LOCKED and its loss
of signal, rate or lock with NO_SIGNAL, FORMAT by the last good descriptor, their clock and RATE_MISMATCH; a monitor that leaves
ACTIVE by it starts their countdown in ON; and an entry to LOCKED at another rate than that of a zone in FOLLOW is a rebind
cause (R68, R71, R78, R79, R82). That DETECT_COUNT_REACHED and RATE_MEASUREMENT act at any count in DETECT.ACTIVE and at any
measurement in MEASURE is the model's choice (log 5). -/
def Obligations.LinkAcquisition : Prop :=
  ((∀ (s : State) (l : LinkId) (f : LinkFrame), (s.links.get l).state = .disabled → exec (.linkFrame l f) s = .next s) ∧
   ∀ (s : State) (l : LinkId) (f : LinkFrame), (s.links.get l).state = .detectQuiet →
     exec (.linkFrame l f) s = .next { s with
       links := setAt s.links l { s.links.get l with
         state := .detectActive, detectCount := 1
         lossTimer := some { start := s.ms, len := (s.links.get l).lossWindow } }
       ports := s.ports.raise (.link l) }) ∧
  ((∀ (s : State) (l : LinkId) (f : LinkFrame), (s.links.get l).state = .detectActive → (s.links.get l).detectCount < 15 →
     exec (.linkFrame l f) s = .next { s with links := setAt s.links l { s.links.get l with
       detectCount := (s.links.get l).detectCount + 1
       lossTimer := some { start := s.ms, len := (s.links.get l).lossWindow } } }) ∧
   (∀ (s : State) (l : LinkId) (f : LinkFrame), (s.links.get l).state = .detectActive → 15 ≤ (s.links.get l).detectCount →
     exec (.linkFrame l f) s = exec (.detectCountReached l) s) ∧
   (∀ (s : State) (l : LinkId) (f : LinkFrame), (s.links.get l).state.isMeasure = true → (s.links.get l).measurement = none →
     exec (.linkFrame l f) s = .next { s with links := setAt s.links l { s.links.get l with
       measurement := some { edges := 0, ticks := 0, allWellFormed := true }
       lossTimer := some { start := s.ms, len := (s.links.get l).lossWindow } } }) ∧
   (∀ (s : State) (l : LinkId) (f : LinkFrame) (m : Measurement), (s.links.get l).state.isMeasure = true →
     (s.links.get l).measurement = some m → m.edges < 63 →
     exec (.linkFrame l f) s = .next { s with links := setAt s.links l { s.links.get l with
       measurement := some { edges := m.edges + 1, ticks := m.ticks + f.ticks
                             allWellFormed := m.allWellFormed && decide (f.data.length = 256) }
       lossTimer := some { start := s.ms, len := (s.links.get l).lossWindow } } }) ∧
   (∀ (s : State) (l : LinkId) (f : LinkFrame) (m : Measurement), (s.links.get l).state.isMeasure = true →
     (s.links.get l).measurement = some m → 63 ≤ m.edges →
     exec (.linkFrame l f) s =
       exec (.rateMeasurement l (m.ticks + f.ticks) (m.allWellFormed && decide (f.data.length = 256))) s) ∧
   (∀ (s : State) (l : LinkId) (f : LinkFrame), (s.links.get l).state = .alignSeek →
     ∃ t, exec (.linkFrame l f) s = .next t ∧ linkFrameKept s t l ∧ (t.links.get l).rate = (s.links.get l).rate ∧
       (if 49 ≤ f.fsHigh then (t.links.get l).state = .alignRead ∧ (t.links.get l).reading = [rawFrame f]
        else (t.links.get l).state = .alignSeek ∧ (t.links.get l).reading = (s.links.get l).reading)) ∧
   (∀ (s : State) (l : LinkId) (f : LinkFrame), (s.links.get l).state = .alignRead → (s.links.get l).reading.length ≠ 64 →
     ∃ t, exec (.linkFrame l f) s = .next t ∧ linkFrameKept s t l ∧ (t.links.get l).state = .alignRead ∧
       (t.links.get l).reading = (if 49 ≤ f.fsHigh then [rawFrame f] else (s.links.get l).reading ++ [rawFrame f]) ∧
       (t.links.get l).candidate = if 49 ≤ f.fsHigh then none else (s.links.get l).candidate) ∧
   (∀ (s : State) (l : LinkId) (f : LinkFrame), (s.links.get l).state = .alignRead → (s.links.get l).reading.length = 64 →
     (f.fsHigh < 49 → ∃ t, exec (.linkFrame l f) s = .next t ∧ linkFrameKept s t l ∧ (t.links.get l).state = .alignSeek ∧
       (t.links.get l).reading = [] ∧ (t.links.get l).candidate = none) ∧
     (49 ≤ f.fsHigh → blockDescriptor (s.links.get l).rate (s.links.get l).reading = none →
       ∃ t, exec (.linkFrame l f) s = .next t ∧ linkFrameKept s t l ∧ (t.links.get l).state = .alignRead ∧
         (t.links.get l).reading = [rawFrame f] ∧ (t.links.get l).candidate = none) ∧
     (∀ d, 49 ≤ f.fsHigh → blockDescriptor (s.links.get l).rate (s.links.get l).reading = some d →
       (s.links.get l).candidate ≠ some (d.seq - 1) →
       ∃ t, exec (.linkFrame l f) s = .next t ∧ linkFrameKept s t l ∧ (t.links.get l).state = .alignRead ∧
         (t.links.get l).reading = [rawFrame f] ∧ (t.links.get l).candidate = some d.seq) ∧
     (∀ d, 49 ≤ f.fsHigh → blockDescriptor (s.links.get l).rate (s.links.get l).reading = some d →
       (s.links.get l).candidate = some (d.seq - 1) →
       ∃ t, exec (.linkFrame l f) s = .next t ∧ (t.links.get l).state = .locked ∧ (t.links.get l).lastGood = some d ∧
         (t.links.get l).expectedSeq = d.seq + 1 ∧ (t.links.get l).reading = [rawFrame f] ∧
         (t.links.get l).stateTimer = none ∧ (t.links.get l).rate = (s.links.get l).rate ∧ ∀ z, zoneAtLock s t l z)) ∧
   (∀ (s : State) (l : LinkId) (f : LinkFrame), (s.links.get l).state = .recoverSeek →
     ∃ t, exec (.linkFrame l f) s = .next t ∧ (t.links.get l).rate = (s.links.get l).rate ∧
       (if 49 ≤ f.fsHigh then (t.links.get l).state = .recoverRead ∧ (t.links.get l).reading = [rawFrame f]
        else (t.links.get l).state = .recoverSeek ∧ (t.links.get l).reading = (s.links.get l).reading)) ∧
   (∀ (s : State) (l : LinkId) (f : LinkFrame), (s.links.get l).state = .recoverRead → f.fsHigh < 49 →
     ((s.links.get l).reading.length < 63 → ∃ t, exec (.linkFrame l f) s = .next t ∧ (t.links.get l).state = .recoverRead ∧
       (t.links.get l).reading = (s.links.get l).reading ++ [rawFrame f]) ∧
     ((s.links.get l).reading.length = 63 →
       blockDescriptor (s.links.get l).rate ((s.links.get l).reading ++ [rawFrame f]) = none →
       ∃ t, exec (.linkFrame l f) s = .next t ∧ (t.links.get l).state = .recoverRead ∧
         (t.links.get l).counters.descriptor = (s.links.get l).counters.descriptor.bump 1) ∧
     (∀ d, (s.links.get l).reading.length = 63 →
       blockDescriptor (s.links.get l).rate ((s.links.get l).reading ++ [rawFrame f]) = some d →
       ∃ t, exec (.linkFrame l f) s = .next t ∧ (t.links.get l).state = .locked ∧ (t.links.get l).lastGood = some d ∧
         (t.links.get l).expectedSeq = d.seq + 1 ∧ (t.links.get l).stateTimer = none ∧
         (t.links.get l).rate = (s.links.get l).rate ∧ ∀ z, zoneAtLock s t l z)) ∧
   (∀ (s : State) (l : LinkId) (f : LinkFrame), (s.links.get l).state = .recoverRead → 49 ≤ f.fsHigh →
     ∃ t, exec (.linkFrame l f) s = .next t ∧ (t.links.get l).state = .recoverRead ∧
       (t.links.get l).reading = [rawFrame f] ∧ (t.links.get l).blockTicks = f.ticks ∧
       (t.links.get l).stateTimer = (s.links.get l).stateTimer ∧ (t.links.get l).rate = (s.links.get l).rate ∧
       (t.links.get l).counters = (s.links.get l).counters) ∧
   ∀ (s : State) (l : LinkId) (f : LinkFrame), (s.links.get l).state = .recoverRead → (s.links.get l).reading.length = 64 →
     f.fsHigh < 49 → ∃ t, exec (.linkFrame l f) s = .next t ∧ (t.links.get l).state = .recoverSeek ∧
       (t.links.get l).reading = []) ∧
  ((∀ (s : State) (l : LinkId), (s.links.get l).state.isAlign = true → ranOut (s.links.get l).stateTimer s.ms →
     ∃ t, exec (.alignmentTimerExpiry l) s = .next t ∧ (t.links.get l).state = .measureCounting ∧ (t.links.get l).cleared ∧
       zonesOffLock s t l ∧ linkFrameKept s t l) ∧
   (∀ (s : State) (l : LinkId), (s.links.get l).state.isRecover = true → ranOut (s.links.get l).stateTimer s.ms →
     ∃ t, exec (.recoveryTimerExpiry l) s = .next t ∧ (t.links.get l).state = .measureCounting ∧ (t.links.get l).cleared ∧
       zonesOffLock s t l ∧ linkFrameKept s t l) ∧
   (∀ (s : State) (l : LinkId), (s.links.get l).state = .detectActive →
     ∃ t, exec (.detectCountReached l) s = .next t ∧ (t.links.get l).state = .measureCounting ∧ (t.links.get l).cleared ∧
       zonesOffLock s t l ∧ linkFrameKept s t l) ∧
   (∀ (s : State) (l : LinkId), ranOut (s.links.get l).lossTimer s.ms →
     ∃ t, exec (.lossOfSignal l) s = .next t ∧ (t.links.get l).state = .detectQuiet ∧ (t.links.get l).cleared ∧
       (∀ n, (t.links.get l).hold.get n = .zero) ∧ (t.links.get l).lossTimer = none ∧ zonesOffLock s t l ∧
       linkFrameKept s t l) ∧
   (∀ (s : State) (l : LinkId), ¬ranOut (s.links.get l).lossTimer s.ms → exec (.lossOfSignal l) s = .next s) ∧
   ∀ (s : State) (l : LinkId), ¬ranOut (s.links.get l).stateTimer s.ms →
     exec (.alignmentTimerExpiry l) s = .next s ∧ exec (.recoveryTimerExpiry l) s = .next s) ∧
  ((∀ (s : State) (l : LinkId) (ticks : Nat) (r : Rate), (s.links.get l).state.isMeasure = true →
     1000 * ((ticks : Int) - r.nominal).natAbs ≤ 4 * r.nominal →
     ∃ t, exec (.rateMeasurement l ticks true) s = .next t ∧ (t.links.get l).state = .alignSeek ∧
       (t.links.get l).rate = some r ∧ (t.links.get l).candidate = none ∧
       (t.links.get l).stateTimer = some { start := s.ms, len := 100 } ∧ zonesOffLock s t l ∧ linkFrameKept s t l) ∧
   ∀ (s : State) (l : LinkId) (ticks : Nat) (wf : Bool), (s.links.get l).state.isMeasure = true →
     (wf = false ∨ ∀ r : Rate, 4 * r.nominal < 1000 * ((ticks : Int) - r.nominal).natAbs) →
     ∃ t, exec (.rateMeasurement l ticks wf) s = .next t ∧ (t.links.get l).state = .measureUnrecognised ∧
       (t.links.get l).rate = none ∧
       (t.links.get l).measurement = some { edges := 0, ticks := 0, allWellFormed := true } ∧ linkFrameKept s t l) ∧
  ∀ (rate : Option Rate) (fs : List RawFrame) (b : Nat → Nat), fs.length = 64 →
    (∀ j, b j = ((List.range 8).map fun i =>
      if fs[4 * j + i / 2]?.map (fun g => g.wellFormed && (g.slots.get (if i % 2 = 0 then 0 else 1)).getLsbD 6) = some true
      then 2 ^ (7 - i) else 0).sum) →
    (blockDescriptor rate fs = none ↔
      b 0 ≠ 0xC6 ∨ ((List.range 16).map b).sum % 256 ≠ 0 ∨ b 2 = 0 ∨
        (b 1 / 8 % 8 ≠ 7 ∧ ∀ r, rate = some r → r.code ≠ b 1 / 8 % 8)) ∧
    ∀ d, blockDescriptor rate fs = some d →
      d.format = (if b 1 / 64 = 0 then .pcm else if b 1 / 64 = 1 then .bsf else if b 1 / 64 = 2 then .unsupported2
        else .unsupported3) ∧
      d.rateCode = b 1 / 8 % 8 ∧ (d.lfe = true ↔ b 1 / 4 % 2 = 1) ∧ d.pref.toNat = b 1 % 4 ∧ d.map.toNat = b 2 ∧
      d.drc = min 48 (b 3 / 4) ∧ d.stream.toNat = b 3 % 4 * 16 + b 4 / 16 ∧ d.seq.toNat = b 4 % 16 ∧
      (∀ p : Pos, (d.expo1.get p).toNat = b (5 + p.1 / 2) / (if p.1 % 2 = 0 then 16 else 1) % 16 ∧
        (d.expo2.get p).toNat = b (9 + p.1 / 2) / (if p.1 % 2 = 0 then 16 else 1) % 16) ∧
      d.checksum.toNat = b 13 * 256 + b 14

/-- In LOCKED, one frame goes out with each link frame, whatever its sync at the grid position, and the frame that arrived
joins the block in reading (R6, R10, R15). Of a PCM block the frame is written at the tail of the buffer of every zone whose
path is not IDLE and that is bound to the link, with the descriptor values when it is the block's first; a buffer of 128 frames
first discards its 64 oldest and counts one SKIP, and a write that brings a buffer to 64 frames ends FILLING or refilling (R10,
R67, R70, R80, R81). Values of a discarded frame pass to the oldest that remains (R70); that this one keeps its own where it
carries any, and that of several discarded values the newest pass, is the model's choice (log 46). A block of format 2 or 3 gives frames of zeros; that it leaves the hold registers and counts no parity
error is log 18. A PCM frame counts one CODE error for each parity error in a slot of a present channel, and an arriving frame
that is not well formed counts one (R2, R5); a BSF block with a good descriptor counts its parity errors at its end (R2, R4).
That a frame not well formed from before the entry to LOCKED counts none is log 45. For a BSF link the serving unit hands the
next frame of its block in output, or zeros when it holds none, to each attached zone, with its values where it owes them (R39,
R43, R44). The frame that goes out with the last frame of the block in reading is delivered before that block's end, whose
effects BlockEndDecides states, where the format stays and the link stays in LOCKED (R6, R10). The writes leave last changed by
as it is (R84, log 23). In RECOVER one frame of zeros goes out with each link frame and no CODE error is counted: to every zone
bound to the link when its last good descriptor is not BSF, also with the frame that enters LOCKED where that does not rebind
the zone, and otherwise through the serving unit, whose output the entry to RECOVER has ended, to its attached zones, so that a
waiting zone receives none (R16, R43, R44). -/
def Obligations.LockedDeliversPcm : Prop :=
  (∀ (s : State) (l : LinkId) (f : LinkFrame) (d : Descriptor) (g : RawFrame) (rest : List RawFrame) (z : ZoneId)
    (kept : List BufFrame) (x : Vector Sample 8) (h : Vector Hold 8), unitsLawful s ∨ (s.zones.get z).decode = .none →
    ((s.zones.get 0).power = .standby → (s.zones.get 0).decode = .none) →
    (s.links.get l).state = .locked → (s.links.get l).delivery = some { desc := d, frames := g :: rest } → d.format ≠ .bsf →
    (g :: rest).length + (s.links.get l).reading.length = 64 → (f.longSync = true → (s.links.get l).reading = []) →
    servingUnit s l = none → (s.zones.get z).link = some l → (s.zones.get z).power.isBound = true →
    (s.zones.get z).path ≠ .idle → makesRoom (s.zones.get z).buffer kept →
    (rest = [] → ∃ r e, (s.links.get l).rate = some r ∧ Rate.isMatch ((s.links.get l).blockTicks + f.ticks) r = true ∧
      (s.links.get l).lastGood.map (·.format) = some d.format ∧
      ((blockDescriptor (some r) ((s.links.get l).reading ++ [rawFrame f]) = some e ∧ e.format = d.format) ∨
        (blockDescriptor (some r) ((s.links.get l).reading ++ [rawFrame f]) = none ∧ (s.links.get l).errorRun < 2))) →
    (d.format = .pcm → x = (readSlots 0 (pcmSlot g) d.map (s.links.get l).hold).1 ∧
      h = (readSlots 0 (pcmSlot g) d.map (s.links.get l).hold).2.1) →
    (d.format ≠ .pcm → x = Vector.ofFn (fun _ => 0) ∧ h = (s.links.get l).hold) →
    ∃ t, exec (.linkFrame l f) s = .next t ∧
      (t.zones.get z).skips = (if (s.zones.get z).buffer.length < 128 then (s.zones.get z).skips
        else min 65535 ((s.zones.get z).skips + 1)) ∧
      (t.zones.get z).buffer = kept ++
        [{ samples := x, vals := if rest.length = 63 then some d.vals else none }] ∧
      (t.zones.get z).path = (if (s.zones.get z).path = .filling ∧ kept.length = 63 then .playing else (s.zones.get z).path) ∧
      (t.zones.get z).refilling = (if kept.length = 63 then false else (s.zones.get z).refilling) ∧
      (t.zones.get z).lastChanged = (s.zones.get z).lastChanged ∧
      (t.links.get l).reading = (if rest = [] then [] else (s.links.get l).reading ++ [rawFrame f]) ∧
      (t.links.get l).state = .locked ∧ (t.links.get l).hold = h ∧
      (t.links.get l).counters.code = (s.links.get l).counters.code.bump
        ((if d.format = .pcm then g.parityErrors d.map else 0) + if f.data.length = 256 then 0 else 1)) ∧
  (∀ (s : State) (l : LinkId) (f : LinkFrame) (u : UnitId) (x : DecodeUnit) (z : ZoneId) (kept : List BufFrame),
    (s.links.get l).state = .locked → (s.links.get l).delivery = none → (s.links.get l).reading.length ≤ 63 →
    (f.longSync = true → (s.links.get l).reading = []) → servingUnit s l = some u → x = s.units.get u → x.state ≠ .free →
    (s.zones.get z).decode = .attached u → (s.zones.get z).link = some l → (s.zones.get z).power.isBound = true →
    (s.zones.get z).path ≠ .idle → makesRoom (s.zones.get z).buffer kept →
    ((s.links.get l).reading.length = 63 →
      ((s.zones.get 0).power = .standby → (s.zones.get 0).decode = .none) ∧
      ∃ r e, (s.links.get l).rate = some r ∧ Rate.isMatch ((s.links.get l).blockTicks + f.ticks) r = true ∧
        (s.links.get l).lastGood.map (·.format) = some .bsf ∧
        ((blockDescriptor (some r) ((s.links.get l).reading ++ [rawFrame f]) = some e ∧ e.format = .bsf) ∨
          (blockDescriptor (some r) ((s.links.get l).reading ++ [rawFrame f]) = none ∧ (s.links.get l).errorRun < 2))) →
    ∃ t, exec (.linkFrame l f) s = .next t ∧
      (t.zones.get z).skips = (if (s.zones.get z).buffer.length < 128 then (s.zones.get z).skips
        else min 65535 ((s.zones.get z).skips + 1)) ∧
      (t.zones.get z).buffer = kept ++
        [{ samples := (match x.output with
             | g :: _ => g
             | [] => Vector.ofFn fun _ => 0)
           vals := if x.owed = true ∨ (s.zones.get z).owed = true then some x.vals else none }] ∧
      (t.zones.get z).path = (if (s.zones.get z).path = .filling ∧ kept.length = 63 then .playing else (s.zones.get z).path) ∧
      (t.zones.get z).refilling = (if kept.length = 63 then false else (s.zones.get z).refilling) ∧
      (t.zones.get z).owed = false ∧ (t.links.get l).state = .locked ∧
      ((s.links.get l).reading.length = 63 → (t.links.get l).reading = []) ∧
      ((s.links.get l).reading.length < 63 → (t.links.get l).reading = (s.links.get l).reading ++ [rawFrame f] ∧
        (t.zones.get z).lastChanged = (s.zones.get z).lastChanged ∧
        t.units.get u = { x with output := x.output.drop 1, owed := false } ∧
        (∀ v, v ≠ u → t.units.get v = s.units.get v) ∧
        (∀ y, (s.zones.get y).decode ≠ .attached u → t.zones.get y = s.zones.get y)) ∧
      (∀ n, ((s.links.get l).reading.length < 63 → n = 0) →
        ((s.links.get l).reading.length = 63 →
          (∀ r e, (s.links.get l).rate = some r →
            blockDescriptor (some r) ((s.links.get l).reading ++ [rawFrame f]) = some e →
            n = (((s.links.get l).reading ++ [rawFrame f]).map fun g => g.parityErrors e.map).sum) ∧
          (blockDescriptor (s.links.get l).rate ((s.links.get l).reading ++ [rawFrame f]) = none → n = 0)) →
        (t.links.get l).counters.code =
          (s.links.get l).counters.code.bump (n + if f.data.length = 256 then 0 else 1))) ∧
  (∀ (s : State) (l : LinkId) (f : LinkFrame) (d : Descriptor) (z : ZoneId) (kept : List BufFrame) (locks : Prop),
    (s.links.get l).state.isRecover = true → (s.links.get l).lastGood = some d → d.format ≠ .bsf →
    (s.zones.get z).link = some l → (s.zones.get z).power.isBound = true → (s.zones.get z).path ≠ .idle →
    makesRoom (s.zones.get z).buffer kept →
    (locks ↔ (s.links.get l).state = .recoverRead ∧ f.fsHigh < 49 ∧ (s.links.get l).reading.length = 63 ∧
      blockDescriptor (s.links.get l).rate ((s.links.get l).reading ++ [rawFrame f]) ≠ none) →
    (locks → (s.zones.get z).clockInEffect ≠ .follow ∨ (s.links.get l).rate = some (s.zones.get z).rate) →
    ∃ t, exec (.linkFrame l f) s = .next t ∧
      (t.zones.get z).skips = (if (s.zones.get z).buffer.length < 128 then (s.zones.get z).skips
        else min 65535 ((s.zones.get z).skips + 1)) ∧
      (t.zones.get z).buffer = kept ++ [{ samples := Vector.ofFn fun _ => 0, vals := none }] ∧
      (t.zones.get z).path = (if (s.zones.get z).path = .filling ∧ kept.length = 63 then .playing else (s.zones.get z).path) ∧
      (t.zones.get z).refilling = (if kept.length = 63 then false else (s.zones.get z).refilling) ∧
      (¬locks → (t.zones.get z).lastChanged = (s.zones.get z).lastChanged ∧ t.units = s.units ∧
        (t.links.get l).counters.code = (s.links.get l).counters.code)) ∧
  ∀ (s : State) (l : LinkId) (f : LinkFrame) (d : Descriptor),
    (s.links.get l).state.isRecover = true → (s.links.get l).lastGood = some d → d.format = .bsf →
    ((s.links.get l).state = .recoverRead → f.fsHigh < 49 → (s.links.get l).reading.length = 63 →
      blockDescriptor (s.links.get l).rate ((s.links.get l).reading ++ [rawFrame f]) = none) →
    ∃ t, exec (.linkFrame l f) s = .next t ∧ (t.links.get l).counters.code = (s.links.get l).counters.code ∧
      (servingUnit s l = none → t.zones = s.zones ∧ t.units = s.units) ∧
      ∀ (u : UnitId) (x : DecodeUnit), servingUnit s l = some u → x = s.units.get u → x.state ≠ .free → x.output = [] →
        t.units = setAt s.units u { x with owed := false } ∧
        (∀ y, (s.zones.get y).decode ≠ .attached u → t.zones.get y = s.zones.get y) ∧
        ∀ (z : ZoneId) (kept : List BufFrame), (s.zones.get z).decode = .attached u → (s.zones.get z).link = some l →
          (s.zones.get z).power.isBound = true → (s.zones.get z).path ≠ .idle → makesRoom (s.zones.get z).buffer kept →
          (t.zones.get z).buffer = kept ++
            [{ samples := Vector.ofFn fun _ => 0
               vals := if x.owed = true ∨ (s.zones.get z).owed = true then some x.vals else none }] ∧
          (t.zones.get z).skips = (if (s.zones.get z).buffer.length < 128 then (s.zones.get z).skips
            else min 65535 ((s.zones.get z).skips + 1)) ∧
          (t.zones.get z).path =
            (if (s.zones.get z).path = .filling ∧ kept.length = 63 then .playing else (s.zones.get z).path) ∧
          (t.zones.get z).refilling = (if kept.length = 63 then false else (s.zones.get z).refilling) ∧
          (t.zones.get z).owed = false ∧ (t.zones.get z).lastChanged = (s.zones.get z).lastChanged

/-- The end of a block in LOCKED. At a good descriptor and a matching length the descriptor becomes the last good one, a
sequence number other than the expected one counts one SEQUENCE error, and a PCM block or one of format 2 or 3 is released under
its own descriptor, while a BSF block goes to its unit (R6, R7, R9, R10). At another format than the last good one the zones on
the link (in FOLLOW those at its rate or fading) set or clear FORMAT and do not rebind (R71). A descriptor error that is not the
third in a row counts and keeps LOCKED; the block is delivered under a last good descriptor that is not BSF, and withheld under
one that is, the unit handing out zeros (R8, R10, R43). A third one takes the link to RECOVER.SEEK_BLOCK with the recovery timer
at 50 ms; rate and last good descriptor stay, delivery stops; a long sync off the grid does so at once (R8, R15, R16), and that
its frame starts no block is log 19. The frame that ends a block does the same as LINK_FRAME, BLOCK_END and, at the third error,
DESCRIPTOR_ERROR_RUN (log 6). A block whose length does not match the rate takes the link to MEASURE.COUNTING (R15, log 20).
Zones bound to a link that leaves LOCKED keep binding and output rate, with NO_SIGNAL, in HOLDOVER in FOLLOW and with
RATE_MISMATCH by the rate kept in LOCAL, and start their countdown in ON where the monitor leaves ACTIVE (R71, R78, R79, R82). A
slot delivers its mantissa, or the hold register after a parity error or in a frame not well formed (R4, R5, log 45); the block
passes when its mantissas add up to the checksum, and a sample is its mantissa shifted by the exponent of its half, zero for 9
to 15 (R40, R41). In RUNNING a block that passes is output and stored, one that fails concealed from the store after a good one,
else silenced; in SYNCING one that qualifies takes the unit to RUNNING and ends DECODE, another is not output; BSF errors count
one for a failed block and one for each exponent out of range in another (R39, R42, R44, R46, R48). -/
def Obligations.BlockEndDecides : Prop :=
  (∀ (s : State) (l : LinkId) (f : LinkFrame),
     ((s.links.get l).state = .locked ∨ (s.links.get l).state = .alignRead ∨ (s.links.get l).state = .recoverRead) →
     (s.links.get l).reading.length = 63 → exec (.linkFrame l f) s = exec (.blockEnd l f) s) ∧
  (∀ (s : State) (l : LinkId) (f : LinkFrame) (d : Descriptor) (r : Rate),
     (s.links.get l).state = .locked → (s.links.get l).reading.length = 63 → f.longSync = false →
     (s.links.get l).rate = some r → Rate.isMatch ((s.links.get l).blockTicks + f.ticks) r = true →
     blockDescriptor (some r) ((s.links.get l).reading ++ [rawFrame f]) = some d → d.format ≠ .bsf →
     ∃ t, exec (.blockEnd l f) s = .next t ∧ (t.links.get l).state = .locked ∧ (t.links.get l).lastGood = some d ∧
       (t.links.get l).expectedSeq = d.seq + 1 ∧ (t.links.get l).errorRun = 0 ∧ (t.links.get l).reading = [] ∧
       (t.links.get l).delivery = some { desc := d, frames := (s.links.get l).reading ++ [rawFrame f] } ∧
       (t.links.get l).counters.sequence =
         if d.seq = (s.links.get l).expectedSeq then (s.links.get l).counters.sequence
         else (s.links.get l).counters.sequence.bump 1) ∧
  (∀ (s : State) (l : LinkId) (f : LinkFrame) (r : Rate),
     (s.links.get l).state = .locked → (s.links.get l).reading.length = 63 → f.longSync = false →
     (s.links.get l).rate = some r → Rate.isMatch ((s.links.get l).blockTicks + f.ticks) r = true →
     blockDescriptor (some r) ((s.links.get l).reading ++ [rawFrame f]) = none → (s.links.get l).errorRun = 2 →
     exec (.linkFrame l f) s = exec (.descriptorErrorRun l f) s ∧
     ∃ t, exec (.descriptorErrorRun l f) s = .next t ∧ (t.links.get l).state = .recoverSeek ∧
       (t.links.get l).stateTimer = some { start := s.ms, len := 50 } ∧ (t.links.get l).rate = some r ∧
       (t.links.get l).lastGood = (s.links.get l).lastGood ∧ (t.links.get l).delivery = none ∧
       (t.links.get l).counters.descriptor = (s.links.get l).counters.descriptor.bump 1 ∧
       (t.monitors.get l).state = .noLink ∧ zonesOffLock s t l) ∧
  (∀ (s : State) (l : LinkId) (f : LinkFrame) (d : Descriptor) (r : Rate),
     (s.links.get l).state = .locked → (s.links.get l).reading.length = 63 → f.longSync = false →
     (s.links.get l).rate = some r → Rate.isMatch ((s.links.get l).blockTicks + f.ticks) r = true →
     (s.links.get l).delivery = none →
     blockDescriptor (some r) ((s.links.get l).reading ++ [rawFrame f]) = some d → d.format = .bsf →
     ∃ t, exec (.blockEnd l f) s = .next t ∧ (t.links.get l).state = .locked ∧ (t.links.get l).lastGood = some d ∧
       (t.links.get l).expectedSeq = d.seq + 1 ∧ (t.links.get l).errorRun = 0 ∧ (t.links.get l).reading = [] ∧
       (t.links.get l).delivery = none ∧
       (t.links.get l).hold =
         (readMantissas d.map (s.links.get l).hold ((s.links.get l).reading ++ [rawFrame f])).2.1 ∧
       (t.links.get l).counters.sequence =
         if d.seq = (s.links.get l).expectedSeq then (s.links.get l).counters.sequence
         else (s.links.get l).counters.sequence.bump 1) ∧
  (∀ (s : State) (l : LinkId) (f : LinkFrame) (d : Descriptor) (r : Rate),
     (s.links.get l).state = .locked → (s.links.get l).reading.length = 63 → f.longSync = false →
     (s.links.get l).rate = some r → Rate.isMatch ((s.links.get l).blockTicks + f.ticks) r = true →
     blockDescriptor (some r) ((s.links.get l).reading ++ [rawFrame f]) = some d →
     (s.links.get l).lastGood.map (·.format) ≠ some d.format →
     ∃ t, exec (.blockEnd l f) s = .next t ∧ ∀ z, (s.zones.get z).link = some l → (s.zones.get z).power.isBound = true →
       ((s.zones.get z).clockInEffect = .follow →
         (s.zones.get z).rate = r ∨ ((s.zones.get z).power ≠ .starting ∧ (s.zones.get z).path = .fading)) →
       (s.zones.get z).bindingKept (t.zones.get z) ∧ (t.zones.get z).mutes.noSignal = false ∧
       (t.zones.get z).mutes.format = d.format.isUnplayable ∧
       ((s.zones.get z).path = .playing → (t.zones.get z).path = .playing)) ∧
  (∀ (s : State) (l : LinkId) (f : LinkFrame) (d : Descriptor) (r : Rate),
     (s.links.get l).state = .locked → (s.links.get l).reading.length = 63 → f.longSync = false →
     (s.links.get l).rate = some r → Rate.isMatch ((s.links.get l).blockTicks + f.ticks) r = true →
     blockDescriptor (some r) ((s.links.get l).reading ++ [rawFrame f]) = none → (s.links.get l).errorRun < 2 →
     (s.links.get l).lastGood = some d →
     ∃ t, exec (.blockEnd l f) s = .next t ∧ (t.links.get l).state = .locked ∧ (t.links.get l).lastGood = some d ∧
       (t.links.get l).errorRun = (s.links.get l).errorRun + 1 ∧ (t.links.get l).reading = [] ∧
       (t.links.get l).expectedSeq = (s.links.get l).expectedSeq + 1 ∧
       (t.links.get l).counters.descriptor = (s.links.get l).counters.descriptor.bump 1 ∧
       (d.format ≠ .bsf →
         (t.links.get l).delivery = some { desc := d, frames := (s.links.get l).reading ++ [rawFrame f] }) ∧
       (∀ u, d.format = .bsf → (s.links.get l).delivery = none → servingUnit s l = some u → (s.units.get u).state ≠ .free →
         (t.links.get l).delivery = none ∧
         t.units.get u = { s.units.get u with output := [], mark := false, owed := true })) ∧
  (∀ (s : State) (l : LinkId) (f : LinkFrame) (r : Rate),
     (s.links.get l).state = .locked → (s.links.get l).reading.length = 63 → f.longSync = false →
     (s.links.get l).rate = some r → Rate.isMatch ((s.links.get l).blockTicks + f.ticks) r = false →
     ∃ t, exec (.blockEnd l f) s = .next t ∧ (t.links.get l).state = .measureCounting ∧ (t.links.get l).cleared ∧
       (t.monitors.get l).state = .noLink ∧ zonesOffLock s t l) ∧
  (∀ (s : State) (l : LinkId) (f : LinkFrame),
    (s.links.get l).state = .locked → (s.links.get l).reading ≠ [] → f.longSync = true →
    ∃ t, exec (.linkFrame l f) s = .next t ∧ (t.links.get l).state = .recoverSeek ∧
      (t.links.get l).stateTimer = some { start := s.ms, len := 50 } ∧ (t.links.get l).rate = (s.links.get l).rate ∧
      (t.links.get l).lastGood = (s.links.get l).lastGood ∧ (t.links.get l).delivery = none ∧
      (t.links.get l).reading = [] ∧ (t.links.get l).counters = (s.links.get l).counters ∧ (t.monitors.get l).state = .noLink ∧
      zonesOffLock s t l) ∧
  ((∀ (f : RawFrame) (n : Fin 8) (h : Hold) (m : BitVec 16), Hold.zero.asMantissa = 0 ∧ (Hold.mantissa m).asMantissa = m ∧
     (f.wellFormed = false → bsfSlot f n h = ((h.asMantissa, h), false)) ∧
     (f.wellFormed = true → ((List.range 32).filter fun i => (f.slots.get n).getLsbD i).length % 2 = 1 →
       bsfSlot f n h = ((h.asMantissa, h), true)) ∧
     (f.wellFormed = true → ((List.range 32).filter fun i => (f.slots.get n).getLsbD i).length % 2 = 0 →
       m = (f.slots.get n).extractLsb' 16 16 → bsfSlot f n h = ((m, .mantissa m), false))) ∧
   (∀ (d : Descriptor) (fs : List MantissaFrame) (k : Nat) (g : MantissaFrame), fs[k]? = some g →
     ∃ out, (decodeBlock d fs)[k]? = some out ∧ ∀ (p : Pos) (e : Nat),
       e = ((if k < 32 then d.expo1 else d.expo2).get p).toNat →
       (out.get p).toInt = if present d.map p = true ∧ e ≤ 8 then (g.get p).toInt * 2 ^ e else 0) ∧
   ∀ (d : Descriptor) (fs : List MantissaFrame), (blockSum d fs).toNat =
     (fs.map fun g => ((presentList d.map).map fun p => (g.get p).toNat).sum).sum % 65536) ∧
  ∀ (s : State) (l : LinkId) (f : LinkFrame) (d : Descriptor) (r : Rate) (u : UnitId) (x : DecodeUnit)
    (m : List MantissaFrame) (errors : Nat),
    (s.links.get l).state = .locked → (s.links.get l).reading.length = 63 → f.longSync = false →
    (s.links.get l).rate = some r → Rate.isMatch ((s.links.get l).blockTicks + f.ticks) r = true →
    (s.links.get l).delivery = none →
    blockDescriptor (some r) ((s.links.get l).reading ++ [rawFrame f]) = some d → d.format = .bsf →
    (s.links.get l).lastGood.map (·.format) = some .bsf → servingUnit s l = some u → x = s.units.get u →
    ((s.zones.get 0).power = .standby → (s.zones.get 0).decode = .none) →
    m = (readMantissas d.map (s.links.get l).hold ((s.links.get l).reading ++ [rawFrame f])).1 →
    errors = ((presentList d.map).filter fun p => decide (9 ≤ (d.expo1.get p).toNat)).length +
      ((presentList d.map).filter fun p => decide (9 ≤ (d.expo2.get p).toNat)).length →
    ∃ t, exec (.blockEnd l f) s = .next t ∧ (∀ v, v ≠ u → t.units.get v = s.units.get v) ∧
      (x.state = .running → blockSum d m = d.checksum →
        t.units.get u = { x with
          output := decodeBlock d m, vals := d.vals, owed := true, mark := true
          store := some { frames := decodeBlock d m, vals := d.vals } } ∧
        (t.links.get l).counters.bsf = (s.links.get l).counters.bsf.bump errors) ∧
      (∀ b, x.state = .running → blockSum d m ≠ d.checksum → x.mark = true → x.store = some b →
        t.units.get u = { x with
          output := b.frames, vals := b.vals, owed := true, mark := false, concealed := min 65535 (x.concealed + 1) } ∧
        (t.links.get l).counters.bsf = (s.links.get l).counters.bsf.bump 1) ∧
      (x.state = .running → blockSum d m ≠ d.checksum → x.mark = false →
        t.units.get u = { x with
          output := [], vals := d.vals, owed := true, mark := false, silenced := min 65535 (x.silenced + 1) } ∧
        (t.links.get l).counters.bsf = (s.links.get l).counters.bsf.bump 1) ∧
      (x.state = .syncing → blockSum d m = d.checksum → errors = 0 →
        t.units.get u = { x with
          state := .running, output := decodeBlock d m, vals := d.vals, owed := true, mark := true
          store := some { frames := decodeBlock d m, vals := d.vals } } ∧
        (∀ z, (s.zones.get z).decode = .attached u → (t.zones.get z).mutes.decode = false) ∧
        (t.links.get l).counters.bsf = (s.links.get l).counters.bsf) ∧
      (x.state = .syncing → (blockSum d m ≠ d.checksum ∨ errors ≠ 0) →
        t.units.get u = { x with output := [], vals := d.vals, owed := true } ∧
        (t.links.get l).counters.bsf =
          (s.links.get l).counters.bsf.bump (if blockSum d m = d.checksum then errors else 1))

/-- MONITOR_ACTIVE, the eighth loud block, takes a SILENT monitor to ACTIVE with its quiet timer at 1,000 ms, and a quiet timer
that expires takes it back to SILENT and records the time; each sets the LINK flag in both copies, and the expiry of a quiet
timer that has time left, because a non-silent frame restarted it, does not happen (R32, R33, R34). The zones bound to the link
stop their countdown at the entry to ACTIVE, and those in ON with a setting above 0 start it afresh at the departure (R82). That
MONITOR_ACTIVE acts whatever the run is the model's choice (log 5): the run itself is counted at the blocks. A delivered frame
is non-silent when a present channel has a magnitude of 256 or more; in SILENT it joins the judgement of its block, which falls
with the 64th frame of a block taken whole, and in ACTIVE it restarts the quiet timer. A BSF block is judged at its end by its
mantissas and the exponents of their half, a withheld one as silent. A loud block adds 1 to the run, and one that brings it from
7 to 8 leaves the monitor as MONITOR_ACTIVE does; a quiet block sets the run to 0 (R10, R31, R32, R33). In LOCKED the frames
that are still to go out and those read of the next block are 64 together, so the last frame goes out with the link frame that
ends the next block; the statement is of a next block that is not BSF, for a BSF block is judged itself at that same end (R6,
R10). Auto-on: an entry to ACTIVE finds MAIN in STANDBY, and MAIN selects the lowest-numbered entry that names the link with
auto-on yes, binds it with the clock and rate of the link and enters STARTING with origin AUTO; SIGNAL is set in both copies
(R35, R66, R78, R79). Without such an entry, and with MAIN in any other power state, the offer lapses: no flag but LINK is set
and MAIN stays as it is (R35). -/
def Obligations.MonitorEvents : Prop :=
  ((∀ (s : State) (l : LinkId), (s.monitors.get l).state = .silent →
     ∃ t, exec (.monitorActive l) s = .next t ∧ (t.monitors.get l).state = .active ∧ (t.monitors.get l).run = 0 ∧
       (t.monitors.get l).quietTimer = some { start := s.ms, len := 1000 } ∧
       (t.monitors.get l).quietSince = (s.monitors.get l).quietSince ∧
       (∀ k, k ≠ l → t.monitors.get k = s.monitors.get k) ∧ (∀ p, (t.ports.get p).flags.get (Flag.link l).index = true) ∧
       ∀ z, (t.zones.get z).countdown = if (s.zones.get z).link = some l then none else (s.zones.get z).countdown) ∧
   (∀ (s : State) (l : LinkId), ¬ranOut (s.monitors.get l).quietTimer s.ms → exec (.quietTimerExpiry l) s = .next s) ∧
   ∀ (s : State) (l : LinkId), (s.monitors.get l).state = .active → ranOut (s.monitors.get l).quietTimer s.ms →
     ∃ t, exec (.quietTimerExpiry l) s = .next t ∧ (t.monitors.get l).state = .silent ∧ (t.monitors.get l).run = 0 ∧
       (t.monitors.get l).quietTimer = none ∧ (t.monitors.get l).quietSince = some s.ms ∧
       (∀ p, (t.ports.get p).flags.get (Flag.link l).index = true) ∧
       (∀ k, k ≠ l → t.monitors.get k = s.monitors.get k) ∧ t.links = s.links ∧ t.sources = s.sources ∧
       t.units = s.units ∧ t.speakers = s.speakers ∧ t.channels = s.channels ∧ t.pairs = s.pairs ∧ t.tuner = s.tuner ∧
       ∀ z, t.zones.get z =
         if (s.zones.get z).link = some l ∧ (s.zones.get z).power = .on ∧ 0 < (s.zones.get z).autoStandby then
           { s.zones.get z with countdown := (s.zones.get z).fullCountdown s }
         else s.zones.get z) ∧
  (∀ (s : State) (l : LinkId) (f : LinkFrame) (d : Descriptor) (g : RawFrame) (rest : List RawFrame) (x : Vector Sample 8)
     (m : Monitor) (loud : Bool), (s.links.get l).state = .locked →
     (s.links.get l).delivery = some { desc := d, frames := g :: rest } →
     (g :: rest).length + (s.links.get l).reading.length = 64 → (f.longSync = true → (s.links.get l).reading = []) →
     m = s.monitors.get l →
     x = (if d.format = .pcm then (readSlots 0 (pcmSlot g) d.map (s.links.get l).hold).1 else Vector.ofFn fun _ => 0) →
     (loud = true ↔ ∃ p, present d.map p = true ∧ 256 ≤ (x.get p).toInt.natAbs) →
     (rest ≠ [] →
       ∃ t, exec (.linkFrame l f) s = .next t ∧ (∀ k, k ≠ l → t.monitors.get k = s.monitors.get k) ∧
         (m.state = .silent → t.monitors.get l = { m with
           whole := decide (rest.length = 63) || m.whole, loud := loud || (decide (rest.length ≠ 63) && m.loud) }) ∧
         (m.state = .active → (t.monitors.get l).state = .active ∧ (t.monitors.get l).run = m.run ∧
           (t.monitors.get l).quietTimer = if loud then some { start := s.ms, len := 1000 } else m.quietTimer) ∧
         (m.state = .noLink → t.monitors.get l = m)) ∧
     ∀ (r : Rate) (next : Option Descriptor) (e : Descriptor), rest = [] → (s.links.get l).rate = some r →
       Rate.isMatch ((s.links.get l).blockTicks + f.ticks) r = true →
       next = blockDescriptor (some r) ((s.links.get l).reading ++ [rawFrame f]) →
       (next = some e ∨ (next = none ∧ (s.links.get l).errorRun < 2 ∧ (s.links.get l).lastGood = some e)) → e.format ≠ .bsf →
       ∃ t, exec (.linkFrame l f) s = .next t ∧ (∀ k, k ≠ l → t.monitors.get k = s.monitors.get k) ∧
         (m.state = .silent → m.whole = true → loud = false → m.loud = false →
           (t.monitors.get l).state = .silent ∧ (t.monitors.get l).run = 0) ∧
         (m.state = .silent → m.whole = true → (loud = true ∨ m.loud = true) → m.run < 7 →
           (t.monitors.get l).state = .silent ∧ (t.monitors.get l).run = m.run + 1) ∧
         (m.state = .silent → m.whole = true → (loud = true ∨ m.loud = true) → m.run = 7 →
           (∀ p, (t.ports.get p).flags.get (Flag.link l).index = true) ∧
           ∃ u, exec (.monitorActive l) s = .next u ∧ t.monitors.get l = u.monitors.get l) ∧
         (m.state = .silent → m.whole = false →
           (t.monitors.get l).state = .silent ∧ (t.monitors.get l).run = m.run) ∧
         (m.state = .active → (t.monitors.get l).state = .active ∧ (t.monitors.get l).run = m.run ∧
           (t.monitors.get l).quietTimer = if loud then some { start := s.ms, len := 1000 } else m.quietTimer) ∧
         (m.state = .noLink → t.monitors.get l = m)) ∧
  (∀ (s : State) (l : LinkId) (f : LinkFrame) (r : Rate) (d : Descriptor) (m : Monitor) (mant : List MantissaFrame)
     (loud : Bool), (s.links.get l).state = .locked → (s.links.get l).reading.length = 63 → f.longSync = false →
     (s.links.get l).rate = some r → Rate.isMatch ((s.links.get l).blockTicks + f.ticks) r = true →
     (s.links.get l).delivery = none → m = s.monitors.get l → d.format = .bsf →
     mant = (readMantissas d.map (s.links.get l).hold ((s.links.get l).reading ++ [rawFrame f])).1 →
     ((blockDescriptor (some r) ((s.links.get l).reading ++ [rawFrame f]) = some d ∧
         (loud = true ↔ ∃ (k : Nat) (g : MantissaFrame) (p : Pos) (e : Nat), mant[k]? = some g ∧ present d.map p = true ∧
           e = ((if k < 32 then d.expo1 else d.expo2).get p).toNat ∧ e ≤ 8 ∧ 256 ≤ (g.get p).toInt.natAbs * 2 ^ e)) ∨
       (blockDescriptor (some r) ((s.links.get l).reading ++ [rawFrame f]) = none ∧ (s.links.get l).errorRun < 2 ∧
         (s.links.get l).lastGood = some d ∧ loud = false)) →
     ∃ t, exec (.blockEnd l f) s = .next t ∧ (∀ k, k ≠ l → t.monitors.get k = s.monitors.get k) ∧
       (m.state = .silent → loud = false → t.monitors.get l = { m with run := 0 }) ∧
       (m.state = .silent → loud = true → m.run < 7 → t.monitors.get l = { m with run := m.run + 1 }) ∧
       (m.state = .silent → loud = true → m.run = 7 →
         (∀ p, (t.ports.get p).flags.get (Flag.link l).index = true) ∧
         ∃ u, exec (.monitorActive l) s = .next u ∧ t.monitors.get l = u.monitors.get l) ∧
       (m.state = .active → t.monitors.get l = { m with
         quietTimer := if loud then some { start := s.ms, len := 1000 } else m.quietTimer }) ∧
       (m.state = .noLink → t.monitors.get l = m)) ∧
  ((∀ (s : State) (l : LinkId) (i : SrcId), (s.monitors.get l).state = .silent → (s.zones.get 0).power = .standby →
     (s.sources.get i).input = some l → (s.sources.get i).autoOn = true →
     (∀ j : SrcId, j < i → ¬((s.sources.get j).input = some l ∧ (s.sources.get j).autoOn = true)) →
     ∃ t, exec (.monitorActive l) s = .next t ∧ (t.zones.get 0).selected = some i ∧ (t.zones.get 0).bound = some i ∧
       (t.zones.get 0).power = .starting ∧ (t.zones.get 0).drive = .centre ∧ (t.zones.get 0).lastChanged = .auto ∧
       (t.zones.get 0).justBound s (some i) (s.zones.get 0).rate ∧
       ∀ p, (t.ports.get p).flags.get Flag.signal.index = true ∧ (t.ports.get p).flags.get (Flag.zone 0).index = true) ∧
   ∀ (s : State) (l : LinkId), (s.monitors.get l).state = .silent →
     ((s.zones.get 0).power ≠ .standby ∨
       ∀ j : SrcId, ¬((s.sources.get j).input = some l ∧ (s.sources.get j).autoOn = true)) →
     ∃ t, exec (.monitorActive l) s = .next t ∧
       t = { s with
         monitors := setAt s.monitors l { s.monitors.get l with
           state := .active, run := 0, quietTimer := some { start := s.ms, len := 1000 }, whole := false, loud := false }
         zones := t.zones, ports := s.ports.raise (.link l) } ∧
       ∀ z, t.zones.get z =
         if (s.zones.get z).link = some l then { s.zones.get z with countdown := none } else s.zones.get z)

/-- SET_SOURCE writes the entry whole with trim and lip-sync clamped, and answers with the entry as written (R26). The edit is
announced to each bound zone whose bound source is the entry (R27). When there is none, and when the one there is has the path
FADING, nothing else changes; one that plays the entry in ON or RAMP_DOWN with qr not SILENT goes to FADING with the copy it
has, and of one alone that is all that changes; one in STARTING, or in ON or RAMP_DOWN with the path IDLE or FILLING or with qr
SILENT, binds its selected source at once, from the entry as written, with the clock state, output rate and RATE_MISMATCH of its
link and clock mode and in ON its countdown, and keeps its power state (R27, R66, R68, R78, R79, R82, R84, R86). -/
def Obligations.SetSourceEffect : Prop :=
  ∀ (s : State) (p : Port) (tag eb ib tb l2 l1 l0 ab mb label : Byte) (i : SrcId) (input : Option LinkId) (auto : Bool)
    (mode : SurroundMode) (e : SourceEntry) (result : Result),
    Ready s p → eb.toNat = i.1 → orNone 9 ib = some input → yesNo ab = some auto → surroundModes[mb.toNat]? = some mode →
    e = { input := input, trim := max (-24) (min 24 tb.toInt)
          lipSync := min 250000 ((l2.toNat * 256 + l1.toNat) * 256 + l0.toNat), autoOn := auto, mode := mode
          label := label } →
    result = okIf (decide (e.trim = tb.toInt ∧ e.lipSync = (l2.toNat * 256 + l1.toNat) * 256 + l0.toNat)) →
    ∃ t, exec (.setSource p tag [eb, ib, tb, l2, l1, l0, ab, mb, label]) s = .next t ∧
      t.sources = setAt s.sources i e ∧ t.slot p = some { tag := tag, data := sourceRecord e, result := result } ∧
      t.links = s.links ∧ t.monitors = s.monitors ∧ t.speakers = s.speakers ∧ t.tuner = s.tuner ∧ t.encoders = s.encoders ∧
      t.ms = s.ms ∧
      ((∀ z, (s.zones.get z).power.isBound = true → (s.zones.get z).bound = some i →
          (s.zones.get z).power ≠ .starting ∧ (s.zones.get z).path = .fading) →
        t = { s with sources := setAt s.sources i e }.answered p (s.status p) tag 9 result (sourceRecord e)) ∧
      ∀ z, (s.zones.get z).bound = some i →
        (((s.zones.get z).power = .on ∨ (s.zones.get z).power = .rampDown) → (s.zones.get z).path = .playing →
          (s.zones.get z).qr ≠ none →
          ((t.zones.get z).path = .fading ∧ (t.zones.get z).copy = (s.zones.get z).copy ∧
            (t.zones.get z).bound = some i ∧ (t.zones.get z).qr = (s.zones.get z).qr ∧
            (t.zones.get z).power = (s.zones.get z).power ∧ (t.zones.get z).lastChanged = .auto ∧
            ∀ k, (t.ports.get k).flags.get (Flag.zone z).index = true) ∧
          ((∀ y, y ≠ z → (s.zones.get y).bound ≠ some i) →
            t = { s with
              sources := setAt s.sources i e
              zones := setAt s.zones z { s.zones.get z with path := .fading, lastChanged := .auto }
              ports := s.ports.raise (.zone z) }.answered p (s.status p) tag 9 result (sourceRecord e))) ∧
        (((s.zones.get z).power = .on ∨ (s.zones.get z).power = .rampDown) → (s.zones.get z).path = .fading →
          (t.zones.get z).path = .fading ∧ (t.zones.get z).copy = (s.zones.get z).copy ∧
          (t.zones.get z).bound = some i ∧ (t.zones.get z).qr = (s.zones.get z).qr ∧
          (t.zones.get z).power = (s.zones.get z).power) ∧
        (((s.zones.get z).power = .starting ∨
            (((s.zones.get z).power = .on ∨ (s.zones.get z).power = .rampDown) ∧
              ((s.zones.get z).path = .idle ∨ (s.zones.get z).path = .filling ∨
                ((s.zones.get z).path = .playing ∧ (s.zones.get z).qr = none)))) →
          (t.zones.get z).justBound { s with sources := setAt s.sources i e } (s.zones.get z).selected
            (s.zones.get z).rate ∧
          (t.zones.get z).selected = (s.zones.get z).selected ∧ (t.zones.get z).power = (s.zones.get z).power ∧
          (t.zones.get z).qv = (s.zones.get z).qv ∧
          ∀ k, (t.ports.get k).flags.get (Flag.zone z).index = true)

/-! ## Zones -/

/-- SET_VOLUME, STEP_VOLUME and SET_MUTE change one zone's qv or USER reason and its last changed by, and nothing else; the
answer carries the value applied, and the ZONE flag is set in both copies when the record changes (R77, R84, R86). That the
OK answer of SET_MUTE carries its value is read from R196 (log 15). -/
def Obligations.VolumeAndMute : Prop :=
  (∀ (s : State) (p : Port) (tag zb hi lo : Byte) (z : ZoneId) (q : Int), Ready s p → zb.toNat = z.1 →
    q = max (-160) (min 24 (hi ++ lo).toInt) →
    exec (.setVolume p tag [zb, hi, lo]) s =
      .next ({ s with
        zones := setAt s.zones z { s.zones.get z with qv := q, lastChanged := portOrigin p }
        ports := s.ports.raiseIf ((s.zones.get z).qv != q || (s.zones.get z).lastChanged != portOrigin p) (.zone z)
        }.answered p (s.status p) tag 3 (okIf (decide (q = (hi ++ lo).toInt))) (i16 q))) ∧
  (∀ (s : State) (p : Port) (tag zb nb : Byte) (z : ZoneId) (q : Int), Ready s p → zb.toNat = z.1 →
    q = max (-160) (min 24 ((s.zones.get z).qv + nb.toInt)) →
    exec (.stepVolume p tag [zb, nb]) s =
      .next ({ s with
        zones := setAt s.zones z { s.zones.get z with qv := q, lastChanged := portOrigin p }
        ports := s.ports.raiseIf ((s.zones.get z).qv != q || (s.zones.get z).lastChanged != portOrigin p) (.zone z)
        }.answered p (s.status p) tag 2 (okIf (decide (q = (s.zones.get z).qv + nb.toInt))) (i16 q))) ∧
  ∀ (s : State) (p : Port) (tag zb ob : Byte) (z : ZoneId) (on : Bool), Ready s p → zb.toNat = z.1 →
    ob = (if on then 1 else 0) →
    exec (.setMute p tag [zb, ob]) s =
      .next ({ s with
        zones := setAt s.zones z { s.zones.get z with
          mutes := { (s.zones.get z).mutes with user := on }, lastChanged := portOrigin p }
        ports := s.ports.raiseIf ((s.zones.get z).mutes.user != on || (s.zones.get z).lastChanged != portOrigin p) (.zone z)
        }.answered p (s.status p) tag 2 .ok [ob])

/-- SELECT_SOURCE by the zone's power state and path. In STANDBY and in STOPPING.DRAIN it stores the selection and does no more;
in ON and RAMP_DOWN with the path PLAYING and qr not SILENT it stores the selection and starts the fade, and in FADING it stores
it for the rebind that is pending; in STARTING, and in ON and RAMP_DOWN on any other path or with qr SILENT, it binds the source
at once, with the clock state, output rate and RATE_MISMATCH of its link and clock mode, and in ON its countdown starts afresh
or stops by the new link (R66, R78, R79, R82). A running test tone ends first, on any path (R68, R69, R84, R155). That the OK
answer carries the selection is read from R196 (log 15). -/
def Obligations.SelectSourceEffect : Prop :=
  ((∀ (s : State) (p : Port) (tag zb sb : Byte) (z : ZoneId) (src : Option SrcId), Ready s p → zb.toNat = z.1 →
    orNone 16 sb = some src → ((s.zones.get z).power = .standby ∨ (s.zones.get z).power = .drain) →
    (s.zones.get z).tone.running = false →
    exec (.selectSource p tag [zb, sb]) s =
      .next ({ s with
        zones := setAt s.zones z { s.zones.get z with selected := src, lastChanged := portOrigin p }
        ports := s.ports.raiseIf ((s.zones.get z).selected != src || (s.zones.get z).lastChanged != portOrigin p) (.zone z)
        }.answered p (s.status p) tag 2 .ok [sb])) ∧
   (∀ (s : State) (p : Port) (tag zb sb : Byte) (z : ZoneId) (src : Option SrcId), Ready s p → zb.toNat = z.1 →
    orNone 16 sb = some src → ((s.zones.get z).power = .on ∨ (s.zones.get z).power = .rampDown) →
    (s.zones.get z).path = .playing → (s.zones.get z).qr ≠ none → (s.zones.get z).tone.running = false →
    exec (.selectSource p tag [zb, sb]) s =
      .next ({ s with
        zones := setAt s.zones z { s.zones.get z with selected := src, path := .fading, lastChanged := portOrigin p }
        ports := s.ports.raise (.zone z) }.answered p (s.status p) tag 2 .ok [sb])) ∧
   ∀ (s : State) (p : Port) (tag zb sb : Byte) (z : ZoneId) (src : Option SrcId), Ready s p → zb.toNat = z.1 →
    orNone 16 sb = some src → ((s.zones.get z).power = .on ∨ (s.zones.get z).power = .rampDown) →
    (s.zones.get z).path = .fading → (s.zones.get z).tone.running = false →
    exec (.selectSource p tag [zb, sb]) s =
      .next ({ s with
        zones := setAt s.zones z { s.zones.get z with selected := src, lastChanged := portOrigin p }
        ports := s.ports.raiseIf ((s.zones.get z).selected != src || (s.zones.get z).lastChanged != portOrigin p) (.zone z)
        }.answered p (s.status p) tag 2 .ok [sb])) ∧
  (∀ (s : State) (p : Port) (tag zb sb : Byte) (z : ZoneId) (src : Option SrcId), Ready s p → zb.toNat = z.1 →
    orNone 16 sb = some src →
    ((s.zones.get z).power = .starting ∨
      (((s.zones.get z).power = .on ∨ (s.zones.get z).power = .rampDown) ∧
        ((s.zones.get z).path = .idle ∨ (s.zones.get z).path = .filling ∨
          ((s.zones.get z).path = .playing ∧ (s.zones.get z).qr = none)))) →
    ∃ t, exec (.selectSource p tag [zb, sb]) s = .next t ∧ t.slot p = some { tag := tag, result := .ok, data := [sb] } ∧
      (t.zones.get z).selected = src ∧ (t.zones.get z).justBound s src (s.zones.get z).rate ∧
      (t.zones.get z).power = (s.zones.get z).power ∧
      (t.zones.get z).qv = (s.zones.get z).qv ∧ (t.zones.get z).tone.running = false ∧
      (t.zones.get z).lastChanged = portOrigin p ∧ (∀ k, (t.ports.get k).flags.get (Flag.zone z).index = true) ∧
      zoneFrameKept s t) ∧
  ∀ (s : State) (p : Port) (tag zb sb : Byte) (z : ZoneId) (src : Option SrcId), Ready s p → zb.toNat = z.1 →
    orNone 16 sb = some src → (s.zones.get z).power = .on →
    ((s.zones.get z).path = .fading ∨ ((s.zones.get z).path = .playing ∧ (s.zones.get z).qr ≠ none)) →
    (s.zones.get z).tone.running = true → (s.zones.get z).mutes.tone = true →
    exec (.selectSource p tag [zb, sb]) s =
      .next ({ s with
        zones := setAt s.zones z { s.zones.get z with
          selected := src, path := .fading, lastChanged := portOrigin p
          mutes := { (s.zones.get z).mutes with tone := false }
          tone := { (s.zones.get z).tone with running := false, speaker := none, dwellTimer := none } }
        ports := s.ports.raise (.zone z) }.answered p (s.status p) tag 2 .ok [sb])

/-- POWER_ON by the zone's power state: from STANDBY it is answered ACCEPTED, binds the selected source, hands CENTRE and enters
STARTING with the start timer at 150 ms; in STARTING and ON it changes the origin alone; RAMP_DOWN returns to ON with its
countdown started when the zone is quiet; in DRAIN it sets restart-pending with its origin (R60, R61, R62, R63, R64, R66,
R84). The binding sets the clock state and the output rate by the zone's link and clock mode (R78, R79). -/
def Obligations.PowerOnEffect : Prop :=
  (∀ (s : State) (p : Port) (tag zb : Byte) (z : ZoneId), Ready s p → zb.toNat = z.1 → (s.zones.get z).power = .standby →
    ∃ t, exec (.powerOn p tag [zb]) s = .next t ∧ t.slot p = some { tag := tag, result := .accepted, data := [] } ∧
      (t.zones.get z).power = .starting ∧ (t.zones.get z).startTimer = some { start := s.ms, len := 150 } ∧
      (t.zones.get z).drive = .centre ∧ (t.zones.get z).lastChanged = portOrigin p ∧
      (t.zones.get z).justBound s (s.zones.get z).selected (s.zones.get z).rate ∧
      (t.zones.get z).selected = (s.zones.get z).selected ∧
      (t.zones.get z).qv = (s.zones.get z).qv ∧ zoneFrameKept s t ∧
      ((s.zones.get z).decode = .none → ∀ y, y ≠ z → t.zones.get y = s.zones.get y)) ∧
  (∀ (s : State) (p : Port) (tag zb : Byte) (z : ZoneId), Ready s p → zb.toNat = z.1 →
    ((s.zones.get z).power = .starting ∨ (s.zones.get z).power = .on) →
    exec (.powerOn p tag [zb]) s =
      .next ({ s with
        zones := setAt s.zones z { s.zones.get z with lastChanged := portOrigin p }
        ports := s.ports.raiseIf ((s.zones.get z).lastChanged != portOrigin p) (.zone z)
        }.answered p (s.status p) tag 1 .ok [])) ∧
  (∀ (s : State) (p : Port) (tag zb : Byte) (z : ZoneId) (cd : Option Timer), Ready s p → zb.toNat = z.1 →
    (s.zones.get z).power = .rampDown →
    cd = (if (s.zones.get z).autoStandby = 0 ∨ ∃ l, (s.zones.get z).link = some l ∧ (s.monitors.get l).state = .active then
        (s.zones.get z).countdown
      else some { start := s.ms, len := (s.zones.get z).autoStandby * 60000 }) →
    exec (.powerOn p tag [zb]) s =
      .next ({ s with
        zones := setAt s.zones z { s.zones.get z with power := .on, countdown := cd, lastChanged := portOrigin p }
        ports := s.ports.raise (.zone z) }.answered p (s.status p) tag 1 .ok [])) ∧
  ∀ (s : State) (p : Port) (tag zb : Byte) (z : ZoneId), Ready s p → zb.toNat = z.1 → (s.zones.get z).power = .drain →
    exec (.powerOn p tag [zb]) s =
      .next ({ s with
        zones := setAt s.zones z { s.zones.get z with restart := some (portOrigin p), lastChanged := portOrigin p }
        ports := s.ports.raiseIf
          ((s.zones.get z).restart != some (portOrigin p) || (s.zones.get z).lastChanged != portOrigin p) (.zone z)
        }.answered p (s.status p) tag 1 .accepted [])

/-- POWER_OFF by the zone's power state: in STANDBY and RAMP_DOWN it changes the origin alone; STARTING is left at once for
STANDBY with everything released; in ON the zone enters RAMP_DOWN with its countdown stopped and its tone ended, and at once
DRAIN when qr is SILENT; in DRAIN restart-pending is cleared (R60 to R64, R155). A release leaves no decode position: the freed
unit goes to a zone of the wait list, which names waiting zones alone (R49, R51, R52). -/
def Obligations.PowerOffEffect : Prop :=
  (∀ (s : State) (p : Port) (tag zb : Byte) (z : ZoneId), Ready s p → zb.toNat = z.1 →
    ((s.zones.get z).power = .standby ∨ (s.zones.get z).power = .rampDown) →
    exec (.powerOff p tag [zb]) s =
      .next ({ s with
        zones := setAt s.zones z { s.zones.get z with lastChanged := portOrigin p }
        ports := s.ports.raiseIf ((s.zones.get z).lastChanged != portOrigin p) (.zone z)
        }.answered p (s.status p) tag 1 .ok [])) ∧
  (∀ (s : State) (p : Port) (tag zb : Byte) (z : ZoneId), Ready s p → zb.toNat = z.1 → (s.zones.get z).power = .starting →
    (∀ y, y ∈ s.waitList → (s.zones.get y).decode = .waiting) →
    ∃ t, exec (.powerOff p tag [zb]) s = .next t ∧ t.slot p = some { tag := tag, result := .ok, data := [] } ∧
      (t.zones.get z).power = .standby ∧ (t.zones.get z).released ∧ (t.zones.get z).qr = none ∧
      (t.zones.get z).startTimer = none ∧ (t.zones.get z).drive = .off ∧
      (t.zones.get z).lastChanged = portOrigin p ∧ zoneFrameKept s t) ∧
  (∀ (s : State) (p : Port) (tag zb : Byte) (z : ZoneId), Ready s p → zb.toNat = z.1 → (s.zones.get z).power = .on →
    (s.zones.get z).qr ≠ none →
    ∃ t, exec (.powerOff p tag [zb]) s = .next t ∧ t.slot p = some { tag := tag, result := .accepted, data := [] } ∧
      (t.zones.get z).power = .rampDown ∧ (t.zones.get z).countdown = none ∧ (t.zones.get z).tone.running = false ∧
      (t.zones.get z).qr = (s.zones.get z).qr ∧ (t.zones.get z).bound = (s.zones.get z).bound ∧
      (t.zones.get z).lastChanged = portOrigin p ∧ zoneFrameKept s t ∧ ∀ y, y ≠ z → t.zones.get y = s.zones.get y) ∧
  (∀ (s : State) (p : Port) (tag zb : Byte) (z : ZoneId), Ready s p → zb.toNat = z.1 → (s.zones.get z).power = .on →
    (s.zones.get z).qr = none → (∀ y, y ∈ s.waitList → (s.zones.get y).decode = .waiting) →
    ∃ t, exec (.powerOff p tag [zb]) s = .next t ∧ t.slot p = some { tag := tag, result := .accepted, data := [] } ∧
      (t.zones.get z).power = .drain ∧ (t.zones.get z).released ∧ (t.zones.get z).drive = .centre ∧
      (t.zones.get z).drainTimer = some { start := s.ms, len := 50 } ∧ (t.zones.get z).countdown = none ∧
      (t.zones.get z).tone.running = false ∧ (t.zones.get z).lastChanged = portOrigin p ∧ zoneFrameKept s t) ∧
  ∀ (s : State) (p : Port) (tag zb : Byte) (z : ZoneId), Ready s p → zb.toNat = z.1 → (s.zones.get z).power = .drain →
    exec (.powerOff p tag [zb]) s =
      .next ({ s with
        zones := setAt s.zones z { s.zones.get z with restart := none, lastChanged := portOrigin p }
        ports := s.ports.raiseIf ((s.zones.get z).restart != none || (s.zones.get z).lastChanged != portOrigin p) (.zone z)
        }.answered p (s.status p) tag 1 .ok [])

/-- The start timer takes the zone to ON with drive mode AUDIO and, where it is quiet and its setting above 0, starts its
countdown; the drain timer takes it to STANDBY with drive mode OFF, or, with restart-pending set, on into STARTING with the
origin that restart-pending held and a binding (R66, R78, R79); an auto-standby expiry in ON ends the tone and ramps down, or
goes to DRAIN at once when qr is SILENT, and sets SIGNAL in both copies (R61, R62, R63, R64, R82, R155). A release leaves no
decode position, the wait list naming waiting zones alone (R49, R51). An expiry of a timer that does not run, or has time left,
does not happen (log 4). -/
def Obligations.ZoneTimerEvents : Prop :=
  (∀ (s : State) (z : ZoneId), (s.zones.get z).power = .starting → ranOut (s.zones.get z).startTimer s.ms →
    ∃ t, exec (.startTimerExpiry z) s = .next t ∧ (t.zones.get z).power = .on ∧ (t.zones.get z).startTimer = none ∧
      (t.zones.get z).drive = .audio ∧ (t.zones.get z).lastChanged = .auto ∧
      (t.zones.get z).countdown = (if 0 < (s.zones.get z).autoStandby ∧ (s.zones.get z).quiet s then
        (s.zones.get z).fullCountdown s else (s.zones.get z).countdown) ∧
      (t.zones.get z).qr = (s.zones.get z).qr ∧ (t.zones.get z).path = (s.zones.get z).path ∧
      (t.zones.get z).bound = (s.zones.get z).bound ∧ (∀ y, y ≠ z → t.zones.get y = s.zones.get y) ∧ zoneFrameKept s t) ∧
  (∀ (s : State) (z : ZoneId), (s.zones.get z).power = .drain → ranOut (s.zones.get z).drainTimer s.ms →
    (s.zones.get z).restart = none →
    ∃ t, exec (.drainTimerExpiry z) s = .next t ∧ (t.zones.get z).power = .standby ∧ (t.zones.get z).drainTimer = none ∧
      (t.zones.get z).drive = .off ∧ (t.zones.get z).lastChanged = .auto ∧
      (∀ y, y ≠ z → t.zones.get y = s.zones.get y) ∧ zoneFrameKept s t) ∧
  (∀ (s : State) (z : ZoneId) (o : Origin), (s.zones.get z).power = .drain → ranOut (s.zones.get z).drainTimer s.ms →
    (s.zones.get z).restart = some o →
    ∃ t, exec (.drainTimerExpiry z) s = .next t ∧ (t.zones.get z).power = .starting ∧ (t.zones.get z).restart = none ∧
      (t.zones.get z).drive = .centre ∧ (t.zones.get z).startTimer = some { start := s.ms, len := 150 } ∧
      (t.zones.get z).justBound s (s.zones.get z).selected (s.zones.get z).rate ∧ (t.zones.get z).lastChanged = o ∧
      zoneFrameKept s t) ∧
  (∀ (s : State) (z : ZoneId),
    (¬ranOut (s.zones.get z).startTimer s.ms → exec (.startTimerExpiry z) s = .next s) ∧
    (¬ranOut (s.zones.get z).drainTimer s.ms → exec (.drainTimerExpiry z) s = .next s) ∧
    (¬ranOut (s.zones.get z).countdown s.ms → exec (.autoStandbyExpiry z) s = .next s)) ∧
  (∀ (s : State) (z : ZoneId), (s.zones.get z).power = .on → ranOut (s.zones.get z).countdown s.ms →
    (s.zones.get z).qr ≠ none →
    ∃ t, exec (.autoStandbyExpiry z) s = .next t ∧ (t.zones.get z).power = .rampDown ∧ (t.zones.get z).countdown = none ∧
      (t.zones.get z).tone.running = false ∧ (t.zones.get z).qr = (s.zones.get z).qr ∧
      (t.zones.get z).bound = (s.zones.get z).bound ∧
      (t.zones.get z).lastChanged = .auto ∧ (∀ p, (t.ports.get p).flags.get Flag.signal.index = true) ∧
      (∀ y, y ≠ z → t.zones.get y = s.zones.get y) ∧ zoneFrameKept s t) ∧
  ∀ (s : State) (z : ZoneId), (s.zones.get z).power = .on → ranOut (s.zones.get z).countdown s.ms →
    (s.zones.get z).qr = none → (∀ y, y ∈ s.waitList → (s.zones.get y).decode = .waiting) →
    ∃ t, exec (.autoStandbyExpiry z) s = .next t ∧ (t.zones.get z).power = .drain ∧ (t.zones.get z).released ∧
      (t.zones.get z).drive = .centre ∧ (t.zones.get z).drainTimer = some { start := s.ms, len := 50 } ∧
      (t.zones.get z).countdown = none ∧ (t.zones.get z).tone.running = false ∧ (t.zones.get z).lastChanged = .auto ∧
      (∀ p, (t.ports.get p).flags.get Flag.signal.index = true) ∧ zoneFrameKept s t

/-- What a binding asks of the decode arbiter and of the delay allocator. A zone that comes to need decode is attached to the
unit that serves its link, or to the lowest-numbered FREE unit, which enters SYNCING, or waits, MAIN at the head and another
zone at the tail; one on a link that is not BSF has no position (R38, R45, R49, R50, R55). A zone that leaves a unit frees it
when it was the last, and a freed unit goes at once to the head of the wait list and to the other waiters on that link (R47,
R51, R52). A rebind on the same link keeps the position; on another one it is a release and a bind, by which a waiter loses
its place, and the unit that the release frees goes to the head of the list first (R53). The allocation of a binding is n × L
words when they fit the free amount and floor(F / n) frames for each speaker otherwise, which sets LIMITED (R109, R112,
R113). -/
def Obligations.BindingObtains : Prop :=
  (∀ (s : State) (p : Port) (tag zb : Byte) (z : ZoneId) (i : SrcId), Ready s p → zb.toNat = z.1 →
    (s.zones.get z).power = .standby → (s.zones.get z).decode = .none → (s.zones.get z).selected = some i →
    ∃ t, exec (.powerOn p tag [zb]) s = .next t ∧
      (∀ l d, (s.sources.get i).input = some l → (s.links.get l).state.carries = true →
        (s.links.get l).lastGood = some d → d.format = .bsf →
        (∀ u, (s.units.get u).link = some l → (∀ v, v < u → (s.units.get v).link ≠ some l) →
          (t.zones.get z).decode = .attached u ∧ (t.zones.get z).mutes.decode = decide ((s.units.get u).state = .syncing) ∧
          t.units = s.units ∧ t.waitList = s.waitList) ∧
        ((∀ v, (s.units.get v).link ≠ some l) →
          (∀ u, (s.units.get u).state = .free → (∀ v, v < u → (s.units.get v).state ≠ .free) →
            (t.zones.get z).decode = .attached u ∧ (t.zones.get z).mutes.decode = true ∧ t.waitList = s.waitList ∧
            (t.units.get u).state = .syncing ∧ (t.units.get u).link = some l ∧ (t.units.get u).output = [] ∧
            (t.units.get u).vals.map = 0 ∧ (t.units.get u).mark = false ∧ (t.units.get u).store = none ∧
            (t.units.get u).concealed = 0 ∧ (t.units.get u).silenced = 0 ∧ ∀ v, v ≠ u → t.units.get v = s.units.get v) ∧
          ((∀ v, (s.units.get v).state ≠ .free) →
            (t.zones.get z).decode = .waiting ∧ (t.zones.get z).mutes.decode = true ∧ t.units = s.units ∧
            t.waitList = if z = 0 then z :: s.waitList else s.waitList ++ [z]))) ∧
      ((∀ l d, (s.sources.get i).input = some l → (s.links.get l).state.carries = true →
          (s.links.get l).lastGood = some d → d.format ≠ .bsf) →
        (t.zones.get z).decode = .none ∧ t.units = s.units ∧ t.waitList = s.waitList) ∧
      (∀ (l : LinkId) (n want free hz : Nat), (s.sources.get i).input = some l → hz = (t.zones.get z).rate.hz →
        n = (zoneChannels s.speakers z).length → want = ((s.sources.get i).lipSync * hz + 500000) / 1000000 →
        free = 193024 - ((zoneIds.filter fun y => decide (y ≠ z)).map fun y =>
          ((s.zones.get y).alloc.map (·.words)).getD 0).sum →
        (n * want ≤ free → (t.zones.get z).alloc =
            some { words := n * want, frames := want, micros := (s.sources.get i).lipSync, limited := false } ∧
          ∀ k, (t.ports.get k).flags.get Flag.limited.index = (s.ports.get k).flags.get Flag.limited.index) ∧
        (free < n * want → (t.zones.get z).alloc =
            some { words := n * (free / n), frames := free / n, micros := free / n * 1000000 / hz, limited := true } ∧
          ∀ k, (t.ports.get k).flags.get Flag.limited.index = true)) ∧
      ((s.sources.get i).input = none →
        (t.zones.get z).alloc = some { words := 0, frames := 0, micros := 0, limited := false })) ∧
  (∀ (s : State) (p : Port) (tag zb : Byte) (z : ZoneId) (u : UnitId), Ready s p → zb.toNat = z.1 →
    (s.zones.get z).power = .starting → (s.zones.get z).decode = .attached u →
    (∀ y, y ∈ s.waitList → (s.zones.get y).decode = .waiting) →
    ∃ t, exec (.powerOff p tag [zb]) s = .next t ∧ (t.zones.get z).decode = .none ∧
      ((∃ y, y ≠ z ∧ (s.zones.get y).decode = .attached u) → t.units = s.units ∧ t.waitList = s.waitList) ∧
      ((∀ y, y ≠ z → (s.zones.get y).decode ≠ .attached u) →
        (s.waitList = [] → t.waitList = [] ∧ (∀ v, v ≠ u → t.units.get v = s.units.get v) ∧
          t.units.get u = { s.units.get u with state := .free, link := none, output := [], owed := false }) ∧
        ∀ y rest k, s.waitList = y :: rest → (s.zones.get y).link = some k →
          (t.units.get u).state = .syncing ∧ (t.units.get u).link = some k ∧
          t.waitList = rest.filter (fun w => decide ((s.zones.get w).link ≠ some k)) ∧
          (∀ v, v ≠ u → t.units.get v = s.units.get v) ∧
          ∀ w, (w = y ∨ (w ∈ rest ∧ (s.zones.get w).link = some k)) →
            (t.zones.get w).decode = .attached u ∧ (t.zones.get w).mutes.decode = true)) ∧
  ∀ (s : State) (p : Port) (tag zb sb : Byte) (z : ZoneId) (i : SrcId), Ready s p → zb.toNat = z.1 → sb.toNat = i.1 →
    (s.zones.get z).power = .starting → (∀ y, y ∈ s.waitList → (s.zones.get y).decode = .waiting) →
    ∃ t, exec (.selectSource p tag [zb, sb]) s = .next t ∧
      (∀ l d, (s.zones.get z).link = some l → (s.sources.get i).input = some l → (s.links.get l).state.carries = true →
        (s.links.get l).lastGood = some d → d.format = .bsf → (s.zones.get z).decode ≠ .none →
        (t.zones.get z).decode = (s.zones.get z).decode ∧ t.units = s.units ∧ t.waitList = s.waitList) ∧
      ((∀ l d, (s.sources.get i).input = some l → (s.links.get l).state.carries = true →
          (s.links.get l).lastGood = some d → d.format ≠ .bsf) → (t.zones.get z).decode = .none) ∧
      ∀ l d, (s.zones.get z).link ≠ some l → (s.sources.get i).input = some l → (s.links.get l).state.carries = true →
        (s.links.get l).lastGood = some d → d.format = .bsf →
        ((s.zones.get z).decode = .waiting → (∀ v, (s.units.get v).link ≠ some l ∧ (s.units.get v).state ≠ .free) →
          (t.zones.get z).decode = .waiting ∧ t.units = s.units ∧
          t.waitList = (if z = 0 then z :: s.waitList.filter (fun y => decide (y ≠ z))
            else s.waitList.filter (fun y => decide (y ≠ z)) ++ [z])) ∧
        ∀ u y k, (s.zones.get z).decode = .attached u → (∀ w, w ≠ z → (s.zones.get w).decode ≠ .attached u) →
          (∀ v, v ≠ u → (s.units.get v).link ≠ some l ∧ (s.units.get v).state ≠ .free) → s.waitList = [y] →
          (s.zones.get y).link = some k → k ≠ l →
          (t.zones.get y).decode = .attached u ∧ (t.units.get u).link = some k ∧ (t.zones.get z).decode = .waiting ∧
          t.waitList = [z]

/-- A ramp step moves qr one step toward the effective target, sets no flag and changes nothing else (R75, R86). The ramp step
that brings qr to SILENT: in RAMP_DOWN the zone releases its source and enters DRAIN with drive mode CENTRE and the drain timer
at 50 ms, its decode position given up (R49, R51: the wait list names waiting zones alone), the delay content of its speakers
discarded (R111) and their DC watches CLEAR (R139); in ON with the path FADING it binds the source selected by then, with the
clock and rate of its link and the countdown by its monitor (R63, R66, R68, R75, R78, R79, R82). That RAMP_STEP takes its step
whatever the ramp frame count is the model's choice (log 5): R75 has a step after each ramp interval of frames. A ramp step
records nothing in last changed by (R84); that this holds of a step that ends in a release or a binding is log 23. -/
def Obligations.RampStepEffect : Prop :=
  (∀ (s : State) (z : ZoneId) (q : Option Int), (s.zones.get z).power ≠ .standby →
     (((s.zones.get z).qr = none ∧ (s.zones.get z).target = none ∧ q = none) ∨
       (∃ g, (s.zones.get z).qr = none ∧ (s.zones.get z).target = some g ∧ q = some (-160)) ∨
       (∃ x, (s.zones.get z).qr = some x ∧ -160 < x ∧ (s.zones.get z).target = none ∧ q = some (x - 1)) ∨
       (∃ x g, (s.zones.get z).qr = some x ∧ (s.zones.get z).target = some g ∧ x < g ∧ q = some (x + 1)) ∨
       (∃ x g, (s.zones.get z).qr = some x ∧ (s.zones.get z).target = some g ∧ g < x ∧ q = some (x - 1)) ∨
       (∃ x, (s.zones.get z).qr = some x ∧ (s.zones.get z).target = some x ∧ q = some x) ∨
       ((s.zones.get z).qr = some (-160) ∧ (s.zones.get z).target = none ∧ (s.zones.get z).power ≠ .rampDown ∧
         (s.zones.get z).path ≠ .fading ∧ q = none)) →
     exec (.rampStep z) s =
       .next { s with zones := setAt s.zones z { s.zones.get z with rampCount := 0, qr := q } }) ∧
  ((∀ (s : State) (z : ZoneId), (s.zones.get z).power = .rampDown → (s.zones.get z).qr = some (-160) →
     (∀ y, y ∈ s.waitList → (s.zones.get y).decode = .waiting) →
     ∃ t, exec (.rampStep z) s = .next t ∧ (t.zones.get z).power = .drain ∧ (t.zones.get z).qr = none ∧
       (t.zones.get z).released ∧ (t.zones.get z).drive = .centre ∧
       (t.zones.get z).drainTimer = some { start := s.ms, len := 50 } ∧ (t.zones.get z).selected = (s.zones.get z).selected ∧
       (t.zones.get z).lastChanged = (s.zones.get z).lastChanged ∧
       (∀ c, (s.speakers.get c).zone = some z → (t.channels.get c).lipSection = [] ∧ (t.channels.get c).line = [] ∧
         (t.channels.get c).watch = .clear) ∧ zoneFrameKept s t) ∧
   ∀ (s : State) (z : ZoneId), (s.zones.get z).power = .on → (s.zones.get z).path = .fading →
     (s.zones.get z).qr = some (-160) →
     ∃ t, exec (.rampStep z) s = .next t ∧ (t.zones.get z).power = .on ∧
       (t.zones.get z).lastChanged = (s.zones.get z).lastChanged ∧
       (t.zones.get z).justBound s (s.zones.get z).selected (s.zones.get z).rate ∧ zoneFrameKept s t)

/-- The write that brings the buffer to 64 frames ends FILLING: the path becomes PLAYING (R67, R80, R86); it records nothing in last
changed by (R84, log 23). In PLAYING and FADING it clears the refilling mark and does no more (R81). An
output frame of a zone in PLAYING or FADING reads the head of its buffer; one in FILLING or IDLE, or with the refilling mark
set, is a zero frame and reads nothing (R67, R81, R97). Each speaker's mix value, gain output, delays and waiting duty count
follow from the frame, and each mix value or gain output that saturates adds 1 to the clip count, up to 65,535 (R103); while a
test tone runs, the speaker under test
takes the tone sample in place of its mix value and the others zero, and the noise register and the pulse count advance.
Descriptor values that the frame carries come into force, and a coefficient set that they call for takes over whole with the
frame. An empty buffer is an underflow that sets the refilling mark and counts one REPEAT; a zone that is not bound counts the
frame for its ramp and forms no sample. The output frame that completes the ramp interval forms its samples with qr as it
stands and then takes the ramp step, in every power state that counts; that the step comes after the samples is log 24 (R70,
R75, R81, R89, R96, R97, R103, R104, R105, R111, R125, R151, R152). -/
def Obligations.BufferEffects : Prop :=
  (∀ (s : State) (z : ZoneId) (x : Vector Sample 8), (s.zones.get z).power.isBound = true →
     (s.zones.get z).link.isSome = true → (s.zones.get z).path = .filling → (s.zones.get z).buffer.length = 63 →
     exec (.bufferFilled z x) s = .next { s with
       zones := setAt s.zones z { s.zones.get z with
         buffer := (s.zones.get z).buffer ++ [{ samples := x, vals := none }], path := .playing, refilling := false }
       ports := s.ports.raise (.zone z) }) ∧
  (∀ (s : State) (z : ZoneId) (x : Vector Sample 8), (s.zones.get z).power.isBound = true →
     (s.zones.get z).link.isSome = true → ((s.zones.get z).path = .playing ∨ (s.zones.get z).path = .fading) →
     (s.zones.get z).refilling = true → (s.zones.get z).buffer.length = 63 →
     exec (.bufferFilled z x) s = .next { s with
       zones := setAt s.zones z { s.zones.get z with
         buffer := (s.zones.get z).buffer ++ [{ samples := x, vals := none }], refilling := false } }) ∧
  (∀ (s : State) (z : ZoneId) (rows : List CoefRow), (s.zones.get z).power.isBound = true →
     ((s.zones.get z).path = .filling ∨ (s.zones.get z).path = .idle ∨ (s.zones.get z).refilling = true ∨
       (s.zones.get z).buffer = []) →
     (s.zones.get z).shadow = none → (s.zones.get z).tone.running = false →
     (s.zones.get z).rampCount + 1 < (s.zones.get z).rampInterval →
     rows = activeRows s.speakers z (s.zones.get z).active → (rows.map (·.channel)).Nodup →
     ∃ t, exec (.zoneOutputFrame z) s = .next t ∧ (t.zones.get z).buffer = (s.zones.get z).buffer ∧
       (t.zones.get z).path = (s.zones.get z).path ∧ (t.zones.get z).vals = (s.zones.get z).vals ∧
       (t.zones.get z).qr = (s.zones.get z).qr ∧
       ((s.zones.get z).clips ≤ 65535 → (t.zones.get z).clips = (s.zones.get z).clips) ∧
       ((s.zones.get z).path = .filling ∨ (s.zones.get z).path = .idle ∨ (s.zones.get z).refilling = true →
         (t.zones.get z).refilling = (s.zones.get z).refilling ∧ (t.zones.get z).repeats = (s.zones.get z).repeats) ∧
       (∀ row ∈ rows, t.channels.get row.channel =
         feedChannel s.ms (s.pairs.get (pairOf row.channel)).dcTime (s.zones.get z).resolution (s.zones.get z).minPulse 0
           (s.channels.get row.channel)) ∧
       (∀ c, c ∉ rows.map (·.channel) → t.channels.get c = s.channels.get c) ∧
       (∀ y, y ≠ z → t.zones.get y = s.zones.get y) ∧ t.pairs = s.pairs ∧ zoneFrameKept s t) ∧
  ((∀ (s : State) (z : ZoneId) (f : BufFrame) (rest : List BufFrame) (rows : List CoefRow),
     (s.zones.get z).power.isBound = true → ((s.zones.get z).path = .playing ∨ (s.zones.get z).path = .fading) → (s.zones.get z).refilling = false →
     (s.zones.get z).buffer = f :: rest → f.vals = none → (s.zones.get z).shadow = none →
     (s.zones.get z).tone.running = false → (s.zones.get z).rampCount + 1 < (s.zones.get z).rampInterval →
     rows = activeRows s.speakers z (s.zones.get z).active → (rows.map (·.channel)).Nodup →
     ∃ t, exec (.zoneOutputFrame z) s = .next t ∧ (t.zones.get z).buffer = rest ∧
       (t.zones.get z).rampCount = (s.zones.get z).rampCount + 1 ∧ (t.zones.get z).qr = (s.zones.get z).qr ∧
       ((s.zones.get z).clips ≤ 65535 → (t.zones.get z).clips = min 65535 ((s.zones.get z).clips + (rows.map fun row =>
         (if (mixValue row.coefs f.samples).2 then 1 else 0) +
         (if (gainOutput (mixValue row.coefs f.samples).1 (s.zones.get z).appliedGain
             (((s.zones.get z).copy.map (·.trim)).getD 0) (s.speakers.get row.channel).trim (s.zones.get z).night
             (((s.zones.get z).vals.map (·.drc)).getD 0)).2 then 1 else 0)).sum)) ∧
       (∀ row ∈ rows, t.channels.get row.channel =
         feedChannel s.ms (s.pairs.get (pairOf row.channel)).dcTime (s.zones.get z).resolution (s.zones.get z).minPulse
           (gainOutput (mixValue row.coefs f.samples).1 (s.zones.get z).appliedGain
             (((s.zones.get z).copy.map (·.trim)).getD 0) (s.speakers.get row.channel).trim (s.zones.get z).night
             (((s.zones.get z).vals.map (·.drc)).getD 0)).1 (s.channels.get row.channel)) ∧
       (∀ c, c ∉ rows.map (·.channel) → t.channels.get c = s.channels.get c) ∧
       (∀ y, y ≠ z → t.zones.get y = s.zones.get y) ∧ t.pairs = s.pairs ∧ zoneFrameKept s t) ∧
   (∀ (s : State) (z : ZoneId) (f : BufFrame) (rest : List BufFrame) (rows : List CoefRow) (x : Sample),
     (s.zones.get z).power.isBound = true → ((s.zones.get z).path = .playing ∨ (s.zones.get z).path = .fading) → (s.zones.get z).refilling = false →
     (s.zones.get z).buffer = f :: rest → f.vals = none → (s.zones.get z).shadow = none →
     (s.zones.get z).tone.running = true → (s.zones.get z).rampCount + 1 < (s.zones.get z).rampInterval →
     x = (match (s.zones.get z).tone.pattern with
       | .noise => noiseSample (noiseShift (s.zones.get z).tone.noise)
       | .pulse => if (s.zones.get z).tone.pulse = 0 then 4194304 else 0) →
     rows = activeRows s.speakers z (s.zones.get z).active → (rows.map (·.channel)).Nodup →
     ∃ t, exec (.zoneOutputFrame z) s = .next t ∧ (t.zones.get z).buffer = rest ∧
       (t.zones.get z).tone = { (s.zones.get z).tone with
         noise := noiseShift (s.zones.get z).tone.noise
         pulse := if (s.zones.get z).tone.pulse + 1 < (s.zones.get z).rate.hz / 10 then (s.zones.get z).tone.pulse + 1 else 0 } ∧
       ((s.zones.get z).clips ≤ 65535 → (t.zones.get z).clips = min 65535 ((s.zones.get z).clips + (rows.map fun row =>
         (if (gainOutput (if (s.zones.get z).tone.speaker = some row.channel then x else 0) (s.zones.get z).appliedGain
             (((s.zones.get z).copy.map (·.trim)).getD 0) (s.speakers.get row.channel).trim (s.zones.get z).night
             (((s.zones.get z).vals.map (·.drc)).getD 0)).2 then 1 else 0)).sum)) ∧
       (∀ row ∈ rows, t.channels.get row.channel =
         feedChannel s.ms (s.pairs.get (pairOf row.channel)).dcTime (s.zones.get z).resolution (s.zones.get z).minPulse
           (gainOutput (if (s.zones.get z).tone.speaker = some row.channel then x else 0) (s.zones.get z).appliedGain
             (((s.zones.get z).copy.map (·.trim)).getD 0) (s.speakers.get row.channel).trim (s.zones.get z).night
             (((s.zones.get z).vals.map (·.drc)).getD 0)).1 (s.channels.get row.channel)) ∧
       t.pairs = s.pairs ∧ zoneFrameKept s t) ∧
   (∀ (s : State) (z : ZoneId) (f : BufFrame) (rest : List BufFrame) (v : DescValues),
     (s.zones.get z).power.isBound = true → ((s.zones.get z).path = .playing ∨ (s.zones.get z).path = .fading) → (s.zones.get z).refilling = false →
     (s.zones.get z).buffer = f :: rest → f.vals = some v → (s.zones.get z).rampCount + 1 < (s.zones.get z).rampInterval →
     ∃ t, exec (.zoneOutputFrame z) s = .next t ∧ (t.zones.get z).vals = some v ∧ (t.zones.get z).shadow = none ∧
       ((∀ w, (s.zones.get z).vals = some w → w.map ≠ v.map ∨ w.pref ≠ v.pref ∨ w.lfe ≠ v.lfe) →
         (t.zones.get z).active = some (buildSet s.speakers z (t.zones.get z).effMode v)) ∧
       (∀ w, (s.zones.get z).vals = some w → w.map = v.map → w.pref = v.pref → w.lfe = v.lfe →
         (t.zones.get z).active = if (s.zones.get z).shadow = none then (s.zones.get z).active else (s.zones.get z).shadow)) ∧
   (∀ (s : State) (z : ZoneId), (s.zones.get z).power.isBound = true → ((s.zones.get z).path = .playing ∨ (s.zones.get z).path = .fading) →
     (s.zones.get z).refilling = false → (s.zones.get z).buffer = [] →
     (s.zones.get z).rampCount + 1 < (s.zones.get z).rampInterval →
     ∃ t, exec (.zoneOutputFrame z) s = .next t ∧ (t.zones.get z).refilling = true ∧ (t.zones.get z).buffer = [] ∧
       (t.zones.get z).repeats = min 65535 ((s.zones.get z).repeats + 1) ∧ (t.zones.get z).path = (s.zones.get z).path) ∧
   (∀ (s : State) (z : ZoneId), (s.zones.get z).power = .drain →
     (s.zones.get z).rampCount + 1 < (s.zones.get z).rampInterval →
     exec (.zoneOutputFrame z) s = .next { s with
       zones := setAt s.zones z { s.zones.get z with rampCount := (s.zones.get z).rampCount + 1 } })) ∧
  ((∀ (s : State) (z : ZoneId) (f : BufFrame) (rest : List BufFrame) (rows : List CoefRow) (x g q : Int),
     (s.zones.get z).power = .on → (s.zones.get z).path = .playing → (s.zones.get z).refilling = false →
     (s.zones.get z).buffer = f :: rest → f.vals = none → (s.zones.get z).shadow = none →
     (s.zones.get z).tone.running = false → (s.zones.get z).rampInterval ≤ (s.zones.get z).rampCount + 1 →
     (s.zones.get z).qr = some x → (s.zones.get z).target = some g →
     q = (if x < g then x + 1 else if g < x then x - 1 else x) →
     rows = activeRows s.speakers z (s.zones.get z).active → (rows.map (·.channel)).Nodup →
     ∃ t, exec (.zoneOutputFrame z) s = .next t ∧ (t.zones.get z).buffer = rest ∧ (t.zones.get z).rampCount = 0 ∧
       (t.zones.get z).qr = some q ∧
       (∀ row ∈ rows, t.channels.get row.channel =
         feedChannel s.ms (s.pairs.get (pairOf row.channel)).dcTime (s.zones.get z).resolution (s.zones.get z).minPulse
           (gainOutput (mixValue row.coefs f.samples).1 (some x)
             (((s.zones.get z).copy.map (·.trim)).getD 0) (s.speakers.get row.channel).trim (s.zones.get z).night
             (((s.zones.get z).vals.map (·.drc)).getD 0)).1 (s.channels.get row.channel)) ∧
       (∀ c, c ∉ rows.map (·.channel) → t.channels.get c = s.channels.get c) ∧
       (∀ y, y ≠ z → t.zones.get y = s.zones.get y) ∧ t.pairs = s.pairs ∧ zoneFrameKept s t) ∧
   ∀ (s : State) (z : ZoneId), (s.zones.get z).power ≠ .standby →
     (s.zones.get z).rampInterval ≤ (s.zones.get z).rampCount + 1 →
     ∃ u, exec (.zoneOutputFrame z) { s with
         zones := setAt s.zones z { s.zones.get z with rampInterval := (s.zones.get z).rampCount + 2 } } = .next u ∧
       (u.zones.get z).rampCount = (s.zones.get z).rampCount + 1 ∧ (u.zones.get z).qr = (s.zones.get z).qr ∧
       exec (.zoneOutputFrame z) s = exec (.rampStep z) { u with
         zones := setAt u.zones z { u.zones.get z with
           rampInterval := (s.zones.get z).rampInterval, rampCount := (s.zones.get z).rampCount } })

/-- The arithmetic of the sample path. The coefficient builder gives a present position's own speaker 16,384 and folds a
position without a speaker to the targets of R92 with gs by the downmix preference (R90), for any set of speakers: what reaches
a target that the zone has lands there, what reaches a missing FL or FR goes on to C as the two-step product, or is dropped
without C, and the paths to one speaker add up (R93). STEREO does so with FL, FR and SUB alone (R94). UPMIX has its table, with
17,378 in the row of C under a front that is missing, and drops that front without C (R95). A set has a row for each of the
zone's speakers (R88). A mix value is the rounded and saturated sum of the eight products (R98). The gain stage takes M[k] and
the octave shift for every q_eff of −160 to +24, and clamps beyond (R99 to R101): 0 leaves a mix value as it is, 12 doubles it
with saturation and −12 halves it. A delay of n samples gives back what went in n frames before (R111). A DC watch starts,
keeps, restarts or clears its run by the sign of the sample (R138). The noise register and its sample are those of R151. Every
duty count lies within m to 2^W − m, and so does its complement; a sample of 0 gives the centre duty (R125, R126). -/
def Obligations.GainAndDuty : Prop :=
  ((∀ (has : Pos → Bool) (mode : EffMode) (gs : Int) (lfe : Bool) (map : BitVec 8) (row p : Pos), present map p = false →
     coefficient has mode gs lfe map row p = 0) ∧
   (∀ (has : Pos → Bool) (pref : BitVec 2) (gs : Int) (lfe : Bool) (map : BitVec 8) (row p : Pos), present map p = true →
     gs = [11585, 9759, 8192, 0].getD pref.toNat 0 →
     gs = foldGain pref ∧
     (has p = true → coefficient has .direct gs lfe map row p =
       if row = p then (if p = posSUB ∧ lfe = true then 32767 else 16384) else 0) ∧
     (p = posC → has posC = false → has posFL = true → has posFR = true →
       coefficient has .direct gs lfe map row p = if row = posFL ∨ row = posFR then 11585 else 0) ∧
     (p = posSL → has posSL = false → has posFL = true →
       coefficient has .direct gs lfe map row p = if row = posFL then gs else 0) ∧
     (p = posSR → has posSR = false → has posFR = true →
       coefficient has .direct gs lfe map row p = if row = posFR then gs else 0) ∧
     (p = posBL → has posBL = false → has (if has posSL = true then posSL else posFL) = true →
       coefficient has .direct gs lfe map row p = if row = (if has posSL = true then posSL else posFL) then gs else 0) ∧
     (p = posBR → has posBR = false → has (if has posSR = true then posSR else posFR) = true →
       coefficient has .direct gs lfe map row p = if row = (if has posSR = true then posSR else posFR) then gs else 0) ∧
     (p = posSUB → has posSUB = false → has posFL = true → has posFR = true →
       coefficient has .direct gs lfe map row p =
         if row = posFL ∨ row = posFR then (if lfe = true then 16384 else 11585) else 0) ∧
     (p = posFL ∨ p = posFR → has p = false →
       coefficient has .direct gs lfe map row p = if row = posC ∧ has posC = true then 11585 else 0) ∧
     (p = posSL → has posSL = false → has posFL = false →
       coefficient has .direct gs lfe map row p =
         if row = posC ∧ has posC = true then (gs * 11585 + 8192) / 16384 else 0) ∧
     (p = posSUB → has posSUB = false → has posFL = false → has posFR = false →
       coefficient has .direct gs lfe map row p =
         if row = posC ∧ has posC = true then 2 * (((if lfe = true then 16384 else 11585) * 11585 + 8192) / 16384) else 0) ∧
     (∀ targets : List (Pos × Int), has p = false →
       targets = (
         if p = posC then [(posFL, 11585), (posFR, 11585)]
         else if p = posSUB then [(posFL, if lfe = true then 16384 else 11585), (posFR, if lfe = true then 16384 else 11585)]
         else if p = posSL then [(posFL, gs)]
         else if p = posSR then [(posFR, gs)]
         else if p = posBL then [(if has posSL = true then posSL else posFL, gs)]
         else if p = posBR then [(if has posSR = true then posSR else posFR, gs)]
         else [(posC, 11585)]) →
       coefficient has .direct gs lfe map row p = (targets.map fun t =>
         if has t.1 = true then (if row = t.1 then t.2 else 0)
         else if (t.1 = posFL ∨ t.1 = posFR) ∧ has posC = true ∧ row = posC then (t.2 * 11585 + 8192) / 16384
         else 0).sum) ∧
     coefficient has .stereo gs lfe map row p =
       coefficient (fun q => (q == posFL || q == posFR || q == posSUB) && has q) .direct gs lfe map row p) ∧
   (∀ (has : Pos → Bool) (gs : Int) (lfe : Bool) (row p : Pos), has posFL = true → has posFR = true →
     coefficient has .upmix gs lfe 0xC0 row p =
       if p = posFL then [16384, 0, 5793, 0, 8192, -8192, 8192, -8192].getD row.1 0
       else if p = posFR then [0, 16384, 5793, 0, -8192, 8192, -8192, 8192].getD row.1 0 else 0) ∧
   (∀ (has : Pos → Bool) (gs : Int) (lfe : Bool) (row p : Pos), has row = true →
     coefficient has .upmix gs lfe 0xC0 row p =
       if p ≠ posFL ∧ p ≠ posFR then 0
       else if row = posC then (if has p = true then 5793 else 17378)
       else if row = posSUB then 0
       else if row = p then 16384
       else if row = posFL ∨ row = posFR then 0
       else if (row = posSL ∨ row = posBL) ↔ p = posFL then 8192
       else -8192) ∧
   ∀ (spk : Vector Speaker 12) (z : ZoneId) (mode m : EffMode) (v : DescValues) (c : Chan), (spk.get c).zone = some z →
     m = (if mode = .upmix ∧ v.map ≠ 0xC0 then .direct else mode) →
     ∃ row ∈ (buildSet spk z mode v).rows, row.channel = c ∧ row.position = (spk.get c).position ∧
       ∀ p, row.coefs.get p =
         coefficient (fun q => decide (∃ k, (spk.get k).zone = some z ∧ (spk.get k).position = q)) m (foldGain v.pref) v.lfe
           v.map (spk.get c).position p) ∧
  ((∀ (coefs : Vector Int 8) (source : Vector Sample 8) (exact : Int),
     exact = (((List.finRange 8).map fun p => coefs.get p * (source.get p).toInt).sum + 8192) / 16384 →
     mixValue coefs source =
       (BitVec.ofInt 24 (max (-8388608) (min 8388607 exact)), decide (exact < -8388608 ∨ 8388607 < exact))) ∧
   (∀ q xs : List Sample,
     xs.foldl (fun a x => (a.1 ++ [(delayStep a.2 x).1], (delayStep a.2 x).2)) (([] : List Sample), q) =
       ((q ++ xs).take xs.length, (q ++ xs).drop xs.length)) ∧
   ∀ (now : Millis) (dc : Nat) (w : Watch) (t : Timer) (x : Sample) (sign : Bool),
     (-4194304 < x.toInt → x.toInt < 4194304 → watchSample now dc w x = .clear) ∧
     (((sign = true ∧ 4194304 ≤ x.toInt) ∨ (sign = false ∧ x.toInt ≤ -4194304)) →
       watchSample now dc .clear x = .run sign { start := now, len := dc } ∧
       watchSample now dc (.run sign t) x = .run sign t ∧
       watchSample now dc (.run (!sign) t) x = .run sign { start := now, len := dc } ∧
       watchSample now dc (.standing sign) x = .standing sign ∧
       watchSample now dc (.standing (!sign)) x = .run sign { start := now, len := dc })) ∧
  ((∀ (y : Sample) (q e : Int) (k : Nat) (exact : Int), -160 ≤ q → q ≤ 24 → q = 12 * e + k → k < 12 →
     exact = (y.toInt * ([32768, 34717, 36781, 38968, 41285, 43740, 46341, 49097, 52016, 55109, 58386, 61858].getD k 0 : Int) +
       2 ^ (14 - e).toNat) / 2 ^ (15 - e).toNat →
     gainScale y q = (BitVec.ofInt 24 (max (-8388608) (min 8388607 exact)), decide (exact < -8388608 ∨ 8388607 < exact))) ∧
   (∀ y : Sample, gainScale y 0 = (y, false) ∧
     (gainScale y 12).1 = BitVec.ofInt 24 (max (-8388608) (min 8388607 (2 * y.toInt))) ∧
     (gainScale y (-12)).1 = BitVec.ofInt 24 ((y.toInt + 1) / 2)) ∧
   (∀ (y : Sample) (qs qt : Int) (night : Bool) (drc : Nat), gainOutput y none qs qt night drc = (0, false)) ∧
   ∀ (y : Sample) (qa qs qt q : Int) (night : Bool) (drc : Nat), q = qa + qs + qt - (if night = true then (drc : Int) else 0) →
     gainOutput y (some qa) qs qt night drc = if q < -160 then (0, false) else gainScale y (min 24 q)) ∧
  (∀ v : BitVec 23,
     (noiseShift v).toNat = (2 * v.toNat + (if v.getLsbD 22 = v.getLsbD 17 then 0 else 1)) % 8388608 ∧
     (noiseSample v).toInt = ((v.toNat : Int) - 4194304) / 8) ∧
  (∀ (w m : Nat) (x : Sample), 7 ≤ w → w ≤ 9 → m ≤ 15 →
     m ≤ dutyCount w m x ∧ dutyCount w m x ≤ 2 ^ w - m ∧ m ≤ 2 ^ w - dutyCount w m x ∧
     2 ^ w - dutyCount w m x ≤ 2 ^ w - m ∧ dutyCount w m 0 = 2 ^ (w - 1) ∧
     (m ≤ (x.toInt + 8388608).toNat / 2 ^ (24 - w) → (x.toInt + 8388608).toNat / 2 ^ (24 - w) ≤ 2 ^ w - m →
       dutyCount w m x = (x.toInt + 8388608).toNat / 2 ^ (24 - w)))

/-- SET_ZONE_OPTIONS stores the five options with its origin, and its LIMITED answer carries them as applied; that the OK answer
carries them too is read from R196 (log 15). In a bound zone a new surround mode sets the shadow coefficient set, built for the
new effective mode from the descriptor values in force, and a new ramp interval restarts the ramp frame count; a new auto-standby
setting of 0 stops the countdown, and another starts it afresh in a zone that is ON and quiet (R82, R83, R84, R89). With the clock
mode as it was, and in FADING, nothing else changes. In ON and RAMP_DOWN with the path PLAYING and qr not SILENT a new clock mode
starts a fade and leaves the mode in effect and the output rate; in STARTING, and in ON and RAMP_DOWN on any other path or with
qr SILENT, it rebinds the zone at once, by which it comes into effect, and in ON the countdown follows the link then bound (R66,
R68, R75, R78, R79, R82). That a new clock mode sets the clock state, and in LOCAL the output rate, at once in a zone that is not
bound, and that a carrier that runs on in DRAIN restarts at a changed rate, is the model's reading (log 28). -/
def Obligations.SetZoneOptionsEffect : Prop :=
  ∀ (s : State) (p : Port) (tag zb mb nb cb rb ab : Byte) (z : ZoneId) (mode : SurroundMode) (night : Bool)
    (clock : ClockMode) (r w : Zone) (rate : Rate) (result : Result), Ready s p → zb.toNat = z.1 →
    surroundModes[mb.toNat]? = some mode → yesNo nb = some night → clockModes[cb.toNat]? = some clock →
    r = s.zones.get z →
    w = { r with
      mode := mode, night := night, clockMode := clock, rampInterval := max 1 (min 64 rb.toNat)
      autoStandby := min 120 ab.toNat, lastChanged := portOrigin p
      shadow := if r.power.isBound = true ∧ mode ≠ r.mode then r.vals.map (buildSet s.speakers z { r with mode := mode }.effMode)
        else r.shadow
      rampCount := if r.power.isBound = true ∧ max 1 (min 64 rb.toNat) ≠ r.rampInterval then 0 else r.rampCount
      countdown := if min 120 ab.toNat = r.autoStandby then r.countdown
        else if min 120 ab.toNat = 0 then none
        else if r.power = .on ∧ r.link.map (fun l => (s.monitors.get l).state) ≠ some .active then
          some { start := s.ms, len := min 120 ab.toNat * 60000 }
        else r.countdown } →
    rate = (match clock with
      | .local48 => .r48
      | .local44 => .r44
      | .follow => r.rate) →
    result = okIf (decide (max 1 (min 64 rb.toNat) = rb.toNat ∧ min 120 ab.toNat = ab.toNat)) →
    ∃ t, exec (.setZoneOptions p tag [zb, mb, nb, cb, rb, ab]) s = .next t ∧
      ((t.zones.get z).mode = mode ∧ (t.zones.get z).night = night ∧ (t.zones.get z).clockMode = clock ∧
        (t.zones.get z).rampInterval = max 1 (min 64 rb.toNat) ∧ (t.zones.get z).autoStandby = min 120 ab.toNat ∧
        (t.zones.get z).lastChanged = portOrigin p ∧ (t.zones.get z).selected = r.selected ∧
        (t.zones.get z).power = r.power ∧ (t.zones.get z).qv = r.qv ∧
        t.slot p = some { tag := tag, data := optionsRecord (t.zones.get z), result := result } ∧ zoneFrameKept s t) ∧
      ((clock = r.clockMode ∨ ((r.power = .on ∨ r.power = .rampDown) ∧ r.path = .fading)) →
        t = { s with
          zones := setAt s.zones z w
          ports := s.ports.raiseIf (decide (mode ≠ r.mode ∨ night ≠ r.night ∨ clock ≠ r.clockMode ∨
            w.rampInterval ≠ r.rampInterval ∨ w.autoStandby ≠ r.autoStandby ∨ w.lastChanged ≠ r.lastChanged)) (.zone z)
          }.answered p (s.status p) tag 6 result (optionsRecord w)) ∧
      (clock ≠ r.clockMode → (r.power = .on ∨ r.power = .rampDown) → r.path = .playing → r.qr ≠ none →
        t = { s with
          zones := setAt s.zones z { w with path := .fading }
          ports := s.ports.raise (.zone z) }.answered p (s.status p) tag 6 result (optionsRecord w)) ∧
      (clock ≠ r.clockMode → (r.power = .starting ∨ ((r.power = .on ∨ r.power = .rampDown) ∧
          (r.path = .idle ∨ r.path = .filling ∨ (r.path = .playing ∧ r.qr = none)))) →
        (t.zones.get z).justBound s r.selected r.rate ∧ (t.zones.get z).shadow = none ∧
        (r.power = .on → (t.zones.get z).countdown =
          if w.autoStandby ≠ 0 ∧ (t.zones.get z).link.map (fun l => (s.monitors.get l).state) ≠ some .active then
            some { start := s.ms, len := w.autoStandby * 60000 }
          else none) ∧
        (r.power ≠ .on → (t.zones.get z).countdown = w.countdown) ∧
        ∀ k, (t.ports.get k).flags.get (Flag.zone z).index = true) ∧
      (clock ≠ r.clockMode → (r.power = .standby ∨ r.power = .drain) →
        ∀ x : Zone, x = { w with
          clockInEffect := clock, rate := rate, clockState := if clock = .follow then .holdover else .localClock } →
        (rate ≠ r.rate → r.driveNow ≠ .off → r.drive ≠ .off →
          t.zones.get z = { x with driveNow := r.drive, period := 0 }) ∧
        ((rate = r.rate ∨ r.driveNow = .off ∨ r.drive = .off) →
          t = { s with
            zones := setAt s.zones z x
            ports := s.ports.raise (.zone z) }.answered p (s.status p) tag 6 result (optionsRecord w)))

/-- The status requests of zones and of the output stage answer the records as they stand and change nothing; the bytes are laid
out as log 16 says (R85, R106, R117, R122, R132, R145). GET_PROTECTION_STATUS sees the FLT lines (R146). CLEAR_ZONE_COUNTERS
clears the three counts of one zone. That it records its origin is read from R84 (log 40), and that it sets the ZONE flag for a
new origin alone, and none for the counts, is the model's choice between R84 and R86 (log 47). -/
def Obligations.ZoneAndOutputReports : Prop :=
  ((∀ (s : State) (p : Port) (tag zb : Byte) (z : ZoneId), Ready s p → zb.toNat = z.1 →
     exec (.getZoneStatus p tag [zb]) s =
       .next (s.answered p (s.status p) tag 1 .ok (zoneRecord s (s.zones.get z))) ∧
     exec (.getMixMatrix p tag [zb]) s =
       .next (s.answered p (s.status p) tag 1 .ok (matrixRecord s.speakers z (s.zones.get z).active)) ∧
     exec (.getModulator p tag [zb]) s =
       .next (s.answered p (s.status p) tag 1 .ok
         [BitVec.ofNat 8 (s.zones.get z).resolution, BitVec.ofNat 8 (s.zones.get z).minPulse])) ∧
   (∀ (s : State) (p : Port) (tag : Byte), Ready s p →
     exec (.getDelayStatus p tag []) s = .next (s.answered p (s.status p) tag 0 .ok (delayRecord s)) ∧
     exec (.getOutputStatus p tag []) s = .next (s.answered p (s.status p) tag 0 .ok (outputRecord s))) ∧
   (∀ (s : State) (p : Port) (tag cb : Byte) (c : Chan), Ready s p → cb.toNat = c.1 →
     exec (.getSpeaker p tag [cb]) s =
       .next (s.answered p (s.status p) tag 1 .ok (speakerRecord (s.speakers.get c) ++ roleRecord (roleOf s.speakers c)))) ∧
   (∀ (s : State) (p : Port) (tag qb : Byte) (q : PairId), Ready s p → qb.toNat = q.1 →
     exec (.getProtection p tag [qb]) s =
       .next (s.answered p (s.status p) tag 1 .ok
         (u16 (s.pairs.get q).dcTime ++ [BitVec.ofNat 8 (s.pairs.get q).retryLimit]))) ∧
   ∀ (s : State) (p : Port) (tag : Byte) (flt : Vector Bool 6), Ready s p →
     ∃ t : State, exec (.getProtectionStatus p tag [] flt) s =
         .next (t.answered p (s.status p) tag 0 .ok (pairIds.flatMap (pairRecord t))) ∧
       t = { s with pairs := t.pairs } ∧ ∀ q, t.pairs.get q = { s.pairs.get q with flt := flt.get q }) ∧
  (∀ (s : State) (p : Port) (tag zb : Byte) (z : ZoneId), Ready s p → zb.toNat = z.1 →
     exec (.clearZoneCounters p tag [zb]) s =
       .next ({ s with
         zones := setAt s.zones z { s.zones.get z with repeats := 0, skips := 0, clips := 0, lastChanged := portOrigin p }
         ports := s.ports.raiseIf ((s.zones.get z).lastChanged != portOrigin p) (.zone z)
         }.answered p (s.status p) tag 1 .ok []))

/-! ## Output stage, protection, test tones -/

/-- SET_SPEAKER: a request that passes every check writes the entry with trim and delay clamped and touches no other entry; a
zone out of STANDBY has its speakers fixed; a second speaker of a zone at one position is a DUPLICATE (R120, R133). An operand
out of range is refused with RANGE (step 2), a channel held by a bridge, a bridge over a used partner and a partner of another
zone with REFUSED_STATE (step 4). The bytes of the entry in the answer are laid out as log 16 says. -/
def Obligations.SetSpeakerEffect : Prop :=
  (∀ (s : State) (p : Port) (tag cb zb pb bb tb d2 d1 d0 ib : Byte) (c : Chan) (q : SpeakerRequest),
    Ready s p → cb.toNat = c.1 → speakerZones[zb.toNat]? = some q.zone → pb.toNat = q.position.1 →
    yesNo bb = some q.bridged → q.trim = tb.toInt → q.delay = (d2.toNat * 256 + d1.toNat) * 256 + d0.toNat →
    yesNo ib = some q.inverted → speakerOutOfRange c q = false → zoneFixed s (chanZone s.speakers c) = false →
    zoneFixed s q.zone = false → speakerConflict s.speakers c q = false → speakerDuplicate s.speakers c q = false →
    ∃ t, exec (.setSpeaker p tag [cb, zb, pb, bb, tb, d2, d1, d0, ib]) s = .next t ∧
      t.speakers = setAt s.speakers c
        { zone := q.zone, position := q.position, bridged := q.bridged, trim := max (-24) (min 24 q.trim)
          delay := min 30000 q.delay, inverted := q.inverted } ∧
      t.slot p = some
        { tag := tag, data := speakerRecord (t.speakers.get c)
          result := okIf (decide (max (-24) (min 24 q.trim) = q.trim ∧ min 30000 q.delay = q.delay)) } ∧
      (∀ z, (q.zone = some z ∨ (s.speakers.get c).zone = some z) →
        ∀ k, (t.ports.get k).flags.get (Flag.zone z).index = true) ∧
      t.zones = s.zones ∧ t.channels = s.channels ∧ t.links = s.links ∧ t.sources = s.sources ∧ t.tuner = s.tuner) ∧
  (∀ (s : State) (p : Port) (tag cb zb pb bb tb d2 d1 d0 ib : Byte) (c : Chan) (q : SpeakerRequest) (z : ZoneId),
    Ready s p → cb.toNat = c.1 → speakerZones[zb.toNat]? = some q.zone → pb.toNat = q.position.1 →
    yesNo bb = some q.bridged → yesNo ib = some q.inverted → q.trim = tb.toInt →
    q.delay = (d2.toNat * 256 + d1.toNat) * 256 + d0.toNat → speakerOutOfRange c q = false →
    (chanZone s.speakers c = some z ∨ q.zone = some z) → (s.zones.get z).power ≠ .standby →
    exec (.setSpeaker p tag [cb, zb, pb, bb, tb, d2, d1, d0, ib]) s =
      .next (s.answered p (s.status p) tag 9 .refusedState [])) ∧
  (∀ (s : State) (p : Port) (tag cb zb pb bb tb d2 d1 d0 ib : Byte) (c k : Chan) (q : SpeakerRequest) (z : ZoneId),
    Ready s p → cb.toNat = c.1 → speakerZones[zb.toNat]? = some q.zone → pb.toNat = q.position.1 →
    yesNo bb = some q.bridged → yesNo ib = some q.inverted → q.trim = tb.toInt →
    q.delay = (d2.toNat * 256 + d1.toNat) * 256 + d0.toNat → speakerOutOfRange c q = false →
    zoneFixed s (chanZone s.speakers c) = false → zoneFixed s q.zone = false → speakerConflict s.speakers c q = false →
    q.zone = some z → k ≠ c → (s.speakers.get k).zone = some z → (s.speakers.get k).position = q.position →
    exec (.setSpeaker p tag [cb, zb, pb, bb, tb, d2, d1, d0, ib]) s =
      .next (s.answered p (s.status p) tag 9 .duplicate [])) ∧
  (∀ (s : State) (p : Port) (tag cb zb pb bb tb d2 d1 d0 ib : Byte), Ready s p →
    (12 ≤ cb.toNat ∨ 4 ≤ zb.toNat ∨ 8 ≤ pb.toNat ∨ 2 ≤ bb.toNat ∨ 2 ≤ ib.toNat ∨
      ((zb = 1 ∨ zb = 2) ∧ 2 ≤ pb.toNat) ∨ (bb = 1 ∧ cb.toNat % 2 = 1) ∨ (bb = 1 ∧ zb = 3)) →
    exec (.setSpeaker p tag [cb, zb, pb, bb, tb, d2, d1, d0, ib]) s = .next (s.answered p (s.status p) tag 9 .range [])) ∧
  ∀ (s : State) (p : Port) (tag cb zb pb bb tb d2 d1 d0 ib : Byte) (c : Chan) (q : SpeakerRequest),
    Ready s p → cb.toNat = c.1 → speakerZones[zb.toNat]? = some q.zone → pb.toNat = q.position.1 →
    yesNo bb = some q.bridged → yesNo ib = some q.inverted → q.trim = tb.toInt →
    q.delay = (d2.toNat * 256 + d1.toNat) * 256 + d0.toNat → speakerOutOfRange c q = false →
    zoneFixed s (chanZone s.speakers c) = false → zoneFixed s q.zone = false →
    (q.zone ≠ none ∧ (s.speakers.get c).zone = none ∧ c.1 % 2 = 1 ∧ (s.speakers.get (partner c)).zone ≠ none ∧
        (s.speakers.get (partner c)).bridged = true) ∨
      (q.bridged = true ∧ (s.speakers.get (partner c)).zone ≠ none) ∨
      (q.zone ≠ none ∧ (s.speakers.get (partner c)).zone ≠ none ∧ (s.speakers.get (partner c)).zone ≠ q.zone) →
    exec (.setSpeaker p tag [cb, zb, pb, bb, tb, d2, d1, d0, ib]) s =
      .next (s.answered p (s.status p) tag 9 .refusedState [])

/-- SET_MODULATOR writes W and m of a zone in STANDBY and is refused in any other power state; SET_PROTECTION writes the two
clamped settings of a pair in any state. Each sets its flag in both copies and changes nothing else (R123, R133, R145,
R147). That W is carried and answered as the number 7, 8 or 9 is the model's choice (log 16). -/
def Obligations.OutputSettings : Prop :=
  (∀ (s : State) (p : Port) (tag zb wb mb : Byte) (z : ZoneId), Ready s p → zb.toNat = z.1 → 7 ≤ wb.toNat → wb.toNat ≤ 9 →
    (s.zones.get z).power = .standby →
    exec (.setModulator p tag [zb, wb, mb]) s =
      .next ({ s with
        zones := setAt s.zones z { s.zones.get z with resolution := wb.toNat, minPulse := min 15 mb.toNat }
        ports := s.ports.raise (.zone z) }.answered p (s.status p) tag 3 (okIf (decide (mb.toNat ≤ 15)))
        [wb, BitVec.ofNat 8 (min 15 mb.toNat)])) ∧
  (∀ (s : State) (p : Port) (tag zb wb mb : Byte) (z : ZoneId), Ready s p → zb.toNat = z.1 → 7 ≤ wb.toNat → wb.toNat ≤ 9 →
    (s.zones.get z).power ≠ .standby →
    exec (.setModulator p tag [zb, wb, mb]) s = .next (s.answered p (s.status p) tag 3 .refusedState [])) ∧
  ∀ (s : State) (p : Port) (tag qb hi lo rb : Byte) (q : PairId) (t n : Nat), Ready s p → qb.toNat = q.1 →
    t = max 10 (min 500 (hi.toNat * 256 + lo.toNat)) → n = max 1 (min 15 rb.toNat) →
    exec (.setProtection p tag [qb, hi, lo, rb]) s =
      .next ({ s with
        pairs := setAt s.pairs q { s.pairs.get q with dcTime := t, retryLimit := n }
        ports := s.ports.raise (.pair q) }.answered p (s.status p) tag 4
        (okIf (decide (t = hi.toNat * 256 + lo.toNat ∧ n = rb.toNat))) (u16 t ++ [BitVec.ofNat 8 n]))

/-- A carrier period boundary: the drive mode last handed takes effect on all the zone's channels together; a channel of a held
pair is at the off level, and the others are at the off level in OFF, at the centre duty in CENTRE, and in AUDIO at the duty
count in force or, on the upper channel of a bridge, its complement. The output is high for the first d ticks, low with
inverted polarity, and low throughout at the off level. The count that waits comes into force after C periods, with the next
output frame, and when AUDIO takes effect (R124, R126, R127, R128, R129, R130); that a hold which ends resumes on the count in
force is log 25. FLT is sampled at the boundary, and its level is recorded for every pair: of a pair of the zone that was driven
for the period, FLT asserted adds 1 to the fault count and FLT not asserted clears it, and the count that reaches 4 trips the
pair with cause FAULT and returns to 0; a pair that was not driven keeps its count, and one whose carrier stops has the count 0
(R130, R137, R140). A POWER_ON out of a stopped carrier starts it at once, with a new output frame at centre duty. -/
def Obligations.CarrierBoundaryEffect : Prop :=
  (∀ (s : State) (z : ZoneId) (flt : Vector Bool 6), (s.zones.get z).driveNow ≠ .off →
    ∃ t, exec (.carrierPeriodBoundary z flt) s = .next t ∧ (t.zones.get z).driveNow = (s.zones.get z).drive ∧
      ((s.zones.get z).drive ≠ .off → (t.zones.get z).period =
        if (s.zones.get z).period + 1 < (s.zones.get z).rate.carrierMultiple then (s.zones.get z).period + 1 else 0) ∧
      (∀ c, (s.speakers.get c).zone = some z → (t.channels.get c).next = (s.channels.get c).next ∧
        ((s.zones.get z).drive ≠ .off →
          ((s.zones.get z).rate.carrierMultiple ≤ (s.zones.get z).period + 1 ∨
            ((s.zones.get z).driveNow = .centre ∧ (s.zones.get z).drive = .audio)) →
          (t.channels.get c).duty = (s.channels.get c).next) ∧
        ((s.zones.get z).period + 1 < (s.zones.get z).rate.carrierMultiple → (s.zones.get z).drive = (s.zones.get z).driveNow →
          (t.channels.get c).duty = (s.channels.get c).duty)) ∧
      (∀ c, chanZone s.speakers c = some z → (t.pairs.get (pairOf c)).state.holds = true → (t.channels.get c).isOff) ∧
      (∀ c (w : Nat) (high : Bool), chanZone s.speakers c = some z → (t.pairs.get (pairOf c)).state.holds = false →
        w = (s.zones.get z).resolution → high = !chanInverted s.speakers c →
        ((s.zones.get z).drive = .off → (t.channels.get c).isOff) ∧
        ((s.zones.get z).drive = .centre → (t.channels.get c).shown = some (2 ^ (w - 1)) ∧
          (t.channels.get c).wave = .pulse high (2 ^ (w - 1)) (2 ^ w - 2 ^ (w - 1))) ∧
        ((s.zones.get z).drive = .audio → (s.speakers.get c).zone = some z →
          (t.channels.get c).shown = some (t.channels.get c).duty ∧
          (t.channels.get c).wave = .pulse high (t.channels.get c).duty (2 ^ w - (t.channels.get c).duty)) ∧
        (∀ d, (s.zones.get z).drive = .audio → (s.speakers.get c).zone = none →
          d = 2 ^ w - (t.channels.get (partner c)).duty →
          (t.channels.get c).shown = some d ∧ (t.channels.get c).wave = .pulse high d (2 ^ w - d))) ∧
      (∀ y, y ≠ z → t.zones.get y = s.zones.get y) ∧ zoneFrameKept s t) ∧
  (∀ (s : State) (z : ZoneId) (flt : Vector Bool 6) (q : PairId) (x : Pair), (s.zones.get z).driveNow ≠ .off →
    x = s.pairs.get q →
    ∃ t, exec (.carrierPeriodBoundary z flt) s = .next t ∧ (t.pairs.get q).flt = flt.get q ∧
      (pairZone s.speakers q ≠ some z → t.pairs.get q = { x with flt := flt.get q }) ∧
      (pairZone s.speakers q = some z → (s.zones.get z).drive = .off →
        (t.pairs.get q).faults = 0 ∧ (t.pairs.get q).driven = false) ∧
      (pairZone s.speakers q = some z → (s.zones.get z).drive ≠ .off →
        (x.driven = false → t.pairs.get q = { x with flt := flt.get q, driven := !x.state.holds }) ∧
        (x.driven = true → flt.get q = false →
          t.pairs.get q = { x with flt := flt.get q, faults := 0, driven := !x.state.holds }) ∧
        (x.driven = true → flt.get q = true → x.faults < 3 →
          t.pairs.get q = { x with flt := flt.get q, faults := x.faults + 1, driven := !x.state.holds })) ∧
      (pairZone s.speakers q = some z → x.driven = true → flt.get q = true → x.faults = 3 →
        (x.state = .normal → t.pairs.get q = { x with
            state := .tripped, cause := .fault, retryTimer := some { start := s.ms, len := 250 }, probeWindow := none
            faults := 0, driven := false, flt := flt.get q } ∧ pairOff t q ∧
          ∀ k, (t.ports.get k).flags.get (Flag.pair q).index = true) ∧
        ∀ n, x.state = .probe → n = min 255 (x.retries + 1) → t.pairs.get q = { x with
            state := if x.retryLimit ≤ n then .latched else .tripped, cause := .fault, retries := n
            retryTimer := if x.retryLimit ≤ n then none else some { start := s.ms, len := 250 }, probeWindow := none
            faults := 0, driven := false, flt := flt.get q } ∧ pairOff t q)) ∧
  (∀ (s : State) (p : Port) (tag zb : Byte) (z : ZoneId), Ready s p → zb.toNat = z.1 → (s.zones.get z).power = .standby →
    (s.zones.get z).driveNow = .off →
    ∃ t, exec (.powerOn p tag [zb]) s = .next t ∧ (t.zones.get z).driveNow = .centre ∧ (t.zones.get z).period = 0 ∧
      ∀ c, chanZone s.speakers c = some z → (s.pairs.get (pairOf c)).state.holds = false →
        (t.channels.get c).shown = some (2 ^ ((s.zones.get z).resolution - 1)))

/-- Trips. In NORMAL FAULT_COUNT_TRIP of a pair whose next asserted FLT is the fourth in a row at the end of a driven period,
and a DC timer expiry in RUN, take the pair to TRIPPED with its cause, a retry timer of 250 ms, the retry count as it was and
both channels at the off level. A DC timer expiry in PROBE ends the probe window and raises the retry count, up to 255: at the
retry limit the pair is LATCHED, below it TRIPPED with a retry timer of 250 ms, both channels off (R140, R141). In TRIPPED and
LATCHED a DC expiry leaves the pair alone. The expiry of a DC timer that has time left, because a sample of the other sign
restarted it, does not happen. With another fault count, or in a period in which the pair is not driven, no trip by the fault
count happens (R130, R137, R138, R140). Each trip sets the PAIR flag in both copies (R147). -/
def Obligations.TripEffect : Prop :=
  (∀ (s : State) (q : PairId), (s.pairs.get q).state = .normal → faultCounted s q = true →
    ∃ t, exec (.faultCountTrip q) s = .next t ∧ (t.pairs.get q).state = .tripped ∧ (t.pairs.get q).cause = .fault ∧
      (t.pairs.get q).retryTimer = some { start := s.ms, len := 250 } ∧ (t.pairs.get q).faults = 0 ∧
      (t.pairs.get q).retries = (s.pairs.get q).retries ∧ pairOff t q ∧
      (∀ p, (t.ports.get p).flags.get (Flag.pair q).index = true) ∧
      (∀ k, k ≠ q → t.pairs.get k = s.pairs.get k) ∧ t.zones = s.zones ∧ t.links = s.links ∧ t.tuner = s.tuner) ∧
  (∀ (s : State) (c : Chan) (sign : Bool) (w : Timer), (s.channels.get c).watch = .run sign w →
    ranOut (some w) s.ms → (s.pairs.get (pairOf c)).state = .normal →
    ∃ t, exec (.dcTimerExpiry c) s = .next t ∧ (t.channels.get c).watch = .standing sign ∧
      (t.pairs.get (pairOf c)).state = .tripped ∧ (t.pairs.get (pairOf c)).cause = .dc c ∧
      (t.pairs.get (pairOf c)).retryTimer = some { start := s.ms, len := 250 } ∧ pairOff t (pairOf c) ∧
      (t.pairs.get (pairOf c)).retries = (s.pairs.get (pairOf c)).retries ∧
      (∀ p, (t.ports.get p).flags.get (Flag.pair (pairOf c)).index = true) ∧
      (∀ k, k ≠ pairOf c → t.pairs.get k = s.pairs.get k) ∧ t.zones = s.zones) ∧
  (∀ (s : State) (c : Chan) (sign : Bool) (w : Timer) (x : Pair) (n : Nat), (s.channels.get c).watch = .run sign w →
    ranOut (some w) s.ms → x = s.pairs.get (pairOf c) → x.state = .probe → n = min 255 (x.retries + 1) →
    ∃ t, exec (.dcTimerExpiry c) s = .next t ∧ (t.channels.get c).watch = .standing sign ∧ pairOff t (pairOf c) ∧
      t.pairs = setAt s.pairs (pairOf c) { x with
        state := if x.retryLimit ≤ n then .latched else .tripped, cause := .dc c, retries := n
        retryTimer := if x.retryLimit ≤ n then none else some { start := s.ms, len := 250 }, probeWindow := none
        faults := 0, driven := false } ∧
      (∀ p, (t.ports.get p).flags.get (Flag.pair (pairOf c)).index = true) ∧ t.zones = s.zones ∧ t.links = s.links ∧
      t.tuner = s.tuner) ∧
  (∀ (s : State) (c : Chan) (sign : Bool) (w : Timer), (s.channels.get c).watch = .run sign w →
    ranOut (some w) s.ms → (s.pairs.get (pairOf c)).state.holds = true →
    exec (.dcTimerExpiry c) s = .next { s with
      channels := setAt s.channels c { s.channels.get c with watch := .standing sign } }) ∧
  (∀ (s : State) (c : Chan), (∀ sign w, (s.channels.get c).watch = .run sign w → ¬ranOut (some w) s.ms) →
    exec (.dcTimerExpiry c) s = .next s) ∧
  ∀ (s : State) (q : PairId), ((s.pairs.get q).faults ≠ 3 ∨ (s.pairs.get q).driven = false) →
    exec (.faultCountTrip q) s = .next s

/-- A probe window that expires in PROBE returns the pair to NORMAL with a retry count of 0; last cause, fault count and DC
watches stay, and nothing else changes but the PAIR flag. A trip that meets the expiry is decided by the order of the two
commands: taken first it counts a retry, ends the window and turns both channels off, LATCHED at the retry limit and TRIPPED
with a new retry timer below it, taken second it trips the pair with a retry count of 0 (R140, R142). That the fault count
stays, as a sentence of R142 has it, where one of R137 has it start at 0, is the model's choice between the two (log 26). -/
def Obligations.ProbePassed : Prop :=
  (∀ (s : State) (q : PairId), (s.pairs.get q).state = .probe → ranOut (s.pairs.get q).probeWindow s.ms →
    exec (.probeWindowExpiry q) s = .next { s with
      pairs := setAt s.pairs q { s.pairs.get q with state := .normal, retries := 0, probeWindow := none }
      ports := s.ports.raise (.pair q) }) ∧
  (∀ (s : State) (q : PairId) (x : Pair) (n : Nat), x = s.pairs.get q → x.state = .probe → faultCounted s q = true →
    n = min 255 (x.retries + 1) →
    ∃ t, exec (.faultCountTrip q) s = .next t ∧ pairOff t q ∧
      t.pairs = setAt s.pairs q { x with
        state := if x.retryLimit ≤ n then .latched else .tripped, cause := .fault, retries := n
        retryTimer := if x.retryLimit ≤ n then none else some { start := s.ms, len := 250 }, probeWindow := none
        faults := 0, driven := false } ∧
      (∀ p, (t.ports.get p).flags.get (Flag.pair q).index = true) ∧ t.zones = s.zones) ∧
  ∀ (s t : State) (q : PairId), (s.pairs.get q).state = .probe → ranOut (s.pairs.get q).probeWindow s.ms →
    exec (.probeWindowExpiry q) s = .next t → faultCounted t q = true →
    ∃ u, exec (.faultCountTrip q) t = .next u ∧ (u.pairs.get q).state = .tripped ∧ (u.pairs.get q).retries = 0

/-- A retry timer expiry probes the pair: with no STANDING watch it enters PROBE with its window at 50 ms; a STANDING watch
raises the retry count and leaves it TRIPPED with its retry timer at 250 ms or, at the retry limit, LATCHED (R140, R141).
A retry timer or a probe window that has time left does not expire (log 4).
CLEAR_PROTECTION probes a LATCHED pair in the same way, so that a STANDING watch raises its retry count and returns it to LATCHED
where the count is at the retry limit, and in any other state changes nothing; all are answered OK (R140, R141, R143). -/
def Obligations.ProbeEffect : Prop :=
  ((∀ (s : State) (q : PairId),
     (¬ranOut (s.pairs.get q).retryTimer s.ms → exec (.retryTimerExpiry q) s = .next s) ∧
     (¬ranOut (s.pairs.get q).probeWindow s.ms → exec (.probeWindowExpiry q) s = .next s)) ∧
   (∀ (s : State) (q : PairId), (s.pairs.get q).state = .tripped → ranOut (s.pairs.get q).retryTimer s.ms →
     standingChannel s q = none →
     ∃ t, exec (.retryTimerExpiry q) s = .next t ∧ (t.pairs.get q).state = .probe ∧ (t.pairs.get q).retryTimer = none ∧
       (t.pairs.get q).probeWindow = some { start := s.ms, len := 50 } ∧ (t.pairs.get q).faults = 0 ∧
       (t.pairs.get q).retries = (s.pairs.get q).retries ∧ t.channels = s.channels ∧ t.zones = s.zones ∧
       ∀ k, k ≠ q → t.pairs.get k = s.pairs.get k) ∧
   (∀ (s : State) (q : PairId) (c : Chan), (s.pairs.get q).state = .tripped → ranOut (s.pairs.get q).retryTimer s.ms →
     standingChannel s q = some c →
     ∃ t, exec (.retryTimerExpiry q) s = .next t ∧ (t.pairs.get q).retries = min 255 ((s.pairs.get q).retries + 1) ∧
       (t.pairs.get q).cause = .dc c ∧
       ((s.pairs.get q).retryLimit ≤ min 255 ((s.pairs.get q).retries + 1) →
         (t.pairs.get q).state = .latched ∧ (t.pairs.get q).retryTimer = none) ∧
       (min 255 ((s.pairs.get q).retries + 1) < (s.pairs.get q).retryLimit →
         (t.pairs.get q).state = .tripped ∧ (t.pairs.get q).retryTimer = some { start := s.ms, len := 250 }) ∧
       t.channels = s.channels ∧ ∀ k, k ≠ q → t.pairs.get k = s.pairs.get k)) ∧
  ((∀ (s : State) (p : Port) (tag qb : Byte) (q : PairId), Ready s p → qb.toNat = q.1 → (s.pairs.get q).state = .latched →
     standingChannel s q = none →
     ∃ t, exec (.clearProtection p tag [qb]) s = .next t ∧ t.slot p = some { tag := tag, result := .ok, data := [] } ∧
       (t.pairs.get q).state = .probe ∧ (t.pairs.get q).retries = (s.pairs.get q).retries ∧
       (t.pairs.get q).probeWindow = some { start := s.ms, len := 50 } ∧ ∀ k, k ≠ q → t.pairs.get k = s.pairs.get k) ∧
   (∀ (s : State) (p : Port) (tag qb : Byte) (q : PairId) (c : Chan) (n : Nat), Ready s p → qb.toNat = q.1 →
     (s.pairs.get q).state = .latched → standingChannel s q = some c → n = min 255 ((s.pairs.get q).retries + 1) →
     ∃ t, exec (.clearProtection p tag [qb]) s = .next t ∧ t.slot p = some { tag := tag, result := .ok, data := [] } ∧
       t.pairs.get q = { s.pairs.get q with
         state := if (s.pairs.get q).retryLimit ≤ n then .latched else .tripped, cause := .dc c, retries := n
         retryTimer := if (s.pairs.get q).retryLimit ≤ n then none else some { start := s.ms, len := 250 }
         probeWindow := none } ∧
       t.channels = s.channels ∧ t.zones = s.zones ∧ ∀ k, k ≠ q → t.pairs.get k = s.pairs.get k) ∧
   ∀ (s : State) (p : Port) (tag qb : Byte) (q : PairId), Ready s p → qb.toNat = q.1 → (s.pairs.get q).state ≠ .latched →
     exec (.clearProtection p tag [qb]) s = .next (s.answered p (s.status p) tag 1 .ok []))

/-- Test tones: TONE_START in ON on a zone with speakers runs the sequencer on the first speaker in stepping order with the
register at 1 and the pulse count at 0, sets TONE and sets the ZONE flag; TONE_NEXT and the expiry of a dwell timer that has run
out step to the next speaker and in AUTO restart the dwell timer, and the expiry of one with time left does not happen;
TONE_STOP ends the tone and sets the ZONE flag, and with the sequencer IDLE it is answered OK and changes nothing (that it
records no origin is log 40). What is kept is in the statement (R150, R153, R154, R155, R157). That the OK answer of TONE_START
carries its values is read from R196 (log 15). -/
def Obligations.ToneEffects : Prop :=
  (∀ (s : State) (p : Port) (tag zb pb mb db : Byte) (z : ZoneId) (pat : Pattern) (m : StepMode) (c : Chan)
    (cs : List Chan), Ready s p → zb.toNat = z.1 → patterns[pb.toNat]? = some pat → stepModes[mb.toNat]? = some m →
    (s.zones.get z).power = .on → toneOrder s.speakers z = c :: cs →
    ∃ t, exec (.toneStart p tag [zb, pb, mb, db]) s = .next t ∧ (t.zones.get z).tone.running = true ∧
      (t.zones.get z).tone.pattern = pat ∧ (t.zones.get z).tone.stepMode = m ∧ (t.zones.get z).tone.speaker = some c ∧
      (t.zones.get z).tone.noise = 1 ∧ (t.zones.get z).tone.pulse = 0 ∧ (t.zones.get z).mutes.tone = true ∧
      (t.zones.get z).tone.dwell = (if m = .auto then max 1 (min 10 db.toNat) else db.toNat) ∧
      (t.zones.get z).tone.dwellTimer =
        (if m = .auto then some { start := s.ms, len := max 1 (min 10 db.toNat) * 1000 } else none) ∧
      (t.zones.get z).lastChanged = portOrigin p ∧
      t.slot p = some { tag := tag, result := okIf (decide ((t.zones.get z).tone.dwell = db.toNat)), data :=
        [pb, mb, BitVec.ofNat 8 (t.zones.get z).tone.dwell] } ∧
      (∀ k, (t.ports.get k).flags.get (Flag.zone z).index = true) ∧
      (∀ y, y ≠ z → t.zones.get y = s.zones.get y) ∧ t.channels = s.channels ∧ zoneFrameKept s t) ∧
  (∀ (s : State) (p : Port) (tag zb : Byte) (z : ZoneId) (c d : Chan), Ready s p → zb.toNat = z.1 →
    (s.zones.get z).tone.running = true → (s.zones.get z).tone.speaker = some c →
    nextInList (toneOrder s.speakers z) c = some d →
    ∃ t, exec (.toneNext p tag [zb]) s = .next t ∧ t.slot p = some { tag := tag, result := .ok, data := [] } ∧
      (t.zones.get z).tone.speaker = some d ∧ (t.zones.get z).tone.pulse = 0 ∧
      (t.zones.get z).tone.noise = (s.zones.get z).tone.noise ∧ (t.zones.get z).tone.running = true ∧
      (t.zones.get z).tone.dwellTimer = (if (s.zones.get z).tone.stepMode = .auto then
        some { start := s.ms, len := (s.zones.get z).tone.dwell * 1000 } else none) ∧
      (t.zones.get z).lastChanged = portOrigin p ∧ (∀ k, (t.ports.get k).flags.get (Flag.zone z).index = true) ∧
      (∀ y, y ≠ z → t.zones.get y = s.zones.get y) ∧ zoneFrameKept s t) ∧
  (∀ (s : State) (z : ZoneId) (c d : Chan) (w : Timer), (s.zones.get z).tone.running = true →
    (s.zones.get z).tone.speaker = some c → (s.zones.get z).tone.dwellTimer = some w →
    (s.zones.get z).tone.stepMode = .auto → ranOut (some w) s.ms → nextInList (toneOrder s.speakers z) c = some d →
    ∃ t, exec (.dwellTimerExpiry z) s = .next t ∧ (t.zones.get z).tone.speaker = some d ∧ (t.zones.get z).tone.pulse = 0 ∧
      (t.zones.get z).tone.dwellTimer = some { start := s.ms, len := (s.zones.get z).tone.dwell * 1000 } ∧
      (∀ k, (t.ports.get k).flags.get (Flag.zone z).index = true) ∧
      (t.zones.get z).lastChanged = (s.zones.get z).lastChanged ∧ zoneFrameKept s t) ∧
  (∀ (s : State) (z : ZoneId), ¬ranOut (s.zones.get z).tone.dwellTimer s.ms →
    exec (.dwellTimerExpiry z) s = .next s) ∧
  (∀ (s : State) (p : Port) (tag zb : Byte) (z : ZoneId), Ready s p → zb.toNat = z.1 →
    (s.zones.get z).tone.running = false →
    exec (.toneStop p tag [zb]) s = .next (s.answered p (s.status p) tag 1 .ok [])) ∧
  ∀ (s : State) (p : Port) (tag zb : Byte) (z : ZoneId), Ready s p → zb.toNat = z.1 →
    (s.zones.get z).tone.running = true →
    ∃ t, exec (.toneStop p tag [zb]) s = .next t ∧ t.slot p = some { tag := tag, result := .ok, data := [] } ∧
      (t.zones.get z).tone.running = false ∧ (t.zones.get z).tone.speaker = none ∧ (t.zones.get z).mutes.tone = false ∧
      (t.zones.get z).tone.dwellTimer = none ∧ (t.zones.get z).lastChanged = portOrigin p ∧
      ((s.zones.get z).toneLawful → ∀ k, (t.ports.get k).flags.get (Flag.zone z).index = true) ∧
      (∀ y, y ≠ z → t.zones.get y = s.zones.get y) ∧
      (t.zones.get z).tone.noise = (s.zones.get z).tone.noise ∧ (t.zones.get z).tone.pulse = (s.zones.get z).tone.pulse ∧
      (t.zones.get z).qr = (s.zones.get z).qr ∧ (t.zones.get z).qv = (s.zones.get z).qv ∧ zoneFrameKept s t

/-! ## Tuner -/

/-- SET_BAND replaces the three settable fields of a band while no operation is in flight and leaves the state, the target and
the DAC word; LOAD_CALIBRATION replaces a table, and loading the current band's into an OFF tuner makes it UNLOCKED with
the DAC word at the coarse value; both are refused while an operation is in flight (R160, R161). That SET_BAND answers the
whole record is log 31, its bytes log 16, and that LOAD_CALIBRATION answers its points log 15. -/
def Obligations.BandAndCalibration : Prop :=
  (∀ (s : State) (p : Port) (tag sb tb xb : Byte) (stereo : Bool), Ready s p → (sb.toNat = 100 ∨ sb.toNat = 50) →
    yesNo xb = some stereo → s.tuner.inFlight = false →
    exec (.setBand p tag [0, sb, tb, xb]) s =
      .next ({ s with tuner := { s.tuner with
        fm := { step := sb.toNat, threshold := tb, stereoOnly := stereo }, lastChanged := portOrigin p } }.answered p
        (s.status p) tag 4 .ok (bandRecord .fm { step := sb.toNat, threshold := tb, stereoOnly := stereo }))) ∧
  (∀ (s : State) (p : Port) (tag sb tb xb : Byte), Ready s p → (sb.toNat = 9 ∨ sb.toNat = 10) → s.tuner.inFlight = false →
    exec (.setBand p tag [1, sb, tb, xb]) s =
      .next ({ s with tuner := { s.tuner with
        am := { step := sb.toNat, threshold := tb, stereoOnly := false }, lastChanged := portOrigin p } }.answered p
        (s.status p) tag 4 .ok (bandRecord .am { step := sb.toNat, threshold := tb, stereoOnly := false }))) ∧
  (∀ (s : State) (p : Port) (tag sb tb xb : Byte), Ready s p → (sb.toNat = 9 ∨ sb.toNat = 10) → s.tuner.inFlight = true →
    exec (.setBand p tag [1, sb, tb, xb]) s = .next (s.answered p (s.status p) tag 4 .refusedState [])) ∧
  (∀ (s : State) (p : Port) (tag sb tb xb : Byte), Ready s p → (sb.toNat = 100 ∨ sb.toNat = 50) → xb.toNat < 2 →
    s.tuner.inFlight = true →
    exec (.setBand p tag [0, sb, tb, xb]) s = .next (s.answered p (s.status p) tag 4 .refusedState [])) ∧
  (∀ (s : State) (p : Port) (tag bb nb : Byte) (rest : List Byte), Ready s p → bb.toNat < 2 → 2 ≤ nb.toNat →
    nb.toNat ≤ 16 → rest.length = 5 * nb.toNat → increasing (readPoints rest) = true → s.tuner.inFlight = true →
    exec (.loadCalibration p tag (bb :: nb :: rest)) s =
      .next (s.answered p (s.status p) tag (2 + rest.length) .refusedState [])) ∧
  ∀ (s : State) (p : Port) (tag bb nb : Byte) (b : Band) (rest : List Byte), Ready s p → bands[bb.toNat]? = some b →
    2 ≤ nb.toNat → nb.toNat ≤ 16 → rest.length = 5 * nb.toNat → increasing (readPoints rest) = true →
    s.tuner.inFlight = false →
    ∃ t, exec (.loadCalibration p tag (bb :: nb :: rest)) s = .next t ∧ t.tuner.cal b = readPoints rest ∧
      (∀ b', b' ≠ b → t.tuner.cal b' = s.tuner.cal b') ∧ t.tuner.lastChanged = portOrigin p ∧
      t.tuner.target = s.tuner.target ∧ t.tuner.band = s.tuner.band ∧
      (b = s.tuner.band → s.tuner.state = .off → t.tuner.state = .unlocked ∧
        ∀ d, coarse (readPoints rest) s.tuner.target = some d → t.tuner.dac = d) ∧
      (b ≠ s.tuner.band ∨ s.tuner.state ≠ .off → t.tuner.state = s.tuner.state ∧ t.tuner.dac = s.tuner.dac) ∧
      t.slot p = some { tag := tag, result := .ok, data := nb :: rest } ∧ t.zones = s.zones ∧ t.links = s.links

/-- A frequency applied by a tuning request is a channel of its band, and it is the frequency asked for when that is a channel
(R159, R164). TUNE, and RECALL_PRESET as a TUNE of the entry, acquire the frequency applied: ACCEPTED when it is the one asked
for and LIMITED otherwise, with the frequency in the answer, and BAND is high for AM and low for FM; a band with no calibration
table is refused (R163, R164, R174, R179). One made in LOCKED sets TUNING in the zones bound to TL; TUNER_LOCK and TUNER_DONE are
set as the tuner's state, band and completions change (R72, R176, R182). -/
def Obligations.TuneEffect : Prop :=
  (∀ (b : Band) (step : Nat) (f : Int), stepAllowed b step = true →
     onGrid b step (appliedFrequency b step f) = true ∧
     (∀ n : Nat, f = n → onGrid b step n = true → appliedFrequency b step f = n)) ∧
  ((∀ (s : State) (p : Port) (tag bb f2 f1 f0 : Byte) (b : Band) (f : Nat), Ready s p → bands[bb.toNat]? = some b →
     s.tuner.cal b ≠ [] → f = appliedFrequency b (s.tuner.record b).step ((f2.toNat * 256 + f1.toNat) * 256 + f0.toNat : Nat) →
     ∃ t, exec (.tune p tag [bb, f2, f1, f0]) s = .next t ∧ t.tuner.state = .acquiring ∧ t.tuner.band = b ∧
       t.tuner.target = f ∧ t.tuner.op = some (.tune, portOrigin p) ∧ t.tuner.iterations = 0 ∧ t.tuner.inRun = false ∧
       (t.outputs.band = true ↔ b = .am) ∧
       t.tuner.measured = none ∧ t.tuner.lastChanged = portOrigin p ∧ t.tuner.gate = .transfer ∧
       t.tuner.afcTimer = none ∧ (∀ d, coarse (s.tuner.cal b) f = some d → t.tuner.dac = d) ∧
       (∀ op o, s.tuner.op = some (op, o) → t.tuner.completions.head? = some
         { number := s.tuner.nextNumber, result := .aborted, op := op, origin := o, band := s.tuner.band
           frequency := s.tuner.target }) ∧
       (s.tuner.op = none → t.tuner.completions = s.tuner.completions) ∧
       t.slot p = some { tag := tag, data := u24 f, result :=
         if f = (f2.toNat * 256 + f1.toNat) * 256 + f0.toNat then .accepted else .limited } ∧
       t.tuner.presets = s.tuner.presets ∧ t.links = s.links ∧ t.sources = s.sources ∧ t.channels = s.channels ∧
       tunerUnlocks s t) ∧
   (∀ (s : State) (p : Port) (tag ib : Byte) (e : Preset) (f : Nat), Ready s p → s.tuner.presets[ib.toNat]? = some e →
     s.tuner.cal e.band ≠ [] → f = appliedFrequency e.band (s.tuner.record e.band).step e.frequency →
     ∃ t, exec (.recallPreset p tag [ib]) s = .next t ∧ t.tuner.state = .acquiring ∧ t.tuner.band = e.band ∧
       t.tuner.target = f ∧ t.tuner.op = some (.recall, portOrigin p) ∧ t.tuner.iterations = 0 ∧
       t.tuner.presets = s.tuner.presets ∧ tunerUnlocks s t ∧
       t.slot p = some { tag := tag, data := u24 f, result := if f = e.frequency then .accepted else .limited }) ∧
   ∀ (s : State) (p : Port) (tag bb f2 f1 f0 : Byte) (b : Band), Ready s p → bands[bb.toNat]? = some b →
     s.tuner.cal b = [] →
     exec (.tune p tag [bb, f2, f1, f0]) s = .next (s.answered p (s.status p) tag 4 .refusedState []))

/-- SEEK and SCAN out of OFF are ACCEPTED and start a search from the target as it stands. The first candidate of a SEEK is the
channel above the target for up and the one below it for down: the nearest channel strictly beyond it in that direction, from
the other edge of the band when there is none. From there a SEEK goes on in its direction; steps of it meet every channel of the
band other than the start once, and that many channels are to be tried, the first among them. SCAN begins at the low edge, goes
up and has every channel of the band to try, and with 40 entries in the list it goes to its RETURN at once, with none. In OFF
both are refused (R172, R173). One made in LOCKED sets TUNING in the zones bound to TL, and TUNER_LOCK and TUNER_DONE are set as
the tuner's state and completions change (R72, R176, R182). -/
def Obligations.SearchEffect : Prop :=
  (∀ (b : Band) (step f : Nat), stepAllowed b step = true →
    ((highEdge b step ≤ f → channelAbove b step f = lowEdge b step) ∧
     (f < highEdge b step → onGrid b step (channelAbove b step f) = true ∧ f < channelAbove b step f ∧
       ∀ g, onGrid b step g = true → f < g → channelAbove b step f ≤ g)) ∧
    ((f ≤ lowEdge b step → channelBelow b step f = highEdge b step) ∧
     (lowEdge b step < f → onGrid b step (channelBelow b step f) = true ∧ channelBelow b step f < f ∧
       ∀ g, onGrid b step g = true → g < f → g ≤ channelBelow b step f)) ∧
    (onGrid b step f = true ↔ ∃ k < channelCount b step, f = lowEdge b step + k * step) ∧
    ∀ (g : Nat → Nat) (n : Nat), g 0 = f → n = channelCount b step - (if onGrid b step f then 1 else 0) →
      ((∀ j, g (j + 1) = channelAbove b step (g j)) ∨ ∀ j, g (j + 1) = channelBelow b step (g j)) →
      (∀ j, 1 ≤ j → j ≤ n → onGrid b step (g j) = true) ∧ ∀ i j, i < j → j ≤ n → g i ≠ g j) ∧
  (∀ (s : State) (p : Port) (tag db : Byte) (up : Bool), Ready s p → db = (if up then 0 else 1) → s.tuner.state ≠ .off →
    stepAllowed s.tuner.band (s.tuner.record s.tuner.band).step = true →
    ∃ t, exec (.seek p tag [db]) s = .next t ∧ t.slot p = some { tag := tag, result := .accepted, data := [] } ∧
      t.tuner.state = .seeking ∧ t.tuner.phase = some .acquire ∧ t.tuner.op = some (.seek, portOrigin p) ∧
      t.tuner.start = some (s.tuner.band, s.tuner.target) ∧ t.tuner.band = s.tuner.band ∧
      t.tuner.iterations = 0 ∧ t.tuner.gate = .transfer ∧ t.tuner.lastChanged = portOrigin p ∧
      t.tuner.target = (if up then channelAbove s.tuner.band (s.tuner.record s.tuner.band).step s.tuner.target
        else channelBelow s.tuner.band (s.tuner.record s.tuner.band).step s.tuner.target) ∧
      onGrid s.tuner.band (s.tuner.record s.tuner.band).step t.tuner.target = true ∧ t.tuner.target ≠ s.tuner.target ∧
      t.tuner.searchUp = up ∧ t.tuner.triesLeft = channelCount s.tuner.band (s.tuner.record s.tuner.band).step -
        (if onGrid s.tuner.band (s.tuner.record s.tuner.band).step s.tuner.target then 1 else 0) - 1 ∧
      t.tuner.presets = s.tuner.presets ∧ t.links = s.links ∧ t.channels = s.channels ∧ tunerUnlocks s t) ∧
  (∀ (s : State) (p : Port) (tag : Byte), Ready s p → s.tuner.state ≠ .off → s.tuner.presets.length < 40 →
    ∃ t, exec (.scan p tag []) s = .next t ∧ t.slot p = some { tag := tag, result := .accepted, data := [] } ∧
      t.tuner.state = .scanning ∧ t.tuner.phase = some .acquire ∧ t.tuner.op = some (.scan, portOrigin p) ∧
      t.tuner.start = some (s.tuner.band, s.tuner.target) ∧
      t.tuner.target = lowEdge s.tuner.band (s.tuner.record s.tuner.band).step ∧ t.tuner.iterations = 0 ∧
      t.tuner.searchUp = true ∧ t.tuner.band = s.tuner.band ∧
      t.tuner.triesLeft = channelCount s.tuner.band (s.tuner.record s.tuner.band).step - 1 ∧
      t.tuner.presets = s.tuner.presets ∧ tunerUnlocks s t) ∧
  (∀ (s : State) (p : Port) (tag : Byte), Ready s p → s.tuner.state ≠ .off → 40 ≤ s.tuner.presets.length →
    ∃ t, exec (.scan p tag []) s = .next t ∧ t.slot p = some { tag := tag, result := .accepted, data := [] } ∧
      t.tuner.state = .scanning ∧ t.tuner.phase = some .return ∧ t.tuner.target = s.tuner.target ∧
      t.tuner.band = s.tuner.band ∧ t.tuner.op = some (.scan, portOrigin p) ∧
      t.tuner.start = some (s.tuner.band, s.tuner.target) ∧ t.tuner.triesLeft = 0 ∧ t.tuner.presets = s.tuner.presets ∧
      tunerUnlocks s t) ∧
  ∀ (s : State) (p : Port) (tag db : Byte), Ready s p → db.toNat < 2 → s.tuner.state = .off →
    exec (.seek p tag [db]) s = .next (s.answered p (s.status p) tag 1 .refusedState []) ∧
    exec (.scan p tag []) s = .next (s.answered p (s.status p) tag 0 .refusedState [])

/-- STORE_PRESET of a LOCKED tuner writes the entry at its index or appends it, ERASE_PRESET removes one and closes the gap,
LOAD_PRESETS replaces the list; each sets PRESETS in both copies and changes nothing else. Storing a station that another
index holds is a DUPLICATE that names it (R178, R179, R180, R182). That the OK answer of LOAD_PRESETS carries the list is read
from R196 (log 15). -/
def Obligations.PresetEffects : Prop :=
  (∀ (s : State) (p : Port) (tag ib : Byte) (e : Preset), Ready s p → ib.toNat ≤ s.tuner.presets.length → ib.toNat < 40 →
    s.tuner.state = .locked → e = { band := s.tuner.band, frequency := s.tuner.target, level := s.tuner.level } →
    (∀ j x, s.tuner.presets[j]? = some x → j ≠ ib.toNat → ¬(x.band = e.band ∧ x.frequency = e.frequency)) →
    exec (.storePreset p tag [ib]) s =
      .next ({ s with
        tuner := { s.tuner with
          presets := s.tuner.presets.take ib.toNat ++ [e] ++ s.tuner.presets.drop (ib.toNat + 1)
          lastChanged := portOrigin p }
        ports := s.ports.raise .presets }.answered p (s.status p) tag 1 .ok (presetRecord e))) ∧
  (∀ (s : State) (p : Port) (tag ib : Byte) (j : Nat) (x : Preset), Ready s p → ib.toNat ≤ s.tuner.presets.length →
    ib.toNat < 40 → s.tuner.state = .locked → s.tuner.presets[j]? = some x → j ≠ ib.toNat → x.band = s.tuner.band →
    x.frequency = s.tuner.target →
    (∀ k y, k < j → s.tuner.presets[k]? = some y → k ≠ ib.toNat →
      ¬(y.band = s.tuner.band ∧ y.frequency = s.tuner.target)) →
    exec (.storePreset p tag [ib]) s = .next (s.answered p (s.status p) tag 1 .duplicate [BitVec.ofNat 8 j])) ∧
  (∀ (s : State) (p : Port) (tag ib : Byte), Ready s p → ib.toNat < s.tuner.presets.length →
    exec (.erasePreset p tag [ib]) s =
      .next ({ s with
        tuner := { s.tuner with
          presets := s.tuner.presets.take ib.toNat ++ s.tuner.presets.drop (ib.toNat + 1), lastChanged := portOrigin p }
        ports := s.ports.raise .presets }.answered p (s.status p) tag 1 .ok [])) ∧
  ∀ (s : State) (p : Port) (tag nb : Byte) (rest : List Byte) (ps : List Preset), Ready s p → nb.toNat ≤ 40 →
    rest.length = 5 * nb.toNat → readPresets rest = some ps → ps.all (withinEdges s.tuner) = true →
    ps.Pairwise (fun x y => (x.band, x.frequency) ≠ (y.band, y.frequency)) →
    exec (.loadPresets p tag (nb :: rest)) s =
      .next ({ s with
        tuner := { s.tuner with presets := ps, lastChanged := portOrigin p }
        ports := s.ports.raise .presets }.answered p (s.status p) tag (1 + rest.length) .ok (nb :: rest))

/-- The status requests of the tuner and of the encoders answer the records as they stand and change nothing; the bytes are
laid out as log 16 says (R180, R181, R188). GET_TUNER_STATUS sees the PILOT line (R162). -/
def Obligations.TunerReports : Prop :=
  (∀ (s : State) (p : Port) (tag : Byte), Ready s p →
    exec (.getBandTable p tag []) s =
      .next (s.answered p (s.status p) tag 0 .ok (bandRecord .fm s.tuner.fm ++ bandRecord .am s.tuner.am ++
        [BitVec.ofNat 8 s.tuner.fmCal.length, BitVec.ofNat 8 s.tuner.amCal.length])) ∧
    exec (.getPresets p tag []) s =
      .next (s.answered p (s.status p) tag 0 .ok
        (BitVec.ofNat 8 s.tuner.presets.length :: s.tuner.presets.flatMap presetRecord)) ∧
    exec (.getCalibration p tag [0]) s = .next (s.answered p (s.status p) tag 1 .ok (s.tuner.fmCal.flatMap pointRecord)) ∧
    exec (.getCalibration p tag [1]) s = .next (s.answered p (s.status p) tag 1 .ok (s.tuner.amCal.flatMap pointRecord)) ∧
    ∀ pilot, exec (.getTunerStatus p tag [] pilot) s =
      .next ({ s with tuner := { s.tuner with pilot := pilot } }.answered p (s.status p) tag 0 .ok
        (tunerRecord { s.tuner with pilot := pilot }))) ∧
  ∀ (s : State) (p : Port) (tag eb : Byte) (e : EncId), Ready s p → eb.toNat = e.1 →
    exec (.getEncoderStatus p tag [eb]) s =
      .next (s.answered p (s.status p) tag 1 .ok (encoderRecord (s.encoders.get e) s.ms))

/-- The events of an iteration and of the AFC timer: a word that waits is transferred and starts the settle time, the settle
time ends in the wait for the first edge, edges are counted up to N, each restarting the 20 ms after which the gate is
abandoned, and the AFC timer in LOCKED opens a gate with no DAC write (R163, R166, R167, R170). A time that has not passed
does not end (log 4). That DAC_TRANSFER advances the millisecond timer is the model's choice (log 3), as is it that the one which
brings it to a multiple of 1,000 makes the snapshot of R19 due and that the next takes it first where it is still due (log 43). -/
def Obligations.IterationEvents : Prop :=
  (∀ s u : State, exec .counterSnapshot s = .next u → exec .dacTransfer s = exec .dacTransfer u) ∧
  (∀ s : State, s.snapshotDue = false → exec .dacTransfer s = .next { s with
    ms := s.ms + 1
    snapshotDue := decide ((s.ms + 1).toNat % 1000 = 0)
    tuner := { s.tuner with
      transferred := s.tuner.dac
      gate := if s.tuner.gate = .transfer then .settling { start := s.ms + 1, len := s.tuner.band.settle }
        else s.tuner.gate } }) ∧
  (∀ (s : State) (w : Timer), s.tuner.gate = .settling w → exec .settleTimeExpiry s =
    if ranOut (some w) s.ms then
      .next { s with tuner := { s.tuner with gate := .waiting { start := s.ms, len := 20 } } }
    else .next s) ∧
  (∀ (s : State) (w : Timer) (ticks : Nat), s.tuner.gate = .waiting w →
    exec (.freqRisingEdge ticks) s =
      .next { s with tuner := { s.tuner with gate := .counting 0 0 { start := s.ms, len := 20 } } }) ∧
  (∀ (s : State) (n t ticks : Nat) (w : Timer), s.tuner.gate = .counting n t w → n + 1 < s.tuner.band.gateCount →
    exec (.freqRisingEdge ticks) s =
      .next { s with tuner := { s.tuner with gate := .counting (n + 1) (t + ticks) { start := s.ms, len := 20 } } }) ∧
  (∀ (s : State) (n t ticks : Nat) (w : Timer), s.tuner.gate = .counting n t w → n + 1 = s.tuner.band.gateCount →
    exec (.freqRisingEdge ticks) s = exec (.gateComplete (t + ticks)) s) ∧
  (∀ s : State, ¬ranOut s.tuner.gate.limit s.ms → exec .gateAbandoned s = .next s) ∧
  (∀ s : State, ¬ranOut s.tuner.afcTimer s.ms → exec .afcTimerExpiry s = .next s) ∧
  ∀ (s : State), s.tuner.state = .locked → ranOut s.tuner.afcTimer s.ms →
    exec .afcTimerExpiry s =
      .next { s with tuner := { s.tuner with afcTimer := none, gate := .waiting { start := s.ms, len := 20 } } }

/-- The end of an iteration of an acquisition (R166, R167, R168, R175): the second gate in a row within tolerance locks, keeps
the DAC word, and completes with DONE; another, complete or abandoned with an LO of 0, corrects the word by the slope of the
bracketing segment within ±4,096, and the twelfth without a lock ends UNLOCKED with FAILED. In a SEEK or a SCAN a lock in phase
ACQUIRE goes to the station test, and a twelfth iteration without one to the next candidate in the direction of the search, with
one fewer left, or, after the last, to the RETURN, with no completion and no change outside the tuner but TUNER_LOCK where the
band changes; the end of a RETURN completes with EXHAUSTED or DONE, LOCKED at a lock and UNLOCKED at a failure (R168, R171,
R172, R173). An AFC gate: an error within tolerance does nothing but restart the timer, one up to four times it corrects the
word and keeps LOCKED, and a larger one, that of an abandoned gate among them, leaves LOCKED for an acquisition with originator
AUTO and mutes the zones on TL (R170, R176). That GATE_COMPLETE ends any gate that is open, whatever its count of edges, is the
model's choice (log 5). -/
def Obligations.GateDecides : Prop :=
  ((∀ (s : State) (ticks : Nat) (op : TunerOp) (o : Origin), s.tuner.gate.open = true → s.tuner.state = .acquiring →
     s.tuner.phase = none → s.tuner.op = some (op, o) → s.tuner.inRun = true →
     (s.tuner.error (measuredLO s.tuner.band ticks)).natAbs ≤ s.tuner.band.tolerance →
     ∃ t, exec (.gateComplete ticks) s = .next t ∧ t.tuner.state = .locked ∧ t.tuner.dac = s.tuner.dac ∧
       t.tuner.measured = some (measuredLO s.tuner.band ticks - s.tuner.band.ifOffset) ∧ t.tuner.op = none ∧
       t.tuner.afcTimer = some { start := s.ms, len := 500 } ∧ t.tuner.inRun = false ∧
       t.tuner.completions.head? = some
         { number := s.tuner.nextNumber, result := .done, op := op, origin := o, band := s.tuner.band
           frequency := s.tuner.target } ∧ t.tuner.nextNumber = s.tuner.nextNumber + 1 ∧
       (∀ p, (t.ports.get p).flags.get Flag.tunerDone.index = true ∧ (t.ports.get p).flags.get Flag.tunerLock.index = true) ∧
       (∀ z, (s.zones.get z).link = some 8 → (t.zones.get z).mutes.tuning = false)) ∧
   (∀ (s : State) (c : Instr) (m : Option Int) (e k : Int) (a b : CalPoint), gateMisses s c m e →
     s.tuner.inFlight = true → s.tuner.phase ≠ some .test → s.tuner.iterations < 11 →
     bracket (s.tuner.cal s.tuner.band) s.tuner.target = some (a, b) →
     k = max (-4096) (min 4096 (roundHalfUp (e * ((b.dac : Int) - a.dac)) ((b.frequency : Int) - a.frequency))) →
     exec c s = .next { s with tuner := { s.tuner with
       measured := m, iterations := s.tuner.iterations + 1, inRun := decide (e.natAbs ≤ s.tuner.band.tolerance)
       dac := (max 0 (min 65535 ((s.tuner.dac : Int) + k))).toNat, gate := .transfer } }) ∧
   ∀ (s : State) (c : Instr) (m : Option Int) (e : Int) (op : TunerOp) (o : Origin), gateMisses s c m e →
     s.tuner.state = .acquiring → s.tuner.phase = none → s.tuner.op = some (op, o) → s.tuner.iterations = 11 →
     ∃ t, exec c s = .next t ∧ t.tuner.state = .unlocked ∧ t.tuner.measured = m ∧ t.tuner.op = none ∧
       t.tuner.iterations = 12 ∧ t.tuner.gate = .idle ∧
       t.tuner.dac = (max 0 (min 65535
         ((s.tuner.dac : Int) + correction (bracket (s.tuner.cal s.tuner.band) s.tuner.target) e))).toNat ∧
       t.tuner.completions.head? = some
         { number := s.tuner.nextNumber, result := .failed, op := op, origin := o, band := s.tuner.band
           frequency := s.tuner.target } ∧ t.zones = s.zones) ∧
  ((∀ (s : State) (ticks : Nat), s.tuner.gate.open = true → (s.tuner.state = .seeking ∨ s.tuner.state = .scanning) →
     s.tuner.phase = some .acquire → s.tuner.inRun = true →
     (s.tuner.error (measuredLO s.tuner.band ticks)).natAbs ≤ s.tuner.band.tolerance →
     exec (.gateComplete ticks) s = .next { s with tuner := { s.tuner with
       measured := some (measuredLO s.tuner.band ticks - s.tuner.band.ifOffset), iterations := s.tuner.iterations + 1
       inRun := false, phase := some .test, gate := .idle, readings := [] } }) ∧
   (∀ (s : State) (c : Instr) (m : Option Int) (e : Int) (start : Band × Nat), gateMisses s c m e →
     (s.tuner.state = .seeking ∨ s.tuner.state = .scanning) → s.tuner.phase = some .acquire → s.tuner.iterations = 11 →
     s.tuner.start = some start →
     ∃ t, exec c s = .next t ∧ searchGoesOn s.tuner t.tuner ∧ t.tuner.start = some start ∧
       t.tuner.measured = m ∧ t.tuner.completions = s.tuner.completions ∧ t.tuner.nextNumber = s.tuner.nextNumber ∧
       t.tuner.presets = s.tuner.presets ∧ t.tuner.inRun = false ∧
       (∀ d, coarse (s.tuner.cal t.tuner.band) t.tuner.target = some d → t.tuner.dac = d) ∧
       t = { s with tuner := t.tuner, ports := s.ports.raiseIf (decide (t.tuner.band ≠ s.tuner.band)) .tunerLock }) ∧
   (∀ (s : State) (ticks : Nat) (op : TunerOp) (o : Origin), s.tuner.gate.open = true →
     (s.tuner.state = .seeking ∨ s.tuner.state = .scanning) → s.tuner.phase = some .return → s.tuner.op = some (op, o) →
     s.tuner.inRun = true → (s.tuner.error (measuredLO s.tuner.band ticks)).natAbs ≤ s.tuner.band.tolerance →
     ∃ t, exec (.gateComplete ticks) s = .next t ∧ t.tuner.state = .locked ∧ t.tuner.dac = s.tuner.dac ∧
       t.tuner.op = none ∧ t.tuner.start = none ∧ t.tuner.phase = none ∧ t.tuner.target = s.tuner.target ∧
       t.tuner.afcTimer = some { start := s.ms, len := 500 } ∧ t.tuner.presets = s.tuner.presets ∧
       t.tuner.completions.head? = some
         { number := s.tuner.nextNumber, result := if s.tuner.state = .seeking then .exhausted else .done, op := op
           origin := o, band := s.tuner.band, frequency := s.tuner.target } ∧
       (∀ p, (t.ports.get p).flags.get Flag.tunerDone.index = true ∧ (t.ports.get p).flags.get Flag.tunerLock.index = true) ∧
       (∀ z, (s.zones.get z).link = some 8 → (t.zones.get z).mutes.tuning = false)) ∧
   ∀ (s : State) (c : Instr) (m : Option Int) (e : Int) (op : TunerOp) (o : Origin), gateMisses s c m e →
     (s.tuner.state = .seeking ∨ s.tuner.state = .scanning) → s.tuner.phase = some .return → s.tuner.op = some (op, o) →
     s.tuner.iterations = 11 →
     ∃ t, exec c s = .next t ∧ t.tuner.state = .unlocked ∧ t.tuner.measured = m ∧ t.tuner.op = none ∧
       t.tuner.start = none ∧ t.tuner.phase = none ∧ t.tuner.target = s.tuner.target ∧ t.tuner.gate = .idle ∧
       t.tuner.presets = s.tuner.presets ∧
       t.tuner.dac = (max 0 (min 65535
         ((s.tuner.dac : Int) + correction (bracket (s.tuner.cal s.tuner.band) s.tuner.target) e))).toNat ∧
       t.tuner.completions.head? = some
         { number := s.tuner.nextNumber, result := if s.tuner.state = .seeking then .exhausted else .done, op := op
           origin := o, band := s.tuner.band, frequency := s.tuner.target } ∧
       (∀ p, (t.ports.get p).flags.get Flag.tunerDone.index = true ∧ (t.ports.get p).flags.get Flag.tunerLock.index = true) ∧
       t.zones = s.zones) ∧
  (∀ (s : State) (ticks : Nat) (e : Int), s.tuner.gate.open = true → s.tuner.state = .locked →
     e = s.tuner.error (measuredLO s.tuner.band ticks) →
     ∃ t, exec (.gateComplete ticks) s = .next t ∧
       (e.natAbs ≤ s.tuner.band.tolerance → t.tuner.state = .locked ∧ t.tuner.dac = s.tuner.dac ∧
         t.tuner.afcTimer = some { start := s.ms, len := 500 } ∧ t.zones = s.zones ∧ t.ports = s.ports) ∧
       (s.tuner.band.tolerance < e.natAbs → e.natAbs ≤ 4 * s.tuner.band.tolerance → t.tuner.state = .locked ∧
         t.tuner.dac = (max 0 (min 65535
           ((s.tuner.dac : Int) + correction (bracket (s.tuner.cal s.tuner.band) s.tuner.target) e))).toNat ∧
         t.tuner.afcTimer = some { start := s.ms, len := 500 } ∧ t.tuner.lastChanged = s.tuner.lastChanged ∧
         t.zones = s.zones ∧ t.ports = s.ports) ∧
       (4 * s.tuner.band.tolerance < e.natAbs → t.tuner.state = .acquiring ∧ t.tuner.op = some (.afc, .auto) ∧
         t.tuner.dac = s.tuner.dac ∧ t.tuner.target = s.tuner.target ∧ t.tuner.iterations = 0 ∧
         t.tuner.lastChanged = .auto ∧ (∀ p, (t.ports.get p).flags.get Flag.tunerLock.index = true) ∧
         ∀ z, (s.zones.get z).link = some 8 → (t.zones.get z).mutes.tuning = true)) ∧
  ∀ s : State, s.tuner.state = .locked → ranOut s.tuner.gate.limit s.ms →
    ∃ t, exec .gateAbandoned s = .next t ∧
      t.tuner = { s.tuner with
        state := .acquiring, op := some (.afc, .auto), lastChanged := .auto, iterations := 0, inRun := false
        measured := none, gate := .transfer, afcTimer := none } ∧
      (∀ p, (t.ports.get p).flags.get Flag.tunerLock.index = true) ∧
      (∀ z, t.zones.get z = if (s.zones.get z).link = some 8 then { s.zones.get z with
          mutes := { (s.zones.get z).mutes with tuning := true }
          lastChanged := if (s.zones.get z).mutes.tuning = true then (s.zones.get z).lastChanged else .auto }
        else s.zones.get z) ∧
      t = { s with tuner := t.tuner, zones := t.zones, ports := t.ports }

/-- The level meter: a rising edge that ends a captured period gives floor(255 × H / Pd), 20 ms without an edge give 0 or 255,
and a falling edge captures H; each restarts the 20 ms, which do not end before their time, and outside a station test nothing
else changes (R169). That a reading from a timeout leaves a capture in progress as it is, is log 29. In a station test each of
the first two readings, whatever completes it, is kept with PILOT and the test goes on; with the third it is decided, and passes
when all three reach the threshold, and with stereo-only on FM PILOT was high at all three. A SEEK that passes enters LOCKED and
completes with FOUND; a SCAN that passes appends the station unless the list holds it or 40 entries, sets PRESETS, and goes on,
or to its RETURN when the list is full; a search that fails goes on with the next candidate in its direction, with one fewer
left, or with its RETURN after the last (R171, R172, R173, R182). STATION_TEST is the rising edge that completes the third
reading (log 6). -/
def Obligations.LevelAndStationTest : Prop :=
  ((∀ (s : State) (period high : Nat) (pilot : Bool), s.tuner.capturing = true → s.tuner.lvlHigh = some high → 0 < period →
     high ≤ period → s.tuner.phase ≠ some .test →
     exec (.levelReading period pilot) s = .next { s with tuner := { s.tuner with
       level := 255 * high / period, pilot := pilot, lvl := true, lvlHigh := none
       lvlTimer := { start := s.ms, len := 20 } } }) ∧
   (∀ (s : State) (pilot : Bool), ¬ranOut (some s.tuner.lvlTimer) s.ms → exec (.levelTimeout pilot) s = .next s) ∧
   (∀ (s : State) (pilot : Bool), ranOut (some s.tuner.lvlTimer) s.ms → s.tuner.phase ≠ some .test →
     exec (.levelTimeout pilot) s = .next { s with tuner := { s.tuner with
       level := if s.tuner.lvl then 255 else 0, pilot := pilot, lvlTimer := { start := s.ms, len := 20 } } }) ∧
   ∀ (s : State) (high : Nat), s.tuner.capturing = true →
     exec (.lvlFallingEdge high) s = .next { s with tuner := { s.tuner with
       lvl := false, lvlHigh := some high, lvlTimer := { start := s.ms, len := 20 } } }) ∧
  ((∀ (s : State) (c : Instr) (level : Nat) (pilot : Bool) (x : Tuner), readingCompletes s c level pilot x →
     s.tuner.phase = some .test → s.tuner.readings.length < 2 →
     exec c s = .next { s with tuner := { x with
       level := level, pilot := pilot, readings := s.tuner.readings ++ [(level, pilot)] } }) ∧
   ∀ (s : State) (period high : Nat) (pilot : Bool), s.tuner.phase = some .test → s.tuner.readings.length = 2 →
     s.tuner.capturing = true → s.tuner.lvlHigh = some high → 0 < period → high ≤ period →
     ∃ t, exec (.stationTest period pilot) s = .next t ∧ exec (.levelReading period pilot) s = .next t ∧
       t.tuner.level = 255 * high / period ∧ t.tuner.pilot = pilot ∧ t.tuner.readings = []) ∧
  (∀ (s : State) (c : Instr) (pilot : Bool) (o : Origin) (a b : Nat × Bool) (level : Nat) (x : Tuner),
     readingCompletes s c level pilot x → s.tuner.state = .seeking → s.tuner.phase = some .test →
     s.tuner.op = some (.seek, o) → s.tuner.readings = [a, b] →
     ∃ t, exec c s = .next t ∧ t.tuner.level = level ∧ t.tuner.pilot = pilot ∧ t.tuner.readings = [] ∧
       t.tuner.presets = s.tuner.presets ∧
       ((∀ y ∈ [a, b, (level, pilot)], (s.tuner.record s.tuner.band).threshold.toNat ≤ y.1 ∧
           (s.tuner.band = .fm → (s.tuner.record s.tuner.band).stereoOnly = true → y.2 = true)) →
         t.tuner.state = .locked ∧ t.tuner.target = s.tuner.target ∧ t.tuner.op = none ∧ t.tuner.start = none ∧
         t.tuner.afcTimer = some { start := s.ms, len := 500 } ∧
         t.tuner.completions.head? = some
           { number := s.tuner.nextNumber, result := .found, op := .seek, origin := o, band := s.tuner.band
             frequency := s.tuner.target }) ∧
       ((∃ y ∈ [a, b, (level, pilot)], y.1 < (s.tuner.record s.tuner.band).threshold.toNat ∨
           (s.tuner.band = .fm ∧ (s.tuner.record s.tuner.band).stereoOnly = true ∧ y.2 = false)) →
         searchGoesOn s.tuner t.tuner ∧ t.tuner.completions = s.tuner.completions)) ∧
  ∀ (s : State) (c : Instr) (pilot : Bool) (o : Origin) (a b : Nat × Bool) (level : Nat) (x : Tuner) (start : Band × Nat)
    (pass held : Prop),
    readingCompletes s c level pilot x → s.tuner.state = .scanning → s.tuner.phase = some .test →
    s.tuner.op = some (.scan, o) → s.tuner.readings = [a, b] → s.tuner.start = some start →
    (pass ↔ ∀ y ∈ [a, b, (level, pilot)], (s.tuner.record s.tuner.band).threshold.toNat ≤ y.1 ∧
      (s.tuner.band = .fm → (s.tuner.record s.tuner.band).stereoOnly = true → y.2 = true)) →
    (held ↔ ∃ y ∈ s.tuner.presets, y.band = s.tuner.band ∧ y.frequency = s.tuner.target) →
    ∃ t, exec c s = .next t ∧ t.tuner.level = level ∧ t.tuner.pilot = pilot ∧ t.tuner.readings = [] ∧
      t.tuner.state = .scanning ∧ t.tuner.op = some (.scan, o) ∧ t.tuner.iterations = 0 ∧ t.tuner.gate = .transfer ∧
      t.tuner.completions = s.tuner.completions ∧
      (pass ∧ ¬held ∧ s.tuner.presets.length < 40 → t.tuner.presets = s.tuner.presets ++
          [{ band := s.tuner.band, frequency := s.tuner.target, level := level }] ∧
        ∀ p, (t.ports.get p).flags.get Flag.presets.index = true) ∧
      (¬pass ∨ held ∨ 40 ≤ s.tuner.presets.length → t.tuner.presets = s.tuner.presets ∧
        ∀ p, (t.ports.get p).flags.get Flag.presets.index = (s.ports.get p).flags.get Flag.presets.index) ∧
      (pass ∧ (40 ≤ s.tuner.presets.length ∨ (¬held ∧ s.tuner.presets.length = 39)) →
        t.tuner.phase = some .return ∧ t.tuner.triesLeft = 0 ∧ (t.tuner.band, t.tuner.target) = start) ∧
      ((¬pass ∨ (held ∧ s.tuner.presets.length < 40) ∨ (¬held ∧ s.tuner.presets.length < 39)) →
        searchGoesOn s.tuner t.tuner)

/-! ## Panel encoders -/

/-- The filter and the decoder: a raw change restarts the stability time of 1 ms, within which nothing is taken; a pair that has
been stable for it becomes the filtered pair; the first
after a reset is not decoded; a quarter moves the count away from 0, or restarts it at 1 or −1 against a count of the other
sign; the fourth in a row makes a detent; a jump leaves the count (R185, R186, R187). -/
def Obligations.EncoderDecoding : Prop :=
  (∀ (s : State) (e : EncId) (a b : Bool), (s.encoders.get e).raw ≠ (a, b) →
    exec (.encoderLineChange e a b) s = .next { s with
      encoders := setAt s.encoders e { s.encoders.get e with raw := (a, b), changedAt := s.ms } }) ∧
  (∀ (s : State) (e : EncId), (s.encoders.get e).changedAt = s.ms → exec (.filterSettled e) s = .next s) ∧
  (∀ (s : State) (e : EncId), (s.encoders.get e).changedAt ≠ s.ms → (s.encoders.get e).filtered = none →
    exec (.filterSettled e) s = .next { s with
      encoders := setAt s.encoders e { s.encoders.get e with filtered := some (s.encoders.get e).raw } }) ∧
  (∀ (s : State) (e : EncId) (old : Bool × Bool) (q : Int), (s.encoders.get e).changedAt ≠ s.ms →
    (s.encoders.get e).filtered = some old →
    (((old, (s.encoders.get e).raw) ∈ clockwisePairs ∧ (s.encoders.get e).quarters < 3 ∧
        q = (if 0 ≤ (s.encoders.get e).quarters then (s.encoders.get e).quarters + 1 else 1)) ∨
      (((s.encoders.get e).raw, old) ∈ clockwisePairs ∧ -3 < (s.encoders.get e).quarters ∧
        q = (if (s.encoders.get e).quarters ≤ 0 then (s.encoders.get e).quarters - 1 else -1)) ∨
      ((s.encoders.get e).raw = (!old.1, !old.2) ∧ q = (s.encoders.get e).quarters)) →
    exec (.filterSettled e) s = .next { s with
      encoders := setAt s.encoders e { s.encoders.get e with filtered := some (s.encoders.get e).raw, quarters := q } }) ∧
  ∀ (s : State) (e : EncId) (old : Bool × Bool) (clockwise : Bool), (s.encoders.get e).changedAt ≠ s.ms →
    (s.encoders.get e).filtered = some old →
    ((clockwise = true ∧ (old, (s.encoders.get e).raw) ∈ clockwisePairs ∧ (s.encoders.get e).quarters = 3) ∨
      (clockwise = false ∧ ((s.encoders.get e).raw, old) ∈ clockwisePairs ∧ (s.encoders.get e).quarters = -3)) →
    exec (.filterSettled e) s = exec (.detent e clockwise) { s with
      encoders := setAt s.encoders e { s.encoders.get e with filtered := some (s.encoders.get e).raw } }

/-- SET_BINDING replaces an encoder's binding, its quarter count becomes 0 and its last detent none, and the binding is answered
(R188), with the bytes that log 16 gives it. A detent is recorded, the quarter count returns to 0, and a step count of 4 within
40 ms of a detent in the same direction, else of 1, goes to the bound owner (R187, R189): a zone in ON moves its volume and sets
its ZONE flag (R77), the tuner out of OFF tunes by that many channels (R177), MAIN in ON, on any path and with or without a test
tone, does with another candidate what a SELECT_SOURCE of it does, with origin PANEL and no answer (R190); any other zone, an
OFF tuner, NONE and a SOURCE step that finds no other entry discard it. The entry a SOURCE step reaches is found by steps of
one: the next candidate up or down, around the table, from the lowest or the highest one when the selection is NONE (R190). That
DETENT acts whatever the quarter count is, is the model's choice (log 5). -/
def Obligations.BindingAndDetent : Prop :=
  (∀ (s : State) (p : Port) (tag eb bb zb : Byte) (e : EncId) (b : Binding), Ready s p → eb.toNat = e.1 →
    ((∃ z : ZoneId, bb = 0 ∧ zb.toNat = z.1 ∧ b = .volume z) ∨ (bb = 1 ∧ b = .tune) ∨ (bb = 2 ∧ b = .source) ∨
      (bb = 3 ∧ b = .none)) →
    exec (.setBinding p tag [eb, bb, zb]) s =
      .next ({ s with
        encoders := setAt s.encoders e { s.encoders.get e with binding := b, quarters := 0, lastDetent := none }
        }.answered p (s.status p) tag 3 .ok (bindingRecord b))) ∧
  (∀ (s u : State) (e : EncId) (clockwise : Bool) (n : Int),
    n = (if clockwise then 1 else -1) *
      (match (s.encoders.get e).lastDetent with
        | some (t, d) => if d = clockwise ∧ (s.ms - t).toNat < 40 then 4 else 1
        | none => 1) →
    u = { s with
      encoders := setAt s.encoders e { s.encoders.get e with quarters := 0, lastDetent := some (s.ms, clockwise) } } →
    (∀ (z : ZoneId) (q : Int), (s.encoders.get e).binding = .volume z → (s.zones.get z).power = .on →
      q = max (-160) (min 24 ((s.zones.get z).qv + n)) →
      exec (.detent e clockwise) s = .next { u with
        zones := setAt s.zones z { s.zones.get z with qv := q, lastChanged := .panel }
        ports := (s.ports.raise (.zone z)).raiseIf (q != (s.zones.get z).qv + n) .limited }) ∧
    (∀ (z : ZoneId), (s.encoders.get e).binding = .volume z → (s.zones.get z).power ≠ .on →
      exec (.detent e clockwise) s = .next u) ∧
    ((s.encoders.get e).binding = .tune → s.tuner.state = .off → exec (.detent e clockwise) s = .next u) ∧
    (∀ f : Int, (s.encoders.get e).binding = .tune → s.tuner.state ≠ .off →
      f = s.tuner.target + n * (s.tuner.record s.tuner.band).step →
      ∃ t, exec (.detent e clockwise) s = .next t ∧ t.tuner.state = .acquiring ∧ t.tuner.band = s.tuner.band ∧
        t.tuner.target = appliedFrequency s.tuner.band (s.tuner.record s.tuner.band).step f ∧
        t.tuner.op = some (.step, .panel) ∧ t.tuner.lastChanged = .panel ∧ t.encoders = u.encoders ∧
        (f ≠ t.tuner.target → ∀ p, (t.ports.get p).flags.get Flag.limited.index = true)) ∧
    (∀ j : SrcId, (s.encoders.get e).binding = .source → (s.zones.get 0).power = .on → (s.zones.get 0).path = .playing →
      (s.zones.get 0).qr ≠ none → stepEntry s.sources (s.zones.get 0).selected n = some j →
      (s.zones.get 0).selected ≠ some j → (s.zones.get 0).tone.running = false →
      exec (.detent e clockwise) s = .next { u with
        zones := setAt s.zones 0 { s.zones.get 0 with selected := some j, path := .fading, lastChanged := .panel }
        ports := s.ports.raise (.zone 0) }) ∧
    (∀ (j : SrcId) (tag : Byte), (s.encoders.get e).binding = .source → (s.zones.get 0).power = .on →
      stepEntry s.sources (s.zones.get 0).selected n = some j → (s.zones.get 0).selected ≠ some j →
      ∃ v, exec (.selectSource .cpa tag [0, BitVec.ofNat 8 j.1])
          { u with ports := { s.ports with cpa := { s.ports.cpa with line := .idle, slot := none } } } = .next v ∧
        exec (.detent e clockwise) s = .next { v with
          zones := setAt v.zones 0 { v.zones.get 0 with lastChanged := .panel }
          ports := { cpa := { s.ports.cpa with flags := v.ports.cpa.flags }
                     cpb := { s.ports.cpb with flags := v.ports.cpb.flags } } }) ∧
    ((s.encoders.get e).binding = .source → (stepEntry s.sources (s.zones.get 0).selected n = none ∨
        stepEntry s.sources (s.zones.get 0).selected n = (s.zones.get 0).selected) →
      exec (.detent e clockwise) s = .next u) ∧
    ((s.encoders.get e).binding = .source → (s.zones.get 0).power ≠ .on → exec (.detent e clockwise) s = .next u) ∧
    ((s.encoders.get e).binding = .none → exec (.detent e clockwise) s = .next u)) ∧
  ∀ (src : Vector SourceEntry 16) (sel : Option SrcId),
    (∀ n, stepEntry src sel n = none ↔ ∀ k, (src.get k).input = none) ∧
    (∀ m : Nat, 1 ≤ m → stepEntry src sel (m + 1) = stepEntry src (stepEntry src sel m) 1 ∧
      stepEntry src sel (-(m + 1)) = stepEntry src (stepEntry src sel (-m)) (-1)) ∧
    ∀ j : SrcId, (src.get j).input.isSome = true →
      (∀ i, sel = some i → i < j → (∀ k, i < k → k < j → (src.get k).input = none) → stepEntry src sel 1 = some j) ∧
      (∀ i, sel = some i → j ≤ i → (∀ k, i < k → (src.get k).input = none) → (∀ k, k < j → (src.get k).input = none) →
        stepEntry src sel 1 = some j) ∧
      (∀ i, sel = some i → j < i → (∀ k, j < k → k < i → (src.get k).input = none) → stepEntry src sel (-1) = some j) ∧
      (∀ i, sel = some i → i ≤ j → (∀ k, k < i → (src.get k).input = none) → (∀ k, j < k → (src.get k).input = none) →
        stepEntry src sel (-1) = some j) ∧
      (sel = none → (∀ k, k < j → (src.get k).input = none) → stepEntry src sel 1 = some j) ∧
      (sel = none → (∀ k, j < k → (src.get k).input = none) → stepEntry src sel (-1) = some j)

/-! ## Invariants that every step keeps -/

/-- A command that changes what a flag reports sets that flag in both copies: LINK for a link's enable setting, loss window,
state, rate, format and descriptor and for its monitor's state (R23, R34), DU for a unit's state, bound link and attached set
and, with the other one, for the wait list (R57), ZONE for the listed parts of a zone's record, its modulator settings, its
speaker entries and the speaker under test (R86, R133, R157), PAIR for a pair's state, retry count, last cause and settings
(R147), TUNER_DONE for the completions, TUNER_LOCK for state and band, PRESETS for the list (R182). It holds of every command
but the two resets that are taken, whose flags DeviceResetEffect and PowerOnResetEffect state. A flag that is set without such a
change, as at the step of a tone onto the same speaker, is in the statement of its command. -/
def Obligations.ChangesSetFlags : Prop :=
  ∀ (c : Instr) (s t : State), exec c s = .next t → (∀ p tag, c ≠ .deviceReset p tag []) → (∀ pins, c ≠ .powerOnReset pins) →
    changesFlagged s t

/-- Every step keeps the laws of the speaker table, by which MAIN has at most eight speakers and ZONE2 and ZONE3 at most two
(R119). -/
def Obligations.SpeakerTableKept : Prop :=
  ∀ s t : State, tableLawful s.speakers → step s = .next t →
    tableLawful t.speakers ∧ ∀ z, (zoneChannels t.speakers z).length ≤ speakerLimit z

/-- Every step keeps buffers, volumes, ramp intervals, modulator settings and counts in their ranges (R19, R59, R80, R103,
R123). -/
def Obligations.CountsInRangeKept : Prop := ∀ s t : State, countsInRange s → step s = .next t → countsInRange t

/-- Every step keeps TONE equal to the running of the sequencer, which runs in ON alone (R149). Every step keeps the
auto-standby countdown running in exactly the zones that are ON with a setting above 0 and whose link's activity monitor is not
ACTIVE, a zone without a link counting as quiet; none runs out of ON (R82). -/
def Obligations.ToneAndCountdownKept : Prop :=
  ∀ s t : State, step s = .next t →
    ((∀ z, (s.zones.get z).toneLawful) → ∀ z, (t.zones.get z).toneLawful) ∧ (countdownsFollow s → countdownsFollow t)

/-- Every step keeps all lip-sync allocations within the share (R112). -/
def Obligations.ShareKept : Prop := ∀ s t : State, shareKept s → step s = .next t → shareKept t

/-- Every step keeps at most 40 presets, no station among them twice, and at most four completions (R175, R178). -/
def Obligations.TunerListsKept : Prop := ∀ s t : State, tunerLists s.tuner → step s = .next t → tunerLists t.tuner

/-- Every step keeps the laws of the decode units and their attached zones, the wait list as the list of the waiting zones, and
DECODE with the zone's position (R38, R49, R55, R73); a zone that is not bound empty of what a binding brings, and NO_SIGNAL,
FORMAT and TUNING with the zone's link: NO_SIGNAL unless it is LOCKED, FORMAT while its last good descriptor has format 2 or 3
(R59, R60, R63, R71, R72). With these it keeps the arbiter's laws: a zone is attached or waits exactly while its link needs
decode, no zone waits while a unit is FREE or for a link that a unit serves, a unit that is not FREE has an attached zone, and
no link has two units (R38, R49, R50, R52). -/
def Obligations.UnitsAndZonesKept : Prop :=
  ∀ s t : State, unitsLawful s → waitListLawful s → decodeMutesFollow s → (∀ z, (s.zones.get z).atRest) →
    linkMutesFollow s → step s = .next t →
    (unitsLawful t ∧ waitListLawful t ∧ decodeMutesFollow t ∧ (∀ z, (t.zones.get z).atRest) ∧ linkMutesFollow t) ∧
    (arbiterLawful s → arbiterLawful t)

/-- Every step keeps the retry timer in TRIPPED and the probe window in PROBE alone, and the channels of a held pair at the off
level (R130, R136). -/
def Obligations.PairsLawfulKept : Prop := ∀ s t : State, pairsLawful s → step s = .next t → pairsLawful t

/-- The state the machine starts in is a power-on reset with quiet lines (that the lines are quiet is the model's choice, log 8):
a power-on reset leaves it as it is, attention is asserted at both ports, and all invariants hold in it. -/
def Obligations.ResetIsPowerOn : Prop :=
  exec (.powerOnReset Pins.quiet) State.reset = .next State.reset ∧ State.reset.pending = [] ∧
  (∀ p, (State.reset.ports.get p).attention = true) ∧
  tableLawful State.reset.speakers ∧ countsInRange State.reset ∧ (∀ z, (State.reset.zones.get z).toneLawful) ∧
  countdownsFollow State.reset ∧
  shareKept State.reset ∧ tunerLists State.reset.tuner ∧ unitsLawful State.reset ∧ waitListLawful State.reset ∧
  arbiterLawful State.reset ∧ decodeMutesFollow State.reset ∧
  (∀ z, (State.reset.zones.get z).atRest) ∧ linkMutesFollow State.reset ∧ pairsLawful State.reset

end
end

