-- ==== Sys2Proof/Laws/Arbiter.lean ====
section
/-! SUPPORT. What the two searches of the decode arbiter find: the unit that serves a link, and the lowest-numbered FREE unit (R38,
R50). -/

namespace Sys2Proof.Machine

theorem servingUnit_eq_some (s : State) (l : LinkId) (u : UnitId) :
    servingUnit s l = some u ↔ (s.units.get u).link = some l ∧ ∀ v, v < u → (s.units.get v).link ≠ some l := by
  have hv : ∀ v : UnitId, v = 0 ∨ v = 1 := by decide
  unfold servingUnit unitIds
  rcases hv u with rfl | rfl <;> by_cases h0 : (s.units.get 0).link = some l <;> by_cases h1 : (s.units.get 1).link = some l <;>
    simp [List.find?, h0, h1]

theorem servingUnit_eq_none (s : State) (l : LinkId) : servingUnit s l = none ↔ ∀ v, (s.units.get v).link ≠ some l := by
  unfold servingUnit unitIds
  simp [Fin.forall_fin_two]

theorem lowestFree_eq_some (s : State) (u : UnitId) :
    lowestFree s = some u ↔ (s.units.get u).state = .free ∧ ∀ v, v < u → (s.units.get v).state ≠ .free := by
  have hv : ∀ v : UnitId, v = 0 ∨ v = 1 := by decide
  unfold lowestFree unitIds
  rcases hv u with rfl | rfl <;> by_cases h0 : (s.units.get 0).state = .free <;> by_cases h1 : (s.units.get 1).state = .free <;>
    simp [List.find?, h0, h1]

theorem lowestFree_eq_none (s : State) : lowestFree s = none ↔ ∀ v, (s.units.get v).state ≠ .free := by
  unfold lowestFree unitIds
  simp [Fin.forall_fin_two]

end Sys2Proof.Machine
end

