-- ==== Sys2Proof/Laws/State.lean ====
section
/-! SUPPORT. One lemma per field for every accessor that writes a record of the state, true by definition: proofs rewrite with
these and never unfold a record update. -/

namespace Sys2Proof.Machine

variable (s : State)

@[simp] theorem State.putLink_ms (l : LinkId) (r : Link) : (s.putLink l r).ms = s.ms := rfl
@[simp] theorem State.putLink_links (l : LinkId) (r : Link) : (s.putLink l r).links = setAt s.links l r := rfl
@[simp] theorem State.putLink_monitors (l : LinkId) (r : Link) : (s.putLink l r).monitors = s.monitors := rfl
@[simp] theorem State.putLink_sources (l : LinkId) (r : Link) : (s.putLink l r).sources = s.sources := rfl
@[simp] theorem State.putLink_units (l : LinkId) (r : Link) : (s.putLink l r).units = s.units := rfl
@[simp] theorem State.putLink_waitList (l : LinkId) (r : Link) : (s.putLink l r).waitList = s.waitList := rfl
@[simp] theorem State.putLink_zones (l : LinkId) (r : Link) : (s.putLink l r).zones = s.zones := rfl
@[simp] theorem State.putLink_speakers (l : LinkId) (r : Link) : (s.putLink l r).speakers = s.speakers := rfl
@[simp] theorem State.putLink_channels (l : LinkId) (r : Link) : (s.putLink l r).channels = s.channels := rfl
@[simp] theorem State.putLink_pairs (l : LinkId) (r : Link) : (s.putLink l r).pairs = s.pairs := rfl
@[simp] theorem State.putLink_tuner (l : LinkId) (r : Link) : (s.putLink l r).tuner = s.tuner := rfl
@[simp] theorem State.putLink_encoders (l : LinkId) (r : Link) : (s.putLink l r).encoders = s.encoders := rfl
@[simp] theorem State.putLink_ports (l : LinkId) (r : Link) : (s.putLink l r).ports = s.ports.raiseIf ((s.links.get l).reportedChange r) (.link l) := by unfold State.putLink; rfl
@[simp] theorem State.putLink_fresh (l : LinkId) (r : Link) : (s.putLink l r).fresh = s.fresh := rfl
@[simp] theorem State.putLink_snapshotDue (l : LinkId) (r : Link) : (s.putLink l r).snapshotDue = s.snapshotDue := rfl
@[simp] theorem State.putLink_pending (l : LinkId) (r : Link) : (s.putLink l r).pending = s.pending := rfl

@[simp] theorem State.putMonitor_ms (l : LinkId) (m : Monitor) : (s.putMonitor l m).ms = s.ms := rfl
@[simp] theorem State.putMonitor_links (l : LinkId) (m : Monitor) : (s.putMonitor l m).links = s.links := rfl
@[simp] theorem State.putMonitor_monitors (l : LinkId) (m : Monitor) : (s.putMonitor l m).monitors = setAt s.monitors l m := rfl
@[simp] theorem State.putMonitor_sources (l : LinkId) (m : Monitor) : (s.putMonitor l m).sources = s.sources := rfl
@[simp] theorem State.putMonitor_units (l : LinkId) (m : Monitor) : (s.putMonitor l m).units = s.units := rfl
@[simp] theorem State.putMonitor_waitList (l : LinkId) (m : Monitor) : (s.putMonitor l m).waitList = s.waitList := rfl
@[simp] theorem State.putMonitor_zones (l : LinkId) (m : Monitor) : (s.putMonitor l m).zones = s.zones := rfl
@[simp] theorem State.putMonitor_speakers (l : LinkId) (m : Monitor) : (s.putMonitor l m).speakers = s.speakers := rfl
@[simp] theorem State.putMonitor_channels (l : LinkId) (m : Monitor) : (s.putMonitor l m).channels = s.channels := rfl
@[simp] theorem State.putMonitor_pairs (l : LinkId) (m : Monitor) : (s.putMonitor l m).pairs = s.pairs := rfl
@[simp] theorem State.putMonitor_tuner (l : LinkId) (m : Monitor) : (s.putMonitor l m).tuner = s.tuner := rfl
@[simp] theorem State.putMonitor_encoders (l : LinkId) (m : Monitor) : (s.putMonitor l m).encoders = s.encoders := rfl
@[simp] theorem State.putMonitor_ports (l : LinkId) (m : Monitor) : (s.putMonitor l m).ports = s.ports.raiseIf ((s.monitors.get l).state != m.state) (.link l) := by unfold State.putMonitor; rfl
@[simp] theorem State.putMonitor_fresh (l : LinkId) (m : Monitor) : (s.putMonitor l m).fresh = s.fresh := rfl
@[simp] theorem State.putMonitor_snapshotDue (l : LinkId) (m : Monitor) : (s.putMonitor l m).snapshotDue = s.snapshotDue := rfl
@[simp] theorem State.putMonitor_pending (l : LinkId) (m : Monitor) : (s.putMonitor l m).pending = s.pending := rfl

@[simp] theorem State.putSource_ms (i : SrcId) (e : SourceEntry) : (s.putSource i e).ms = s.ms := rfl
@[simp] theorem State.putSource_links (i : SrcId) (e : SourceEntry) : (s.putSource i e).links = s.links := rfl
@[simp] theorem State.putSource_monitors (i : SrcId) (e : SourceEntry) : (s.putSource i e).monitors = s.monitors := rfl
@[simp] theorem State.putSource_sources (i : SrcId) (e : SourceEntry) : (s.putSource i e).sources = setAt s.sources i e := rfl
@[simp] theorem State.putSource_units (i : SrcId) (e : SourceEntry) : (s.putSource i e).units = s.units := rfl
@[simp] theorem State.putSource_waitList (i : SrcId) (e : SourceEntry) : (s.putSource i e).waitList = s.waitList := rfl
@[simp] theorem State.putSource_zones (i : SrcId) (e : SourceEntry) : (s.putSource i e).zones = s.zones := rfl
@[simp] theorem State.putSource_speakers (i : SrcId) (e : SourceEntry) : (s.putSource i e).speakers = s.speakers := rfl
@[simp] theorem State.putSource_channels (i : SrcId) (e : SourceEntry) : (s.putSource i e).channels = s.channels := rfl
@[simp] theorem State.putSource_pairs (i : SrcId) (e : SourceEntry) : (s.putSource i e).pairs = s.pairs := rfl
@[simp] theorem State.putSource_tuner (i : SrcId) (e : SourceEntry) : (s.putSource i e).tuner = s.tuner := rfl
@[simp] theorem State.putSource_encoders (i : SrcId) (e : SourceEntry) : (s.putSource i e).encoders = s.encoders := rfl
@[simp] theorem State.putSource_ports (i : SrcId) (e : SourceEntry) : (s.putSource i e).ports = s.ports := by unfold State.putSource; rfl
@[simp] theorem State.putSource_fresh (i : SrcId) (e : SourceEntry) : (s.putSource i e).fresh = s.fresh := rfl
@[simp] theorem State.putSource_snapshotDue (i : SrcId) (e : SourceEntry) : (s.putSource i e).snapshotDue = s.snapshotDue := rfl
@[simp] theorem State.putSource_pending (i : SrcId) (e : SourceEntry) : (s.putSource i e).pending = s.pending := rfl

@[simp] theorem State.putUnit_ms (u : UnitId) (d : DecodeUnit) : (s.putUnit u d).ms = s.ms := rfl
@[simp] theorem State.putUnit_links (u : UnitId) (d : DecodeUnit) : (s.putUnit u d).links = s.links := rfl
@[simp] theorem State.putUnit_monitors (u : UnitId) (d : DecodeUnit) : (s.putUnit u d).monitors = s.monitors := rfl
@[simp] theorem State.putUnit_sources (u : UnitId) (d : DecodeUnit) : (s.putUnit u d).sources = s.sources := rfl
@[simp] theorem State.putUnit_units (u : UnitId) (d : DecodeUnit) : (s.putUnit u d).units = setAt s.units u d := rfl
@[simp] theorem State.putUnit_waitList (u : UnitId) (d : DecodeUnit) : (s.putUnit u d).waitList = s.waitList := rfl
@[simp] theorem State.putUnit_zones (u : UnitId) (d : DecodeUnit) : (s.putUnit u d).zones = s.zones := rfl
@[simp] theorem State.putUnit_speakers (u : UnitId) (d : DecodeUnit) : (s.putUnit u d).speakers = s.speakers := rfl
@[simp] theorem State.putUnit_channels (u : UnitId) (d : DecodeUnit) : (s.putUnit u d).channels = s.channels := rfl
@[simp] theorem State.putUnit_pairs (u : UnitId) (d : DecodeUnit) : (s.putUnit u d).pairs = s.pairs := rfl
@[simp] theorem State.putUnit_tuner (u : UnitId) (d : DecodeUnit) : (s.putUnit u d).tuner = s.tuner := rfl
@[simp] theorem State.putUnit_encoders (u : UnitId) (d : DecodeUnit) : (s.putUnit u d).encoders = s.encoders := rfl
@[simp] theorem State.putUnit_ports (u : UnitId) (d : DecodeUnit) : (s.putUnit u d).ports = s.ports.raiseIf ((s.units.get u).reportedChange d) (.du u) := by unfold State.putUnit; rfl
@[simp] theorem State.putUnit_fresh (u : UnitId) (d : DecodeUnit) : (s.putUnit u d).fresh = s.fresh := rfl
@[simp] theorem State.putUnit_snapshotDue (u : UnitId) (d : DecodeUnit) : (s.putUnit u d).snapshotDue = s.snapshotDue := rfl
@[simp] theorem State.putUnit_pending (u : UnitId) (d : DecodeUnit) : (s.putUnit u d).pending = s.pending := rfl

@[simp] theorem State.raise_ms (f : Flag) : (s.raise f).ms = s.ms := rfl
@[simp] theorem State.raise_links (f : Flag) : (s.raise f).links = s.links := rfl
@[simp] theorem State.raise_monitors (f : Flag) : (s.raise f).monitors = s.monitors := rfl
@[simp] theorem State.raise_sources (f : Flag) : (s.raise f).sources = s.sources := rfl
@[simp] theorem State.raise_units (f : Flag) : (s.raise f).units = s.units := rfl
@[simp] theorem State.raise_waitList (f : Flag) : (s.raise f).waitList = s.waitList := rfl
@[simp] theorem State.raise_zones (f : Flag) : (s.raise f).zones = s.zones := rfl
@[simp] theorem State.raise_speakers (f : Flag) : (s.raise f).speakers = s.speakers := rfl
@[simp] theorem State.raise_channels (f : Flag) : (s.raise f).channels = s.channels := rfl
@[simp] theorem State.raise_pairs (f : Flag) : (s.raise f).pairs = s.pairs := rfl
@[simp] theorem State.raise_tuner (f : Flag) : (s.raise f).tuner = s.tuner := rfl
@[simp] theorem State.raise_encoders (f : Flag) : (s.raise f).encoders = s.encoders := rfl
@[simp] theorem State.raise_ports (f : Flag) : (s.raise f).ports = s.ports.raise f := by unfold State.raise; rfl
@[simp] theorem State.raise_fresh (f : Flag) : (s.raise f).fresh = s.fresh := rfl
@[simp] theorem State.raise_snapshotDue (f : Flag) : (s.raise f).snapshotDue = s.snapshotDue := rfl
@[simp] theorem State.raise_pending (f : Flag) : (s.raise f).pending = s.pending := rfl

@[simp] theorem State.putWaitList_ms (w : List ZoneId) : (s.putWaitList w).ms = s.ms := rfl
@[simp] theorem State.putWaitList_links (w : List ZoneId) : (s.putWaitList w).links = s.links := rfl
@[simp] theorem State.putWaitList_monitors (w : List ZoneId) : (s.putWaitList w).monitors = s.monitors := rfl
@[simp] theorem State.putWaitList_sources (w : List ZoneId) : (s.putWaitList w).sources = s.sources := rfl
@[simp] theorem State.putWaitList_units (w : List ZoneId) : (s.putWaitList w).units = s.units := rfl
@[simp] theorem State.putWaitList_waitList (w : List ZoneId) : (s.putWaitList w).waitList = w := rfl
@[simp] theorem State.putWaitList_zones (w : List ZoneId) : (s.putWaitList w).zones = s.zones := rfl
@[simp] theorem State.putWaitList_speakers (w : List ZoneId) : (s.putWaitList w).speakers = s.speakers := rfl
@[simp] theorem State.putWaitList_channels (w : List ZoneId) : (s.putWaitList w).channels = s.channels := rfl
@[simp] theorem State.putWaitList_pairs (w : List ZoneId) : (s.putWaitList w).pairs = s.pairs := rfl
@[simp] theorem State.putWaitList_tuner (w : List ZoneId) : (s.putWaitList w).tuner = s.tuner := rfl
@[simp] theorem State.putWaitList_encoders (w : List ZoneId) : (s.putWaitList w).encoders = s.encoders := rfl
@[simp] theorem State.putWaitList_ports (w : List ZoneId) : (s.putWaitList w).ports = (s.ports.raise (.du 0)).raise (.du 1) := by unfold State.putWaitList; rfl
@[simp] theorem State.putWaitList_fresh (w : List ZoneId) : (s.putWaitList w).fresh = s.fresh := rfl
@[simp] theorem State.putWaitList_snapshotDue (w : List ZoneId) : (s.putWaitList w).snapshotDue = s.snapshotDue := rfl
@[simp] theorem State.putWaitList_pending (w : List ZoneId) : (s.putWaitList w).pending = s.pending := rfl

@[simp] theorem State.putZone_ms (z : ZoneId) (r : Zone) : (s.putZone z r).ms = s.ms := rfl
@[simp] theorem State.putZone_links (z : ZoneId) (r : Zone) : (s.putZone z r).links = s.links := rfl
@[simp] theorem State.putZone_monitors (z : ZoneId) (r : Zone) : (s.putZone z r).monitors = s.monitors := rfl
@[simp] theorem State.putZone_sources (z : ZoneId) (r : Zone) : (s.putZone z r).sources = s.sources := rfl
@[simp] theorem State.putZone_units (z : ZoneId) (r : Zone) : (s.putZone z r).units = s.units := rfl
@[simp] theorem State.putZone_waitList (z : ZoneId) (r : Zone) : (s.putZone z r).waitList = s.waitList := rfl
@[simp] theorem State.putZone_zones (z : ZoneId) (r : Zone) : (s.putZone z r).zones = setAt s.zones z r := rfl
@[simp] theorem State.putZone_speakers (z : ZoneId) (r : Zone) : (s.putZone z r).speakers = s.speakers := rfl
@[simp] theorem State.putZone_channels (z : ZoneId) (r : Zone) : (s.putZone z r).channels = s.channels := rfl
@[simp] theorem State.putZone_pairs (z : ZoneId) (r : Zone) : (s.putZone z r).pairs = s.pairs := rfl
@[simp] theorem State.putZone_tuner (z : ZoneId) (r : Zone) : (s.putZone z r).tuner = s.tuner := rfl
@[simp] theorem State.putZone_encoders (z : ZoneId) (r : Zone) : (s.putZone z r).encoders = s.encoders := rfl
@[simp] theorem State.putZone_ports (z : ZoneId) (r : Zone) : (s.putZone z r).ports = s.ports.raiseIf ((s.zones.get z).reportedChange r) (.zone z) := by unfold State.putZone; rfl
@[simp] theorem State.putZone_fresh (z : ZoneId) (r : Zone) : (s.putZone z r).fresh = s.fresh := rfl
@[simp] theorem State.putZone_snapshotDue (z : ZoneId) (r : Zone) : (s.putZone z r).snapshotDue = s.snapshotDue := rfl
@[simp] theorem State.putZone_pending (z : ZoneId) (r : Zone) : (s.putZone z r).pending = s.pending := rfl

@[simp] theorem State.putSpeaker_ms (c : Chan) (e : Speaker) : (s.putSpeaker c e).ms = s.ms := rfl
@[simp] theorem State.putSpeaker_links (c : Chan) (e : Speaker) : (s.putSpeaker c e).links = s.links := rfl
@[simp] theorem State.putSpeaker_monitors (c : Chan) (e : Speaker) : (s.putSpeaker c e).monitors = s.monitors := rfl
@[simp] theorem State.putSpeaker_sources (c : Chan) (e : Speaker) : (s.putSpeaker c e).sources = s.sources := rfl
@[simp] theorem State.putSpeaker_units (c : Chan) (e : Speaker) : (s.putSpeaker c e).units = s.units := rfl
@[simp] theorem State.putSpeaker_waitList (c : Chan) (e : Speaker) : (s.putSpeaker c e).waitList = s.waitList := rfl
@[simp] theorem State.putSpeaker_zones (c : Chan) (e : Speaker) : (s.putSpeaker c e).zones = s.zones := rfl
@[simp] theorem State.putSpeaker_speakers (c : Chan) (e : Speaker) : (s.putSpeaker c e).speakers = setAt s.speakers c e := rfl
@[simp] theorem State.putSpeaker_channels (c : Chan) (e : Speaker) : (s.putSpeaker c e).channels = s.channels := rfl
@[simp] theorem State.putSpeaker_pairs (c : Chan) (e : Speaker) : (s.putSpeaker c e).pairs = s.pairs := rfl
@[simp] theorem State.putSpeaker_tuner (c : Chan) (e : Speaker) : (s.putSpeaker c e).tuner = s.tuner := rfl
@[simp] theorem State.putSpeaker_encoders (c : Chan) (e : Speaker) : (s.putSpeaker c e).encoders = s.encoders := rfl
@[simp] theorem State.putSpeaker_ports (c : Chan) (e : Speaker) : (s.putSpeaker c e).ports = s.ports := by unfold State.putSpeaker; rfl
@[simp] theorem State.putSpeaker_fresh (c : Chan) (e : Speaker) : (s.putSpeaker c e).fresh = s.fresh := rfl
@[simp] theorem State.putSpeaker_snapshotDue (c : Chan) (e : Speaker) : (s.putSpeaker c e).snapshotDue = s.snapshotDue := rfl
@[simp] theorem State.putSpeaker_pending (c : Chan) (e : Speaker) : (s.putSpeaker c e).pending = s.pending := rfl

@[simp] theorem State.updChannel_ms (c : Chan) (f : Channel → Channel) : (s.updChannel c f).ms = s.ms := rfl
@[simp] theorem State.updChannel_links (c : Chan) (f : Channel → Channel) : (s.updChannel c f).links = s.links := rfl
@[simp] theorem State.updChannel_monitors (c : Chan) (f : Channel → Channel) : (s.updChannel c f).monitors = s.monitors := rfl
@[simp] theorem State.updChannel_sources (c : Chan) (f : Channel → Channel) : (s.updChannel c f).sources = s.sources := rfl
@[simp] theorem State.updChannel_units (c : Chan) (f : Channel → Channel) : (s.updChannel c f).units = s.units := rfl
@[simp] theorem State.updChannel_waitList (c : Chan) (f : Channel → Channel) : (s.updChannel c f).waitList = s.waitList := rfl
@[simp] theorem State.updChannel_zones (c : Chan) (f : Channel → Channel) : (s.updChannel c f).zones = s.zones := rfl
@[simp] theorem State.updChannel_speakers (c : Chan) (f : Channel → Channel) : (s.updChannel c f).speakers = s.speakers := rfl
@[simp] theorem State.updChannel_channels (c : Chan) (f : Channel → Channel) : (s.updChannel c f).channels = setAt s.channels c (f (s.channels.get c)) := rfl
@[simp] theorem State.updChannel_pairs (c : Chan) (f : Channel → Channel) : (s.updChannel c f).pairs = s.pairs := rfl
@[simp] theorem State.updChannel_tuner (c : Chan) (f : Channel → Channel) : (s.updChannel c f).tuner = s.tuner := rfl
@[simp] theorem State.updChannel_encoders (c : Chan) (f : Channel → Channel) : (s.updChannel c f).encoders = s.encoders := rfl
@[simp] theorem State.updChannel_ports (c : Chan) (f : Channel → Channel) : (s.updChannel c f).ports = s.ports := by unfold State.updChannel; rfl
@[simp] theorem State.updChannel_fresh (c : Chan) (f : Channel → Channel) : (s.updChannel c f).fresh = s.fresh := rfl
@[simp] theorem State.updChannel_snapshotDue (c : Chan) (f : Channel → Channel) : (s.updChannel c f).snapshotDue = s.snapshotDue := rfl
@[simp] theorem State.updChannel_pending (c : Chan) (f : Channel → Channel) : (s.updChannel c f).pending = s.pending := rfl

@[simp] theorem State.putPair_ms (q : PairId) (r : Pair) : (s.putPair q r).ms = s.ms := rfl
@[simp] theorem State.putPair_links (q : PairId) (r : Pair) : (s.putPair q r).links = s.links := rfl
@[simp] theorem State.putPair_monitors (q : PairId) (r : Pair) : (s.putPair q r).monitors = s.monitors := rfl
@[simp] theorem State.putPair_sources (q : PairId) (r : Pair) : (s.putPair q r).sources = s.sources := rfl
@[simp] theorem State.putPair_units (q : PairId) (r : Pair) : (s.putPair q r).units = s.units := rfl
@[simp] theorem State.putPair_waitList (q : PairId) (r : Pair) : (s.putPair q r).waitList = s.waitList := rfl
@[simp] theorem State.putPair_zones (q : PairId) (r : Pair) : (s.putPair q r).zones = s.zones := rfl
@[simp] theorem State.putPair_speakers (q : PairId) (r : Pair) : (s.putPair q r).speakers = s.speakers := rfl
@[simp] theorem State.putPair_channels (q : PairId) (r : Pair) : (s.putPair q r).channels = s.channels := rfl
@[simp] theorem State.putPair_pairs (q : PairId) (r : Pair) : (s.putPair q r).pairs = setAt s.pairs q r := rfl
@[simp] theorem State.putPair_tuner (q : PairId) (r : Pair) : (s.putPair q r).tuner = s.tuner := rfl
@[simp] theorem State.putPair_encoders (q : PairId) (r : Pair) : (s.putPair q r).encoders = s.encoders := rfl
@[simp] theorem State.putPair_ports (q : PairId) (r : Pair) : (s.putPair q r).ports = s.ports.raiseIf ((s.pairs.get q).reportedChange r) (.pair q) := by unfold State.putPair; rfl
@[simp] theorem State.putPair_fresh (q : PairId) (r : Pair) : (s.putPair q r).fresh = s.fresh := rfl
@[simp] theorem State.putPair_snapshotDue (q : PairId) (r : Pair) : (s.putPair q r).snapshotDue = s.snapshotDue := rfl
@[simp] theorem State.putPair_pending (q : PairId) (r : Pair) : (s.putPair q r).pending = s.pending := rfl

@[simp] theorem State.putEncoder_ms (e : EncId) (r : Encoder) : (s.putEncoder e r).ms = s.ms := rfl
@[simp] theorem State.putEncoder_links (e : EncId) (r : Encoder) : (s.putEncoder e r).links = s.links := rfl
@[simp] theorem State.putEncoder_monitors (e : EncId) (r : Encoder) : (s.putEncoder e r).monitors = s.monitors := rfl
@[simp] theorem State.putEncoder_sources (e : EncId) (r : Encoder) : (s.putEncoder e r).sources = s.sources := rfl
@[simp] theorem State.putEncoder_units (e : EncId) (r : Encoder) : (s.putEncoder e r).units = s.units := rfl
@[simp] theorem State.putEncoder_waitList (e : EncId) (r : Encoder) : (s.putEncoder e r).waitList = s.waitList := rfl
@[simp] theorem State.putEncoder_zones (e : EncId) (r : Encoder) : (s.putEncoder e r).zones = s.zones := rfl
@[simp] theorem State.putEncoder_speakers (e : EncId) (r : Encoder) : (s.putEncoder e r).speakers = s.speakers := rfl
@[simp] theorem State.putEncoder_channels (e : EncId) (r : Encoder) : (s.putEncoder e r).channels = s.channels := rfl
@[simp] theorem State.putEncoder_pairs (e : EncId) (r : Encoder) : (s.putEncoder e r).pairs = s.pairs := rfl
@[simp] theorem State.putEncoder_tuner (e : EncId) (r : Encoder) : (s.putEncoder e r).tuner = s.tuner := rfl
@[simp] theorem State.putEncoder_encoders (e : EncId) (r : Encoder) : (s.putEncoder e r).encoders = setAt s.encoders e r := rfl
@[simp] theorem State.putEncoder_ports (e : EncId) (r : Encoder) : (s.putEncoder e r).ports = s.ports := by unfold State.putEncoder; rfl
@[simp] theorem State.putEncoder_fresh (e : EncId) (r : Encoder) : (s.putEncoder e r).fresh = s.fresh := rfl
@[simp] theorem State.putEncoder_snapshotDue (e : EncId) (r : Encoder) : (s.putEncoder e r).snapshotDue = s.snapshotDue := rfl
@[simp] theorem State.putEncoder_pending (e : EncId) (r : Encoder) : (s.putEncoder e r).pending = s.pending := rfl

@[simp] theorem State.putPort_ms (p : Port) (r : PortState) : (s.putPort p r).ms = s.ms := rfl
@[simp] theorem State.putPort_links (p : Port) (r : PortState) : (s.putPort p r).links = s.links := rfl
@[simp] theorem State.putPort_monitors (p : Port) (r : PortState) : (s.putPort p r).monitors = s.monitors := rfl
@[simp] theorem State.putPort_sources (p : Port) (r : PortState) : (s.putPort p r).sources = s.sources := rfl
@[simp] theorem State.putPort_units (p : Port) (r : PortState) : (s.putPort p r).units = s.units := rfl
@[simp] theorem State.putPort_waitList (p : Port) (r : PortState) : (s.putPort p r).waitList = s.waitList := rfl
@[simp] theorem State.putPort_zones (p : Port) (r : PortState) : (s.putPort p r).zones = s.zones := rfl
@[simp] theorem State.putPort_speakers (p : Port) (r : PortState) : (s.putPort p r).speakers = s.speakers := rfl
@[simp] theorem State.putPort_channels (p : Port) (r : PortState) : (s.putPort p r).channels = s.channels := rfl
@[simp] theorem State.putPort_pairs (p : Port) (r : PortState) : (s.putPort p r).pairs = s.pairs := rfl
@[simp] theorem State.putPort_tuner (p : Port) (r : PortState) : (s.putPort p r).tuner = s.tuner := rfl
@[simp] theorem State.putPort_encoders (p : Port) (r : PortState) : (s.putPort p r).encoders = s.encoders := rfl
@[simp] theorem State.putPort_ports (p : Port) (r : PortState) : (s.putPort p r).ports = s.ports.put p r := by unfold State.putPort; rfl
@[simp] theorem State.putPort_fresh (p : Port) (r : PortState) : (s.putPort p r).fresh = s.fresh := rfl
@[simp] theorem State.putPort_snapshotDue (p : Port) (r : PortState) : (s.putPort p r).snapshotDue = s.snapshotDue := rfl
@[simp] theorem State.putPort_pending (p : Port) (r : PortState) : (s.putPort p r).pending = s.pending := rfl

@[simp] theorem State.putTuner_ms (t : Tuner) : (s.putTuner t).ms = s.ms := rfl
@[simp] theorem State.putTuner_links (t : Tuner) : (s.putTuner t).links = s.links := rfl
@[simp] theorem State.putTuner_monitors (t : Tuner) : (s.putTuner t).monitors = s.monitors := rfl
@[simp] theorem State.putTuner_sources (t : Tuner) : (s.putTuner t).sources = s.sources := rfl
@[simp] theorem State.putTuner_units (t : Tuner) : (s.putTuner t).units = s.units := rfl
@[simp] theorem State.putTuner_waitList (t : Tuner) : (s.putTuner t).waitList = s.waitList := rfl
@[simp] theorem State.putTuner_zones (t : Tuner) : (s.putTuner t).zones = s.zones := rfl
@[simp] theorem State.putTuner_speakers (t : Tuner) : (s.putTuner t).speakers = s.speakers := rfl
@[simp] theorem State.putTuner_channels (t : Tuner) : (s.putTuner t).channels = s.channels := rfl
@[simp] theorem State.putTuner_pairs (t : Tuner) : (s.putTuner t).pairs = s.pairs := rfl
@[simp] theorem State.putTuner_tuner (t : Tuner) : (s.putTuner t).tuner = t := rfl
@[simp] theorem State.putTuner_encoders (t : Tuner) : (s.putTuner t).encoders = s.encoders := rfl
@[simp] theorem State.putTuner_ports (t : Tuner) : (s.putTuner t).ports = (s.ports.raiseIf (s.tuner.lockChange t) .tunerLock).raiseIf (s.tuner.nextNumber != t.nextNumber) .tunerDone := by unfold State.putTuner; rfl
@[simp] theorem State.putTuner_fresh (t : Tuner) : (s.putTuner t).fresh = s.fresh := rfl
@[simp] theorem State.putTuner_snapshotDue (t : Tuner) : (s.putTuner t).snapshotDue = s.snapshotDue := rfl
@[simp] theorem State.putTuner_pending (t : Tuner) : (s.putTuner t).pending = s.pending := rfl

@[simp] theorem Channel.off_duty (x : Channel) : x.off.duty = x.duty := rfl
@[simp] theorem Channel.off_next (x : Channel) : x.off.next = x.next := rfl
@[simp] theorem Channel.off_delay (x : Channel) : x.off.delay = x.delay := rfl
@[simp] theorem Channel.off_line (x : Channel) : x.off.line = x.line := rfl
@[simp] theorem Channel.off_lipSection (x : Channel) : x.off.lipSection = x.lipSection := rfl
@[simp] theorem Channel.off_watch (x : Channel) : x.off.watch = x.watch := rfl
@[simp] theorem Channel.off_shown (x : Channel) : x.off.shown = none := rfl
@[simp] theorem Channel.off_wave (x : Channel) : x.off.wave = .low := rfl
@[simp] theorem Channel.off_timedBy (x : Channel) : x.off.timedBy = none := rfl

@[simp] theorem Channel.present_duty (z : ZoneId) (w d : Nat) (i : Bool) (x : Channel) : (x.present z w d i).duty = x.duty := rfl
@[simp] theorem Channel.present_next (z : ZoneId) (w d : Nat) (i : Bool) (x : Channel) : (x.present z w d i).next = x.next := rfl
@[simp] theorem Channel.present_delay (z : ZoneId) (w d : Nat) (i : Bool) (x : Channel) : (x.present z w d i).delay = x.delay := rfl
@[simp] theorem Channel.present_line (z : ZoneId) (w d : Nat) (i : Bool) (x : Channel) : (x.present z w d i).line = x.line := rfl
@[simp] theorem Channel.present_lipSection (z : ZoneId) (w d : Nat) (i : Bool) (x : Channel) : (x.present z w d i).lipSection = x.lipSection := rfl
@[simp] theorem Channel.present_watch (z : ZoneId) (w d : Nat) (i : Bool) (x : Channel) : (x.present z w d i).watch = x.watch := rfl
@[simp] theorem Channel.present_shown (z : ZoneId) (w d : Nat) (i : Bool) (x : Channel) : (x.present z w d i).shown = some d := rfl
@[simp] theorem Channel.present_wave (z : ZoneId) (w d : Nat) (i : Bool) (x : Channel) : (x.present z w d i).wave = pwmPeriod w d i := rfl
@[simp] theorem Channel.present_timedBy (z : ZoneId) (w d : Nat) (i : Bool) (x : Channel) : (x.present z w d i).timedBy = some z := rfl

end Sys2Proof.Machine
end

