-- ==== Sys2Proof/Laws/Ops.lean ====
section
/-! SUPPORT. What the shared operations do, said once: tables, ports and flags, arithmetic, loops over objects, requests. -/

namespace Sys2Proof.Machine

/-! ## Tables -/

@[simp] theorem setAt_get_self {α : Type} {n : Nat} (v : Vector α n) (i : Fin n) (x : α) : (setAt v i x).get i = x := by
  show (v.set i.1 x i.2)[i.1] = x
  simp

theorem setAt_get_of_ne {α : Type} {n : Nat} (v : Vector α n) {i j : Fin n} (x : α) (h : i ≠ j) :
    (setAt v i x).get j = v.get j := by
  have h' : i.1 ≠ j.1 := fun e => h (Fin.ext e)
  show (v.set i.1 x i.2)[j.1] = v[j.1]
  simp [h']

/-- A table after a write, read anywhere. -/
theorem setAt_get {α : Type} {n : Nat} (v : Vector α n) (i j : Fin n) (x : α) :
    (setAt v i x).get j = if i = j then x else v.get j := by
  by_cases h : i = j
  · subst h; simp
  · simp [h, setAt_get_of_ne v x h]

/-- Two tables that read alike are equal. -/
theorem table_ext {α : Type} {n : Nat} {v w : Vector α n} (h : ∀ i, v.get i = w.get i) : v = w := by
  apply Vector.ext
  intro i hi
  exact h ⟨i, hi⟩

@[simp] theorem setAt_setAt {α : Type} {n : Nat} (v : Vector α n) (i : Fin n) (x y : α) :
    setAt (setAt v i x) i y = setAt v i y := by
  apply table_ext
  intro j
  simp only [setAt_get]
  split <;> rfl

@[simp] theorem setAt_self {α : Type} {n : Nat} (v : Vector α n) (i : Fin n) : setAt v i (v.get i) = v := by
  apply table_ext
  intro j
  rw [setAt_get]
  split
  · subst_vars; rfl
  · rfl

/-! ## Ports and flags -/

@[simp] theorem Ports.put_get_self (ps : Ports) (p : Port) (r : PortState) : (ps.put p r).get p = r := by cases p <;> rfl

@[simp] theorem Ports.put_get_other (ps : Ports) (p : Port) (r : PortState) :
    (ps.put p r).get (otherPort p) = ps.get (otherPort p) := by cases p <;> rfl

@[simp] theorem Ports.put_put (ps : Ports) (p : Port) (r q : PortState) : (ps.put p r).put p q = ps.put p q := by
  cases p <;> rfl

@[simp] theorem Ports.put_get (ps : Ports) (p : Port) : ps.put p (ps.get p) = ps := by cases p <;> rfl

/-- Setting a flag sets it in either copy and leaves every other flag (R199). -/
theorem Ports.raise_flag (ps : Ports) (f : Flag) (p : Port) (i : Fin 26) :
    ((ps.raise f).get p).flags.get i = ((ps.get p).flags.get i || decide (f.index = i)) := by
  cases p <;> simp only [Ports.raise, Ports.get, PortState.raise, setAt_get] <;> split <;> simp_all

/-- Setting a flag touches nothing of a port but its flag copy. -/
theorem Ports.raise_port (ps : Ports) (f : Flag) (p : Port) :
    (ps.raise f).get p = { ps.get p with flags := ((ps.raise f).get p).flags } := by cases p <;> rfl

theorem Ports.raiseIf_flag (ps : Ports) (b : Bool) (f : Flag) (p : Port) (i : Fin 26) :
    ((ps.raiseIf b f).get p).flags.get i = ((ps.get p).flags.get i || (b && decide (f.index = i))) := by
  cases b
  · simp [Ports.raiseIf]
  · simp [Ports.raiseIf, Ports.raise_flag]

theorem Ports.raiseIf_port (ps : Ports) (b : Bool) (f : Flag) (p : Port) :
    (ps.raiseIf b f).get p = { ps.get p with flags := ((ps.raiseIf b f).get p).flags } := by
  cases b <;> cases p <;> rfl

@[simp] theorem Ports.raiseIf_true (ps : Ports) (f : Flag) : ps.raiseIf true f = ps.raise f := rfl

@[simp] theorem Ports.raiseIf_false (ps : Ports) (f : Flag) : ps.raiseIf false f = ps := rfl

/-- Setting a flag twice is setting it once. -/
theorem Ports.raiseIf_raiseIf (ps : Ports) (a b : Bool) (f : Flag) :
    (ps.raiseIf a f).raiseIf b f = ps.raiseIf (a || b) f := by
  cases a <;> cases b <;> simp [Ports.raise, PortState.raise]

/-- A flag that was set is set again with no effect. -/
theorem Ports.raise_raiseIf (ps : Ports) (b : Bool) (f : Flag) : (ps.raiseIf b f).raise f = ps.raise f := by
  have h := Ports.raiseIf_raiseIf ps b true f
  simpa [Ports.raiseIf] using h

/-- A channel at the off level presents nothing (R126). -/
theorem Channel.off_isOff (x : Channel) : x.off.isOff := ⟨rfl, rfl⟩

theorem flagsAdded_refl (s : State) : flagsAdded s s := ⟨fun _ => false, by simp⟩

theorem flagsAdded_trans {s t u : State} (h : flagsAdded s t) (k : flagsAdded t u) : flagsAdded s u := by
  obtain ⟨a, ha⟩ := h
  obtain ⟨b, hb⟩ := k
  exact ⟨fun i => a i || b i, fun p i => by rw [hb, ha, Bool.or_assoc]⟩

theorem flagsAdded_of_ports {s t : State} (h : t.ports = s.ports) : flagsAdded s t := ⟨fun _ => false, by simp [h]⟩

/-- A write that sets a flag at most adds flags in both copies alike. -/
theorem flagsAdded_raiseIf {s t : State} {b : Bool} {f : Flag} (h : t.ports = s.ports.raiseIf b f) : flagsAdded s t :=
  ⟨fun i => b && decide (f.index = i), fun p i => by rw [h, Ports.raiseIf_flag]⟩

/-- What attention says: some flag is set and not masked (R202). -/
theorem attention_iff (r : PortState) : r.attention = true ↔ ∃ i ∈ flagPlaces, r.flags.get i = true ∧ r.masks.get i = false := by
  simp [PortState.attention]

/-! ## Arithmetic -/

theorem clampInt_eq (lo hi x : Int) (h : lo ≤ hi) : clampInt lo hi x = max lo (min hi x) := by
  unfold clampInt
  split
  · omega
  · split <;> omega

theorem clampNat_eq (lo hi x : Nat) (h : lo ≤ hi) : clampNat lo hi x = max lo (min hi x) := by
  unfold clampNat
  split
  · omega
  · split <;> omega

/-- A clamped value lies in its range. -/
theorem clampInt_range (lo hi x : Int) (h : lo ≤ hi) : lo ≤ clampInt lo hi x ∧ clampInt lo hi x ≤ hi := by
  rw [clampInt_eq lo hi x h]; omega

theorem clampNat_range (lo hi x : Nat) (h : lo ≤ hi) : lo ≤ clampNat lo hi x ∧ clampNat lo hi x ≤ hi := by
  rw [clampNat_eq lo hi x h]; omega

/-- A value in range is not clamped. -/
theorem clampInt_self {lo hi x : Int} (h : lo ≤ x) (k : x ≤ hi) : clampInt lo hi x = x := by
  rw [clampInt_eq lo hi x (le_trans h k)]; omega

theorem satAdd_le (c n : Nat) : satAdd c n ≤ 65535 := by unfold satAdd; omega

theorem Counter.bump_inRange {c : Counter} (n : Nat) (h : c.inRange) : (c.bump n).inRange :=
  ⟨satAdd_le _ _, satAdd_le _ _, h.2.2⟩

theorem Counter.snap_inRange {c : Counter} (h : c.inRange) : c.snap.inRange := ⟨h.1, Nat.zero_le _, h.2.1⟩

theorem LinkCounters.snap_inRange {c : LinkCounters} (h : c.inRange) : c.snap.inRange :=
  ⟨Counter.snap_inRange h.1, Counter.snap_inRange h.2.1, Counter.snap_inRange h.2.2.1, Counter.snap_inRange h.2.2.2⟩

theorem Counter.clearTotal_inRange {c : Counter} (h : c.inRange) : c.clearTotal.inRange := ⟨Nat.zero_le _, h.2⟩

/-! ## Loops over objects -/

@[simp] theorem State.forEach_nil {α : Type} (s : State) (f : State → α → State) : s.forEach [] f = s := rfl

@[simp] theorem State.forEach_cons {α : Type} (s : State) (x : α) (xs : List α) (f : State → α → State) :
    s.forEach (x :: xs) f = (f s x).forEach xs f := rfl

/-- What every turn of a loop keeps, the loop keeps. -/
theorem State.forEach_keeps {α : Type} (P : State → Prop) (f : State → α → State) (h : ∀ s x, P s → P (f s x)) :
    ∀ (xs : List α) (s : State), P s → P (s.forEach xs f)
  | [], _, hs => hs
  | x :: xs, s, hs => State.forEach_keeps P f h xs (f s x) (h s x hs)

/-- What every turn of a loop leaves alone, the loop leaves alone. -/
theorem State.forEach_field {α β : Type} (g : State → β) (f : State → α → State) (h : ∀ s x, g (f s x) = g s)
    (xs : List α) (s : State) : g (s.forEach xs f) = g s :=
  State.forEach_keeps (fun t => g t = g s) f (fun t x e => (h t x).trans e) xs s rfl

/-- A relation that every turn of a loop keeps and that composes holds of the whole loop. -/
theorem State.forEach_rel {α : Type} (R : State → State → Prop) (refl : ∀ s, R s s)
    (trans : ∀ s t u, R s t → R t u → R s u) (f : State → α → State) (h : ∀ s x, R s (f s x)) (xs : List α) (s : State) :
    R s (s.forEach xs f) :=
  State.forEach_keeps (R s) f (fun t x e => trans s t _ e (h t x)) xs s (refl s)

/-! ## Whole seconds -/

theorem wholeSecond_iff (now : Millis) : wholeSecond now = true ↔ now.toNat % 1000 = 0 := by simp [wholeSecond]

theorem takeSnapshot_none {s : State} (h : s.snapshotDue = false) : takeSnapshot s = s := by simp [takeSnapshot, h]

@[simp] theorem takeSnapshot_snapshotDue (s : State) : (takeSnapshot s).snapshotDue = false := by
  unfold takeSnapshot
  split
  · rfl
  · simp_all

/-- A snapshot touches links and ports alone, and none is due after it. -/
theorem takeSnapshot_kept (s : State) :
    takeSnapshot s = { s with links := (takeSnapshot s).links, ports := (takeSnapshot s).ports, snapshotDue := false } := by
  have loop : ∀ (xs : List LinkId) (s : State), ∃ a b, (s.forEach xs fun s l => s.updLink l fun r =>
      { r with counters := r.counters.snap }) = { s with links := a, ports := b } := by
    intro xs
    induction xs with
    | nil => exact fun s => ⟨s.links, s.ports, rfl⟩
    | cons x xs ih =>
      intro s
      obtain ⟨a, b, h⟩ := ih (s.updLink x fun r => { r with counters := r.counters.snap })
      exact ⟨a, b, by rw [State.forEach_cons, h]; rfl⟩
  by_cases h : s.snapshotDue = true
  · obtain ⟨a, b, k⟩ := loop linkIds s
    simp only [takeSnapshot, h, if_true, k]
  · rw [takeSnapshot_none (by simpa using h)]
    cases s; simp_all

/-! ## Zone records -/

@[simp] theorem State.updZone_get_self (s : State) (z : ZoneId) (f : Zone → Zone) :
    (s.updZone z f).zones.get z = f (s.zones.get z) := by simp [State.updZone]

theorem State.updZone_get_of_ne (s : State) {z y : ZoneId} (f : Zone → Zone) (h : z ≠ y) :
    (s.updZone z f).zones.get y = s.zones.get y := by simp [State.updZone, setAt_get, h]

/-- A zone operation without a request writes what it says, and AUTO on the changes of R84. -/
theorem State.autoZone_get_self (s : State) (z : ZoneId) (f : Zone → Zone) :
    (s.autoZone z f).zones.get z =
      if (s.zones.get z).auditedChange (f (s.zones.get z)) then { f (s.zones.get z) with lastChanged := .auto }
      else f (s.zones.get z) := by simp [State.autoZone]

theorem State.autoZone_get_of_ne (s : State) {z y : ZoneId} (f : Zone → Zone) (h : z ≠ y) :
    (s.autoZone z f).zones.get y = s.zones.get y := State.updZone_get_of_ne s _ h

/-- A zone takes a frame: its record is the one `Zone.write` gives, and no other zone's changes (R67, R80, R81). -/
theorem writeFrame_get (s : State) (z y : ZoneId) (f : BufFrame) :
    (writeFrame s z f).zones.get y = if z = y then (s.zones.get y).write f else s.zones.get y := by
  by_cases h : z = y
  · subst h; simp [writeFrame]
  · simp [writeFrame, State.updZone_get_of_ne s _ h, h]

/-- A buffer write touches the buffer, the SKIP count, the path and the refilling mark alone, and records no origin (R84). -/
theorem Zone.write_frame (r : Zone) (f : BufFrame) :
    r.write f = { r with
      buffer := (r.write f).buffer, skips := (r.write f).skips, path := (r.write f).path
      refilling := (r.write f).refilling } := by
  unfold Zone.write
  split <;> rfl

/-- A SKIP takes 64 frames (R80). -/
theorem skipFrames_length (buf : List BufFrame) : (skipFrames buf).length = buf.length - 64 := by
  have hd : (buf.drop 64).length = buf.length - 64 := List.length_drop
  unfold skipFrames
  split <;> rename_i e <;> rw [e] at hd <;> simpa using hd

/-- The newest values among frames are the first found from their end. -/
theorem lastVals_eq_findSome_reverse (fs : List BufFrame) : lastVals fs = fs.reverse.findSome? (·.vals) := by
  have key : ∀ (gs : List BufFrame) (acc : Option DescValues),
      gs.foldl (fun acc f => f.vals.or acc) acc = (gs.reverse.findSome? (·.vals)).or acc := by
    intro gs
    induction gs with
    | nil => intro acc; rfl
    | cons g gs ih => intro acc; cases h : g.vals <;> simp [ih, List.findSome?_append, h]
  simpa [lastVals] using key fs none

/-- What a SKIP leaves of a buffer that holds more than 64 frames: which values its oldest frame then carries (R70, log 46). -/
theorem skipFrames_append {old : List BufFrame} (f : BufFrame) (rest : List BufFrame) (h : old.length = 64) :
    skipFrames (old ++ f :: rest) = { f with vals := f.vals.or (old.reverse.findSome? (·.vals)) } :: rest := by
  simp [skipFrames, ← h, lastVals_eq_findSome_reverse]

/-- A frame written leaves at most 128 frames in the buffer (R80). -/
theorem Zone.write_length (r : Zone) (f : BufFrame) (h : r.buffer.length ≤ 128) : (r.write f).buffer.length ≤ 128 := by
  have hs := skipFrames_length r.buffer
  unfold Zone.write
  split
  · by_cases hf : 128 ≤ r.buffer.length
    · simp [hf]; omega
    · simp [hf]; omega
  · exact h

/-- A ramp step leaves qr in its range when it and the target are in theirs (R75). -/
theorem rampNext_range {qr target : Option Int} (h : ∀ q, qr = some q → -160 ≤ q ∧ q ≤ 24)
    (k : ∀ q, target = some q → -160 ≤ q ∧ q ≤ 24) : ∀ q, rampNext qr target = some q → -160 ≤ q ∧ q ≤ 24 := by
  intro q e
  cases qr with
  | none => cases target with
    | none => simp [rampNext] at e
    | some b => simp [rampNext] at e; omega
  | some a =>
    have ha := h a rfl
    cases target with
    | none => simp [rampNext] at e; omega
    | some b =>
      have hb := k b rfl
      simp only [rampNext] at e
      split at e
      · simp at e; omega
      · split at e <;> simp at e <;> omega

/-! ## Requests -/

/-- A request that is taken: the owner acts on the state whose port has ended the transaction, and its answer stands in the
slot (R192, R194). -/
theorem serve_taken (s : State) (p : Port) (tag : Byte) (payload : List Byte) (owner : State → Reply)
    (h : (s.ports.get p).line ≠ .ignoring) (hl : payload.length ≤ 250) (hp : (s.ports.get p).status.getLsbD 7 = false) :
    serve s p tag payload owner =
      let a := owner (s.putPort p ((s.ports.get p).complete false (List.replicate (2 + payload.length) 0)))
      a.state.updPort p fun r => { r with slot := some { tag := tag, result := a.result, data := a.data } } := by
  have hl' : ¬ 250 < payload.length := by omega
  have hn : ¬(250 < payload.length ∨ (s.ports.get p).status.getLsbD 7 = true) := by rw [hp]; simp [hl']
  unfold serve
  dsimp only
  rw [if_neg h, if_neg hn, decide_eq_false hl']

/-- A request that is discarded touches its port alone (R194, R195, R203). -/
theorem serve_discarded (s : State) (p : Port) (tag : Byte) (payload : List Byte) (owner : State → Reply)
    (h : (s.ports.get p).line = .ignoring ∨ 250 < payload.length ∨ (s.ports.get p).status.getLsbD 7 = true) :
    ∃ r, serve s p tag payload owner = s.putPort p r := by
  unfold serve
  by_cases hi : (s.ports.get p).line = .ignoring
  · exact ⟨_, by simp [hi]; rfl⟩
  · have h' : 250 < payload.length ∨ (s.ports.get p).status.getLsbD 7 = true := by tauto
    refine ⟨(s.ports.get p).complete (decide (250 < payload.length)) (List.replicate (2 + payload.length) 0), ?_⟩
    simp only [hi, if_false]
    rw [if_pos h']

/-- A property that the owner keeps, and that does not look at ports, holds after a request. -/
theorem serve_keeps (P : State → Prop) (hport : ∀ s p r, P s → P (s.putPort p r)) (s : State) (p : Port) (tag : Byte)
    (payload : List Byte) (owner : State → Reply) (ho : ∀ s, P s → P (owner s).state) (hs : P s) :
    P (serve s p tag payload owner) := by
  unfold serve
  dsimp only
  split
  · exact hport _ _ _ hs
  · split
    · exact hport _ _ _ hs
    · exact hport _ _ _ (ho _ (hport _ _ _ hs))

/-! ## Time -/

/-- A timer's time is up exactly when it runs and its length has passed. -/
theorem timeUp_iff (t : Option Timer) (now : Millis) :
    timeUp t now = true ↔ ∃ w, t = some w ∧ w.len ≤ (now - w.start).toNat := by
  cases t <;> simp [timeUp, Timer.remaining, Timer.elapsed, Nat.sub_eq_zero_iff_le]

@[simp] theorem timeUp_none (now : Millis) : timeUp none now = false := rfl

/-- A timer that has just been started has its whole length left. -/
@[simp] theorem timeUp_newTimer (now : Millis) (len : Nat) : timeUp (some (newTimer now len)) now = decide (len = 0) := by
  have h : (newTimer now len).remaining now = len := by
    simp only [newTimer, Timer.remaining, Timer.elapsed, BitVec.sub_self]
    rfl
  simp [timeUp, h]

end Sys2Proof.Machine
end

