-- ==== Sys2Proof/Laws/Frames.lean ====
section
/-! SUPPORT. What the operations on a zone leave alone: links, monitors, the source and speaker tables, the tuner, the encoders,
the millisecond timer and its due snapshot (`zoneFrameKept`), one lemma per operation, each from the lemmas of the operations it calls. -/

namespace Sys2Proof.Machine

theorem zoneFrameKept.refl (s : State) : zoneFrameKept s s := ⟨rfl, rfl, rfl, rfl, rfl, rfl, rfl, rfl⟩

theorem zoneFrameKept.trans {s t u : State} (h : zoneFrameKept s t) (k : zoneFrameKept t u) : zoneFrameKept s u := by
  obtain ⟨a, b, c, d, e, f, g, i⟩ := h
  obtain ⟨a', b', c', d', e', f', g', i'⟩ := k
  exact ⟨a'.trans a, b'.trans b, c'.trans c, d'.trans d, e'.trans e, f'.trans f, g'.trans g, i'.trans i⟩

theorem Zone.bindingKept.refl (r : Zone) : r.bindingKept r := ⟨rfl, rfl, rfl, rfl⟩

theorem Zone.bindingKept.trans {r x y : Zone} (h : r.bindingKept x) (k : x.bindingKept y) : r.bindingKept y :=
  ⟨k.1.trans h.1, k.2.1.trans h.2.1, k.2.2.1.trans h.2.2.1, k.2.2.2.trans h.2.2.2⟩

/-- A loop over operations of a zone is an operation of a zone. -/
theorem zoneFrameKept.forEach {α : Type} (f : State → α → State) (h : ∀ s x, zoneFrameKept s (f s x)) (xs : List α)
    (s : State) : zoneFrameKept s (s.forEach xs f) :=
  State.forEach_rel zoneFrameKept zoneFrameKept.refl (fun _ _ _ a b => a.trans b) f h xs s

theorem updZone_frame (s : State) (z : ZoneId) (f : Zone → Zone) : zoneFrameKept s (s.updZone z f) :=
  ⟨rfl, rfl, rfl, rfl, rfl, rfl, rfl, rfl⟩

theorem autoZone_frame (s : State) (z : ZoneId) (f : Zone → Zone) : zoneFrameKept s (s.autoZone z f) :=
  ⟨rfl, rfl, rfl, rfl, rfl, rfl, rfl, rfl⟩

theorem zoneOrigin_frame (s : State) (z : ZoneId) (o : Origin) : zoneFrameKept s (s.zoneOrigin z o) :=
  ⟨rfl, rfl, rfl, rfl, rfl, rfl, rfl, rfl⟩

theorem updChannel_frame (s : State) (c : Chan) (f : Channel → Channel) : zoneFrameKept s (s.updChannel c f) :=
  ⟨rfl, rfl, rfl, rfl, rfl, rfl, rfl, rfl⟩

theorem updPair_frame (s : State) (q : PairId) (f : Pair → Pair) : zoneFrameKept s (s.updPair q f) :=
  ⟨rfl, rfl, rfl, rfl, rfl, rfl, rfl, rfl⟩

theorem updUnit_frame (s : State) (u : UnitId) (f : DecodeUnit → DecodeUnit) : zoneFrameKept s (s.updUnit u f) :=
  ⟨rfl, rfl, rfl, rfl, rfl, rfl, rfl, rfl⟩

theorem raise_frame (s : State) (f : Flag) : zoneFrameKept s (s.raise f) := ⟨rfl, rfl, rfl, rfl, rfl, rfl, rfl, rfl⟩

theorem putWaitList_frame (s : State) (w : List ZoneId) : zoneFrameKept s (s.putWaitList w) :=
  ⟨rfl, rfl, rfl, rfl, rfl, rfl, rfl, rfl⟩

theorem putPort_frame (s : State) (p : Port) (r : PortState) : zoneFrameKept s (s.putPort p r) :=
  ⟨rfl, rfl, rfl, rfl, rfl, rfl, rfl, rfl⟩

/-! ## Output stage -/

theorem presentChannel_frame (z : ZoneId) (s : State) (c : Chan) : zoneFrameKept s (presentChannel z s c) := by
  unfold presentChannel
  split
  · split <;> exact updChannel_frame _ _ _
  · split
    · exact updChannel_frame _ _ _
    · exact .refl s

theorem beginPairPeriod_frame (z : ZoneId) (s : State) (q : PairId) : zoneFrameKept s (beginPairPeriod z s q) := by
  unfold beginPairPeriod
  split
  · exact updPair_frame _ _ _
  · exact .refl s

theorem stopPair_frame (z : ZoneId) (s : State) (q : PairId) : zoneFrameKept s (stopPair z s q) := by
  unfold stopPair
  split
  · exact updPair_frame _ _ _
  · exact .refl s

theorem beginPeriod_frame (s : State) (z : ZoneId) : zoneFrameKept s (beginPeriod s z) :=
  (zoneFrameKept.forEach _ (presentChannel_frame z) _ s).trans (.forEach _ (beginPairPeriod_frame z) _ _)

theorem stopCarrier_frame (s : State) (z : ZoneId) : zoneFrameKept s (stopCarrier s z) :=
  (zoneFrameKept.forEach _ (presentChannel_frame z) _ s).trans (.forEach _ (stopPair_frame z) _ _)

theorem beginFrame_frame (s : State) (z : ZoneId) (m : DriveMode) : zoneFrameKept s (beginFrame s z m) :=
  (updZone_frame s z _).trans (beginPeriod_frame _ z)

theorem takeDuties_frame (s : State) (z : ZoneId) : zoneFrameKept s (takeDuties s z) :=
  .forEach _ (fun t c => updChannel_frame t c _) _ s

theorem handDrive_frame (s : State) (z : ZoneId) (m : DriveMode) : zoneFrameKept s (handDrive s z m) := by
  have step (t : State) (b : Prop) [Decidable b] (h : zoneFrameKept s t) :
      zoneFrameKept s (if b then beginFrame t z m else t) := by
    split
    · exact h.trans (beginFrame_frame t z m)
    · exact h
  exact step _ _ (updZone_frame s z _)

theorem restartCarrier_frame (s : State) (z : ZoneId) : zoneFrameKept s (restartCarrier s z) := by
  unfold restartCarrier
  dsimp only
  split
  · exact .refl s
  · exact beginFrame_frame s z _

theorem startHold_frame (s : State) (q : PairId) : zoneFrameKept s (startHold s q) :=
  ((updChannel_frame s _ _).trans (updChannel_frame _ _ _)).trans (updPair_frame _ _ _)

theorem offerTrip_frame (s : State) (q : PairId) (cause : Cause) : zoneFrameKept s (offerTrip s q cause) := by
  unfold offerTrip
  split
  · exact (updPair_frame _ _ _).trans (startHold_frame _ _)
  · exact (updPair_frame _ _ _).trans (startHold_frame _ _)
  · exact .refl s

theorem probePair_frame (s : State) (q : PairId) : zoneFrameKept s (probePair s q) := by
  unfold probePair
  split <;> exact updPair_frame _ _ _

theorem samplePair_frame (z : ZoneId) (flt : Vector Bool 6) (s : State) (q : PairId) :
    zoneFrameKept s (samplePair z flt s q) := by
  unfold samplePair
  dsimp only
  split
  · split
    · split
      · exact ((updPair_frame _ _ _).trans (updPair_frame _ _ _)).trans (offerTrip_frame _ _ _)
      · exact (updPair_frame _ _ _).trans (updPair_frame _ _ _)
    · exact (updPair_frame _ _ _).trans (updPair_frame _ _ _)
  · exact updPair_frame _ _ _

theorem carrierBoundary_frame (s : State) (z : ZoneId) (flt : Vector Bool 6) : zoneFrameKept s (carrierBoundary s z flt) := by
  have step (t : State) (b : Prop) [Decidable b] (c : Bool) (h : zoneFrameKept s t) :
      zoneFrameKept s (if b then stopCarrier t z else beginPeriod (if c then takeDuties t z else t) z) := by
    split
    · exact h.trans (stopCarrier_frame t z)
    · split
      · exact (h.trans (takeDuties_frame t z)).trans (beginPeriod_frame _ z)
      · exact h.trans (beginPeriod_frame t z)
  unfold carrierBoundary
  dsimp only
  split
  · exact .refl s
  · exact step _ _ _ ((zoneFrameKept.forEach _ (samplePair_frame z flt) pairIds s).trans (updZone_frame _ z _))

/-! ## Decode arbiter -/

theorem raiseAttached_frame (s : State) (pos : DecodePos) : zoneFrameKept s (raiseAttached s pos) := by
  cases pos
  · exact .refl s
  · exact .refl s
  · exact raise_frame _ _

theorem setDecode_frame (s : State) (z : ZoneId) (pos : DecodePos) : zoneFrameKept s (setDecode s z pos) := by
  unfold setDecode
  dsimp only
  split
  · exact autoZone_frame _ _ _
  · exact ((autoZone_frame _ _ _).trans (raiseAttached_frame _ _)).trans (raiseAttached_frame _ _)

theorem bindUnit_frame (s : State) (u : UnitId) (l : LinkId) : zoneFrameKept s (bindUnit s u l) :=
  ⟨rfl, rfl, rfl, rfl, rfl, rfl, rfl, rfl⟩

theorem clearUnit_frame (s : State) (u : UnitId) : zoneFrameKept s (clearUnit s u) := updUnit_frame _ _ _

theorem grantUnit_frame (s : State) (u : UnitId) : zoneFrameKept s (grantUnit s u) := by
  unfold grantUnit
  split
  · exact .refl s
  · split
    · exact .refl s
    · dsimp only
      exact ((putWaitList_frame _ _).trans (bindUnit_frame _ _ _)).trans
        (.forEach _ (fun t y => setDecode_frame t y _) _ _)

theorem freeIfEmpty_frame (s : State) (u : UnitId) : zoneFrameKept s (freeIfEmpty s u) := by
  unfold freeIfEmpty
  split
  · exact (clearUnit_frame s u).trans (grantUnit_frame _ u)
  · exact .refl s

theorem releaseDecode_frame (s : State) (z : ZoneId) : zoneFrameKept s (releaseDecode s z) := by
  unfold releaseDecode
  split
  · exact .refl s
  · exact (putWaitList_frame _ _).trans (setDecode_frame _ _ _)
  · exact (setDecode_frame _ _ _).trans (freeIfEmpty_frame _ _)

theorem placeDecode_frame (s : State) (z : ZoneId) (l : LinkId) : zoneFrameKept s (placeDecode s z l) := by
  unfold placeDecode
  split
  · exact setDecode_frame _ _ _
  · split
    · exact (bindUnit_frame _ _ _).trans (setDecode_frame _ _ _)
    · exact (putWaitList_frame _ _).trans (setDecode_frame _ _ _)

theorem rebindDecode_frame (s : State) (z : ZoneId) (old new : Option LinkId) : zoneFrameKept s (rebindDecode s z old new) := by
  unfold rebindDecode
  split
  · exact releaseDecode_frame _ _
  · split
    · split
      · exact setDecode_frame _ _ _
      · exact (releaseDecode_frame _ _).trans (placeDecode_frame _ _ _)
    · exact releaseDecode_frame _ _

/-! ## Zones -/

theorem startCountdown_frame (s : State) (z : ZoneId) : zoneFrameKept s (startCountdown s z) := updZone_frame _ _ _

theorem bindCountdown_frame (s : State) (z : ZoneId) : zoneFrameKept s (bindCountdown s z) :=
  (updZone_frame s z _).trans (startCountdown_frame _ z)

theorem endTone_frame (s : State) (z : ZoneId) : zoneFrameKept s (endTone s z) := updZone_frame _ _ _

theorem toneStep_frame (s : State) (z : ZoneId) : zoneFrameKept s (toneStep s z) :=
  (updZone_frame s z _).trans (raise_frame _ _)

theorem allocateZone_frame (s : State) (z : ZoneId) : zoneFrameKept s (allocateZone s z) := by
  have h (b : Bool) (t : State) (ht : zoneFrameKept s t) : zoneFrameKept s (if b then t.raise .limited else t) := by
    split
    · exact ht.trans (raise_frame _ _)
    · exact ht
  exact h _ _ (updZone_frame _ _ _)

theorem primeDelays_frame (s : State) (z : ZoneId) : zoneFrameKept s (primeDelays s z) :=
  zoneFrameKept.forEach (primeChannel _ _) (fun t c => by unfold primeChannel; exact updChannel_frame t c _) _ s

theorem zeroDuties_frame (s : State) (z : ZoneId) : zoneFrameKept s (zeroDuties s z) :=
  zoneFrameKept.forEach _ (fun t c => updChannel_frame t c _) _ s

theorem bindCarrier_frame (s : State) (z : ZoneId) (old : Rate) : zoneFrameKept s (bindCarrier s z old) := by
  unfold bindCarrier
  split
  · split
    · exact .refl s
    · exact zeroDuties_frame s z
  · exact (zeroDuties_frame s z).trans (restartCarrier_frame _ z)

/-- A binding (R66). -/
theorem bindZone_frame (s : State) (z : ZoneId) (rebind : Bool) : zoneFrameKept s (bindZone s z rebind) := by
  have step (t : State) (old : Rate) (h : zoneFrameKept s t) :
      zoneFrameKept s ((bindCountdown (bindCarrier t z old) z).raise (.zone z)) :=
    ((h.trans (bindCarrier_frame t z old)).trans (bindCountdown_frame _ z)).trans (raise_frame _ _)
  exact step _ _ ((((((autoZone_frame _ _ _).trans (autoZone_frame _ _ _)).trans (rebindDecode_frame _ _ _ _)).trans
    (allocateZone_frame _ _)).trans (autoZone_frame _ _ _)).trans (primeDelays_frame _ _))

/-- A release (R63). -/
theorem releaseZone_frame (s : State) (z : ZoneId) : zoneFrameKept s (releaseZone s z) :=
  ((releaseDecode_frame s z).trans (autoZone_frame _ _ _)).trans (.forEach _ (fun t c => updChannel_frame t c _) _ _)

theorem enterDrain_frame (s : State) (z : ZoneId) : zoneFrameKept s (enterDrain s z) :=
  ((releaseZone_frame s z).trans (autoZone_frame _ _ _)).trans (handDrive_frame _ _ _)

theorem powerUpZone_frame (s : State) (z : ZoneId) : zoneFrameKept s (powerUpZone s z) :=
  ((handDrive_frame s z _).trans (bindZone_frame _ z false)).trans (autoZone_frame _ z _)

/-- A POWER_ON (R60 to R64). -/
theorem powerOn_frame (s : State) (z : ZoneId) (o : Origin) : zoneFrameKept s (powerOn s z o).1 := by
  unfold powerOn
  split
  · exact (powerUpZone_frame s z).trans (zoneOrigin_frame _ _ _)
  · exact zoneOrigin_frame _ _ _
  · exact zoneOrigin_frame _ _ _
  · exact ((updZone_frame _ _ _).trans (startCountdown_frame _ _)).trans (zoneOrigin_frame _ _ _)
  · exact (updZone_frame _ _ _).trans (zoneOrigin_frame _ _ _)

theorem powerDownOn_frame (s : State) (z : ZoneId) : zoneFrameKept s (powerDownOn s z) := by
  have h (f g : Zone → Zone) : zoneFrameKept s ((endTone (s.updZone z f) z).autoZone z g) :=
    ((updZone_frame _ _ _).trans (endTone_frame _ _)).trans (autoZone_frame _ _ _)
  unfold powerDownOn
  dsimp only
  split
  · exact (h _ _).trans (enterDrain_frame _ _)
  · exact h _ _

theorem powerDownStarting_frame (s : State) (z : ZoneId) : zoneFrameKept s (powerDownStarting s z) :=
  ((releaseZone_frame s z).trans (autoZone_frame _ _ _)).trans (handDrive_frame _ _ _)

/-- A POWER_OFF (R60 to R64). -/
theorem powerOff_frame (s : State) (z : ZoneId) (o : Origin) : zoneFrameKept s (powerOff s z o).1 := by
  unfold powerOff
  split
  · exact zoneOrigin_frame _ _ _
  · exact zoneOrigin_frame _ _ _
  · exact (powerDownStarting_frame s z).trans (zoneOrigin_frame _ _ _)
  · exact (powerDownOn_frame s z).trans (zoneOrigin_frame _ _ _)
  · exact (updZone_frame _ _ _).trans (zoneOrigin_frame _ _ _)

/-- A ramp step (R75). -/
theorem rampStep_frame (s : State) (z : ZoneId) : zoneFrameKept s (rampStep s z) := by
  unfold rampStep
  dsimp only
  split
  · exact .refl s
  · split
    · split
      · exact ((updZone_frame _ _ _).trans (enterDrain_frame _ _)).trans (zoneOrigin_frame _ _ _)
      · split
        · exact ((updZone_frame _ _ _).trans (bindZone_frame _ _ _)).trans (zoneOrigin_frame _ _ _)
        · exact updZone_frame _ _ _
    · exact updZone_frame _ _ _

/-- A rebind cause (R68). -/
theorem rebindCause_frame (s : State) (z : ZoneId) : zoneFrameKept s (rebindCause s z) := by
  unfold rebindCause
  dsimp only
  split
  · exact bindZone_frame _ _ _
  · exact .refl s
  · exact .refl s
  · split
    · exact bindZone_frame _ _ _
    · exact autoZone_frame _ _ _
  · split
    · exact bindZone_frame _ _ _
    · exact autoZone_frame _ _ _
  · exact bindZone_frame _ _ _
  · exact bindZone_frame _ _ _
  · exact .refl s

theorem selectSource_frame (s : State) (z : ZoneId) (src : Option SrcId) (o : Origin) :
    zoneFrameKept s (selectSource s z src o) :=
  (((endTone_frame s z).trans (updZone_frame _ _ _)).trans (rebindCause_frame _ _)).trans (zoneOrigin_frame _ _ _)

theorem setVolume_frame (s : State) (z : ZoneId) (q : Int) (o : Origin) : zoneFrameKept s (setVolume s z q o) :=
  (updZone_frame s z _).trans (zoneOrigin_frame _ _ _)

end Sys2Proof.Machine
end

