-- ==== Sys2Proof/Tests/Slice0.lean ====
section
/-! SUPPORT. Tests: ill-formed commands that WellFormed refuses, transactions written out byte by byte, worked examples of the
spec, and for every statement with hypotheses a witness that meets them, clause by clause. -/

namespace Sys2Proof.Tests

open Sys2Proof.Machine

-- One theorem at a time: each `decide +kernel` would otherwise hold a thread of its own while it waits for the kernel.
set_option Elab.async false

/-! ## Small states -/

/-- The state after a power-on reset. -/
def base : State := State.reset

/-- A timer of `len` ms whose time is up exactly in `base`, whose millisecond timer stands at 0. -/
def ended (len : Nat) : Timer := newTimer (0 - BitVec.ofNat 32 len) len

/-- A timer of `len` ms with 1 ms left in `base`. -/
def unended (len : Nat) : Timer := newTimer (1 - BitVec.ofNat 32 len) len

/-- `base` with one zone changed. -/
def zoned (z : ZoneId) (f : Zone → Zone) : State := { base with zones := setAt base.zones z (f (base.zones.get z)) }

/-- `base` with one link changed. -/
def linked (l : LinkId) (f : Link → Link) : State := { base with links := setAt base.links l (f (base.links.get l)) }

/-- `base` with one monitor in a state. -/
def sensed (l : LinkId) (a : Activity) : State :=
  { base with monitors := setAt base.monitors l { base.monitors.get l with state := a, quietTimer := some (ended 1000) } }

/-- `base` with one pair changed. -/
def paired (q : PairId) (f : Pair → Pair) : State := { base with pairs := setAt base.pairs q (f (base.pairs.get q)) }

/-- `base` with the tuner changed. -/
def tuned (f : Tuner → Tuner) : State := { base with tuner := f base.tuner }

/-- `base` with one encoder changed. -/
def turned (e : EncId) (f : Encoder → Encoder) : State :=
  { base with encoders := setAt base.encoders e (f (base.encoders.get e)) }

/-- `s` with one port changed. -/
def ported (p : Port) (f : PortState → PortState) : State := base.updPort p f

/-- `s` with a speaker of a zone on a channel. -/
def State.spoken (s : State) (c : Chan) (z : ZoneId) (p : Pos) : State :=
  { s with speakers := setAt s.speakers c { Speaker.reset with zone := some z, position := p } }

/-- A port of a state with the ports of `base` takes requests. -/
theorem ready {s : State} (h : s.ports = base.ports) (p : Port) : Ready s p := by
  unfold Ready
  rw [h]
  cases p <;> decide

/-- The state that a command leaves. -/
def after (c : Instr) (s : State) : State :=
  match exec c s with
  | .next t => t
  | _ => s

/-- What stands in a port's slot, without its tag. -/
def answer (p : Port) (s : State) : Option (Result × List Byte) := (s.slot p).map fun r => (r.result, r.data)

/-! ## WellFormed: an ill-formed term for each check -/

/-- A payload that no length byte of 0 to 250 can announce (R192). -/
def long : List Byte := List.replicate 251 0

/-- Every request row refuses a payload of 251 bytes. -/
theorem test_wellFormed_payload :
    ([Instr.readEvents .cpa 0 long, .setEventMask .cpa 0 long, .getEventMask .cpa 0 long, .deviceReset .cpa 0 long,
      .unknownCommand .cpa 0xFF 0 long, .enableLink .cpa 0 long, .disableLink .cpa 0 long, .setLinkOptions .cpa 0 long,
      .getLinkStatus .cpa 0 long, .getLinkCounters .cpa 0 long, .clearCounters .cpa 0 long, .setSource .cpa 0 long,
      .getSource .cpa 0 long, .getActivity .cpa 0 long, .getDecodeStatus .cpa 0 long, .powerOn .cpa 0 long,
      .powerOff .cpa 0 long, .selectSource .cpa 0 long, .setVolume .cpa 0 long, .stepVolume .cpa 0 long,
      .setMute .cpa 0 long, .setZoneOptions .cpa 0 long, .getZoneStatus .cpa 0 long, .clearZoneCounters .cpa 0 long,
      .getMixMatrix .cpa 0 long, .getDelayStatus .cpa 0 long].all fun i => !i.wellFormed) = true := by decide +kernel

/-- The rest of the request rows. -/
theorem test_wellFormed_payload_rest :
    ([Instr.setSpeaker .cpa 0 long, .getSpeaker .cpa 0 long, .setModulator .cpa 0 long, .getModulator .cpa 0 long,
      .getOutputStatus .cpa 0 long, .setProtection .cpa 0 long, .getProtection .cpa 0 long, .clearProtection .cpa 0 long,
      .getProtectionStatus .cpa 0 long Pins.quiet.flt, .toneStart .cpa 0 long, .toneNext .cpa 0 long,
      .toneStop .cpa 0 long, .setBand .cpa 0 long, .getBandTable .cpa 0 long, .loadCalibration .cpa 0 long,
      .getCalibration .cpa 0 long, .tune .cpa 0 long, .seek .cpa 0 long, .scan .cpa 0 long,
      .getTunerStatus .cpa 0 long false, .storePreset .cpa 0 long, .recallPreset .cpa 0 long, .erasePreset .cpa 0 long,
      .loadPresets .cpa 0 long, .getPresets .cpa 0 long, .setBinding .cpa 0 long, .getEncoderStatus .cpa 0 long].all
      fun i => !i.wellFormed) = true := by decide +kernel

/-- A listed code is no unknown command; a transaction that is well formed, or has eight bits over, is no malformed one. -/
theorem test_wellFormed_transactions :
    (Instr.unknownCommand .cpa 0x59 0 []).wellFormed = false ∧ (Instr.malformedTransaction .cpa [0] 0).wellFormed = false ∧
    (Instr.malformedTransaction .cpa [0] 8).wellFormed = false := by decide

/-- No time passes, or FS is high longer than the frame lasts: such frames and measurements cannot be. -/
theorem test_wellFormed_events :
    ([Instr.linkFrame 0 { data := [true], fsHigh := 0, ticks := 0 }, .linkFrame 0 { data := [true], fsHigh := 2, ticks := 9 },
      .blockEnd 0 { data := [], fsHigh := 1, ticks := 9 }, .descriptorErrorRun 0 { data := [], fsHigh := 0, ticks := 0 },
      .rateMeasurement 0 0 true, .gateComplete 0, .levelReading 0 true, .stationTest 0 true, .freqRisingEdge 0].all
      fun i => !i.wellFormed) = true := by decide +kernel

/-! ## Transactions written out byte by byte (sections 12.5 and 12.6) -/

/-- The transactions of the port worked sequence of section 12.5.1, and one row of section 12.6 for each owner. -/
theorem test_decode_transactions :
    decodeTransaction .cpa Pins.quiet.flt false [0x23, 0x11, 0x03, 0x00, 0xFF, 0xE2] 0
      = .setVolume .cpa 0x11 [0x00, 0xFF, 0xE2] ∧
    decodeTransaction .cpb Pins.quiet.flt false [0x24, 0x52, 0x02, 0x00, 0x04] 0 = .stepVolume .cpb 0x52 [0x00, 0x04] ∧
    decodeTransaction .cpa Pins.quiet.flt false [0x01, 0, 0, 0, 0, 0] 0 = .fetch .cpa 5 ∧
    decodeTransaction .cpa Pins.quiet.flt false [0x02, 0x13, 0x00] 0 = .readEvents .cpa 0x13 [] ∧
    decodeTransaction .cpb Pins.quiet.flt false [0x25, 0x53, 0x02, 0x00] 0
      = .malformedTransaction .cpb [0x25, 0x53, 0x02, 0x00] 0 ∧
    decodeTransaction .cpb Pins.quiet.flt false [0x00] 0 = .poll .cpb ∧
    decodeTransaction .cpb Pins.quiet.flt false [0x00] 3 = .malformedTransaction .cpb [0x00] 3 ∧
    decodeTransaction .cpb Pins.quiet.flt false [0x06, 9, 1, 5] 0 = .unknownCommand .cpb 0x06 9 [5] := by decide

/-- One row of section 12.6 for each owner. -/
theorem test_decode_owners :
    decodeTransaction .cpa Pins.quiet.flt false [0x12, 1, 2, 8, 32] 0 = .setLinkOptions .cpa 1 [8, 32] ∧
    decodeTransaction .cpa Pins.quiet.flt false [0x18, 1, 9, 4, 2, 0x1E, 4, 0x93, 0xE0, 1, 2, 4] 0
      = .setSource .cpa 1 [4, 2, 0x1E, 4, 0x93, 0xE0, 1, 2, 4] ∧
    decodeTransaction .cpa Pins.quiet.flt false [0x1C, 1, 0] 0 = .getDecodeStatus .cpa 1 [] ∧
    decodeTransaction .cpa Pins.quiet.flt false [0x2C, 1, 1, 2] 0 = .getMixMatrix .cpa 1 [2] ∧
    decodeTransaction .cpa Pins.quiet.flt false [0x2E, 1, 0] 0 = .getDelayStatus .cpa 1 [] ∧
    decodeTransaction .cpa Pins.quiet.flt false [0x32, 1, 3, 2, 8, 4] 0 = .setModulator .cpa 1 [2, 8, 4] ∧
    decodeTransaction .cpa Pins.quiet.flt false [0x3B, 1, 0] 0 = .getProtectionStatus .cpa 1 [] Pins.quiet.flt ∧
    decodeTransaction .cpa Pins.quiet.flt false [0x40, 1, 4, 0, 1, 0, 12] 0 = .toneStart .cpa 1 [0, 1, 0, 12] ∧
    decodeTransaction .cpa Pins.quiet.flt false [0x4C, 1, 4, 0, 1, 0x7F, 0x34] 0 = .tune .cpa 1 [0, 1, 0x7F, 0x34] ∧
    decodeTransaction .cpa Pins.quiet.flt false [0x59, 1, 1, 1] 0 = .getEncoderStatus .cpa 1 [1] := by decide

/-! ## Worked examples of the spec -/

/-- R203 and R200: after a power-on reset RESET alone is reported, in bit 5 of byte 0 and bit 2 of byte 7. -/
theorem test_readEvents_after_reset :
    answer .cpa (after (.readEvents .cpa 9 []) base) = some (.ok, [0x20, 0, 0, 0, 0, 0, 0, 4]) := by decide +kernel

/-- R197: the NONE record of an empty slot; the status byte has ATTENTION for RESET. -/
theorem test_fetch_none : ((after (.fetch .cpa 4) base).ports.get .cpa).miso = [0x40, 0, 255, 0, 0] := by decide +kernel

/-- R203, R204: a falling edge at a port that ignored its lines begins a transaction, which is taken. -/
theorem test_select_after_ignoring :
    ((ported .cpb fun r => { r with line := .selected 0x40 }).ports.get .cpb).line = .selected 0x40 ∧
    answer .cpb (after (.setMute .cpb 1 [0, 1]) (after (.chipSelectFallingEdge .cpb)
      (ported .cpb fun r => { r with line := .ignoring }))) = some (.ok, [1]) ∧
    answer .cpb (after (.setMute .cpb 1 [0, 1]) (ported .cpb fun r => { r with line := .ignoring })) = none := by decide +kernel

/-- Section 12.5.1: a SET_MUTE cut short sets FRAMING, and its status byte was 0x40. -/
theorem test_malformed_framing :
    ((after (.malformedTransaction .cpb [0x25, 0x53, 0x02, 0x00] 0) base).ports.get .cpb).framing = true := by
  decide +kernel

/-- Section 1.2.1: the worked descriptor is good at 48 kHz and not at 44.1 kHz. -/
def workedDescriptor : List Nat :=
  [0xC6, 0x50, 0xFC, 0x31, 0x53, 0x33, 0x46, 0x22, 0x00, 0x33, 0x46, 0x22, 0x00, 0x1A, 0x2B, 0xEF]

/-- Section 1.2.1. -/
theorem test_descriptor_good :
    descriptorGood (some .r48) workedDescriptor = true ∧ descriptorGood (some .r44) workedDescriptor = false := by decide

/-- Section 1.2.1: the fields of the worked descriptor. -/
theorem test_descriptor_fields :
    descriptorFields workedDescriptor =
      { format := .bsf, rateCode := 2, lfe := false, pref := 0, map := 0xFC, drc := 12, stream := 21, seq := 3,
        expo1 := #v[3, 3, 4, 6, 2, 2, 0, 0], expo2 := #v[3, 3, 4, 6, 2, 2, 0, 0], checksum := 0x1A2B } := by decide

/-- Section 1.3.2: 32,790 reference ticks match 48 kHz. -/
theorem test_rate_matches : matchRate 32790 = some .r48 ∧ matchRate 33000 = none := by decide

/-- Section 2.1.1: trim +30 and lip-sync 300,000 us are clamped, and the entry returned as written. -/
theorem test_setSource_clamps :
    answer .cpa (after (.setSource .cpa 1 [4, 2, 0x1E, 4, 0x93, 0xE0, 1, 2, 4]) base)
      = some (.limited, [2, 24, 3, 0xD0, 0x90, 1, 2, 4]) := by decide +kernel

/-- The speaker table of section 5.5.1: MAIN with FL, FR, C and SUB on M0 to M3. -/
def fourSpeakers : State :=
  State.spoken (State.spoken (State.spoken (State.spoken base 0 0 posFL) 1 0 posFR) 2 0 posC) 3 0 posSUB

/-- Section 5.5.1: the M0 row of the active set. -/
theorem test_build_row :
    ((buildSet fourSpeakers.speakers 0 .direct { map := 0xFC, drc := 12, pref := 0, lfe := false, stream := 21 }).rows.head?).map
      (·.coefs) = some #v[16384, 0, 0, 0, 11585, 0, 0, 0] := by decide +kernel

/-- Section 5.5.1: mix value and gain output of M0. -/
theorem test_mix_and_gain :
    mixValue #v[16384, 0, 0, 0, 11585, 0, 0, 0] #v[96000, 80000, 0, 32000, 80000, 0, 0, 0] = (152567, false) ∧
    gainOutput 152567 (some (-40)) 2 (-3) false 12 = (14287, false) ∧
    gainOutput 152567 (some (-40)) 2 (-3) true 12 = (7144, false) := by decide +kernel

/-- Section 5.5.2: a mix value that saturates counts a clip. -/
theorem test_mix_saturates :
    mixValue #v[16384, 0, 0, 0, 11585, 0, 0, 0] #v[8000000, 0, 0, 0, 8000000, 0, 0, 0] = (8388607, true) := by decide +kernel

/-- R100 and R101: -161 is zero output, -160 is not, and +72 is taken as +24. -/
theorem test_gain_limits :
    gainOutput 1000000 (some (-158)) (-3) 0 false 0 = (0, false) ∧ gainOutput 1000000 (some (-160)) 0 0 false 0 = (97, false) ∧
    gainOutput 1000000 (some 24) 24 24 false 0 = (4000000, false) := by decide +kernel

/-- Section 6.1: the largest frame counts at 44.1 and 192 kHz. -/
theorem test_delay_frames :
    delayFrames 250000 .r44 = 11025 ∧ delayFrames 30000 .r44 = 1323 ∧ delayFrames 250000 .r192 = 48000 := by decide

/-- Section 6.4: two full allocations and the two clamped ones. -/
theorem test_allocations :
    allocate 193024 8 (delayFrames 200000 .r96) 200000 .r96 =
      { words := 153600, frames := 19200, micros := 200000, limited := false } ∧
    allocate 15424 2 (delayFrames 250000 .r48) 250000 .r48 =
      { words := 15424, frames := 7712, micros := 160666, limited := true } ∧
    allocate 145024 8 (delayFrames 200000 .r96) 200000 .r96 =
      { words := 145024, frames := 18128, micros := 188833, limited := true } := by decide +kernel

/-- Section 7.3.1: the duty counts of 785,552 and -8,000,000 at W = 9, 8 and 7. -/
theorem test_duty_counts :
    dutyCount 9 0 785552 = 279 ∧ dutyCount 8 0 785552 = 139 ∧ dutyCount 7 0 785552 = 69 ∧
    dutyCount 9 0 (BitVec.ofInt 24 (-8000000)) = 11 ∧ dutyCount 7 2 (BitVec.ofInt 24 (-8388608)) = 2 := by decide +kernel

/-- Section 7.1.1: a bridged entry on the odd channel M9 is out of range, and M7 is held by the bridge on M6. -/
theorem test_setSpeaker_refusals :
    answer .cpa (after (.setSpeaker .cpa 1 [9, 1, 1, 1, 0, 0, 0, 0, 0]) base) = some (.range, []) ∧
    answer .cpa (after (.setSpeaker .cpa 1 [7, 1, 1, 0, 0, 0, 0, 0, 0])
      { base with speakers := setAt base.speakers 6 { Speaker.reset with zone := some 1, bridged := true } })
      = some (.refusedState, []) := by decide +kernel

/-- Section 7.1.1: trim +30 and delay 40,000 us on M8 are written as +24 and 30,000 us. -/
theorem test_setSpeaker_clamps :
    answer .cpa (after (.setSpeaker .cpa 1 [8, 1, 1, 1, 30, 0, 0x9C, 0x40, 1]) base)
      = some (.limited, [1, 1, 1, 24, 0, 0x75, 0x30, 1]) := by decide +kernel

/-- Section 9.2: the noise samples of frames 1 and 18. -/
theorem test_noise :
    noiseShift 1 = 2 ∧ noiseSample 2 = BitVec.ofInt 24 (-524288) ∧ noiseShift 131072 = 262145 ∧
    noiseSample 262145 = BitVec.ofInt 24 (-491520) := by decide +kernel

/-- Section 9.4.1: a dwell of 12 s is applied as 10 s. -/
theorem test_toneStart_clamps :
    answer .cpa (after (.toneStart .cpa 1 [0, 1, 0, 12])
      (State.spoken (zoned 0 fun r => { r with power := .on }) 0 0 posFL)) = some (.limited, [1, 0, 10]) := by decide +kernel

/-- The tuner of section 10.11: three calibration points, UNLOCKED on FM. -/
def calibrated : State :=
  tuned fun t =>
    { t with fmCal := [⟨87500, 12000⟩, ⟨98000, 30000⟩, ⟨108000, 52000⟩], state := .unlocked, dac := 12000 }

/-- Section 10.11: TUNE(FM, 98,100) writes the coarse value 30,220. -/
theorem test_tune_coarse :
    (after (.tune .cpb 7 [0, 1, 0x7F, 0x34]) calibrated).tuner.dac = 30220 ∧
    (after (.tune .cpb 7 [0, 1, 0x7F, 0x34]) calibrated).tuner.state = .acquiring := by decide +kernel

/-- The acquisition of section 10.11 while its first gate is open. -/
def acquiring : State :=
  { calibrated with tuner := { calibrated.tuner with
      state := .acquiring, op := some (.tune, .portB), target := 98100, dac := 30220, gate := .waiting (ended 20) } }

/-- Section 10.11: the first gate of 59,340 ticks gives an error of +232 and the DAC word 30,730. -/
theorem test_gate_corrects :
    (after (.gateComplete 59340) acquiring).tuner.dac = 30730 ∧
    (after (.gateComplete 59340) acquiring).tuner.inRun = false := by decide +kernel

/-- R159: the channel counts. -/
theorem test_channel_counts :
    channelCount .fm 100 = 206 ∧ channelCount .fm 50 = 411 ∧ channelCount .am 9 = 123 ∧ channelCount .am 10 = 119 := by decide

/-- Section 11.5: a clockwise detent 12 ms after another moves qv by 4, and the first by 1. -/
theorem test_detent_steps :
    ((after (.detent 0 true) { zoned 0 (fun r => { r with power := .on, qv := -39 }) with
      ms := 121
      encoders := setAt base.encoders 0 { base.encoders.get 0 with lastDetent := some (109, true) } }).zones.get 0).qv = -35 ∧
    ((after (.detent 0 true) (zoned 0 fun r => { r with power := .on, qv := -40 })).zones.get 0).qv = -39 := by decide +kernel

/-- Section 8.7.2: the fourth driven period with FLT asserted trips the pair. -/
theorem test_fault_count :
    ((after (.carrierPeriodBoundary 1 #v[false, false, false, true, false, false])
      { State.spoken (zoned 1 fun r => { r with power := .on, drive := .audio, driveNow := .audio }) 6 1 posFL with
        pairs := setAt base.pairs 3 { base.pairs.get 3 with faults := 3, driven := true } }).pairs.get 3).state = .tripped := by
  decide +kernel

/-- R60: POWER_ON of a zone in STANDBY is ACCEPTED. -/
theorem test_powerOn_accepted : answer .cpa (after (.powerOn .cpa 1 [0]) base) = some (.accepted, []) := by decide +kernel

/-- The step takes the front command and leaves the rest. -/
theorem test_step_takes_front :
    (match step { base with pending := [.powerOn .cpa 1 [0], .poll .cpb] } with
      | .next t => t.pending == [.poll .cpb] && (t.zones.get 0).power == .starting
      | _ => false) = true := by decide +kernel

/-! ## Witnesses: the hypotheses of each statement, clause by clause, are met together -/

theorem witness_StepRunsFrontCommand_idle : base.pending = [] := rfl

theorem witness_TransactionsDecode_setVolume :
    (Instr.setVolume .cpb 0xFF [2, 0x7F, 0xFF]).wellFormed = true ∧ (Instr.setVolume .cpb 0xFF [2, 0x7F, 0xFF]).port = some .cpb ∧
    (Instr.setVolume .cpb 0xFF [2, 0x7F, 0xFF]).transaction = some ([0x23, 0xFF, 3, 2, 0x7F, 0xFF], 0) ∧
    (∀ t y f, Instr.setVolume .cpb 0xFF [2, 0x7F, 0xFF] = .getProtectionStatus .cpb t y f → f = Pins.quiet.flt) ∧
    ∀ t y x, Instr.setVolume .cpb 0xFF [2, 0x7F, 0xFF] = .getTunerStatus .cpb t y x → x = true :=
  ⟨by decide, rfl, by decide, nofun, nofun⟩

theorem witness_TransactionsDecode_getTunerStatus :
    (Instr.getTunerStatus .cpa 0 [] true).wellFormed = true ∧ (Instr.getTunerStatus .cpa 0 [] true).port = some .cpa ∧
    (Instr.getTunerStatus .cpa 0 [] true).transaction = some ([0x4F, 0, 0], 0) ∧
    (∀ t y f, Instr.getTunerStatus .cpa 0 [] true = .getProtectionStatus .cpa t y f → f = Pins.quiet.flt) ∧
    ∀ t y x, Instr.getTunerStatus .cpa 0 [] true = .getTunerStatus .cpa t y x → x = true :=
  ⟨by decide, rfl, by decide, nofun, fun _ _ _ h => by cases h; rfl⟩

/-- A port whose slot holds a response of one data byte. -/
def answered : State := ported .cpb fun r => { r with slot := some { tag := 7, result := .ok, data := [1] } }

theorem witness_PollFetchAndSelect :
    ((base.ports.get .cpa).line ≠ .ignoring ∧ ∀ x, (base.ports.get .cpa).line ≠ .selected x) ∧
    ((base.ports.get .cpa).line ≠ .ignoring ∧
      (∀ x, base.slot .cpa = some x → [0, 255, 0] = [x.tag, BitVec.ofNat 8 x.result.code, BitVec.ofNat 8 x.data.length] ++ x.data) ∧
      (base.slot .cpa = none → ([0, 255, 0] : List Byte) = [0, 255, 0])) ∧
    (answered.ports.get .cpb).line ≠ .ignoring ∧
    (∀ x, answered.slot .cpb = some x →
      [7, 0, 1, 1] = [x.tag, BitVec.ofNat 8 x.result.code, BitVec.ofNat 8 x.data.length] ++ x.data) ∧
    (answered.slot .cpb = none → ([7, 0, 1, 1] : List Byte) = [0, 255, 0]) :=
  ⟨⟨by decide, nofun⟩, ⟨by decide, nofun, fun _ => rfl⟩, by decide, fun _ h => by cases h; rfl, nofun⟩

/-- The three conditions of a port's lines. -/
theorem witness_PollFetchAndSelect_miso :
    (base.ports.get .cpa).line = .idle ∧ ((after (.chipSelectFallingEdge .cpb) base).ports.get .cpb).line = .selected 0x40 ∧
    ((after (.deviceReset .cpa 1 []) (after (.chipSelectFallingEdge .cpb) base)).ports.get .cpb).line = .ignoring := by
  decide +kernel

/-- R192: MISO is driven while chip select is low, and not after the transaction. -/
theorem test_miso :
    (after (.chipSelectFallingEdge .cpb) base).outputs.misoB = some 0x40 ∧
    (after (.chipSelectFallingEdge .cpb) base).outputs.misoA = none ∧
    (after (.poll .cpb) (after (.chipSelectFallingEdge .cpb) base)).outputs.misoB = none := by decide +kernel

theorem witness_ReadEventsEffect :
    Ready base .cpa ∧ ([0] : List Byte) ≠ [] ∧ ([0] : List Byte).length ≤ 250 ∧ (List.replicate 250 (0 : Byte)).length ≤ 250 :=
  ⟨ready rfl .cpa, by decide, by decide, by decide +kernel⟩

theorem witness_EventMaskEffects :
    (Ready base .cpb ∧ ([0xFF, 1, 0, 0, 0, 0, 0] : List Byte).length = 7) ∧
    (([0xFF] : List Byte).length ≤ 250 ∧ ([0xFF] : List Byte).length ≠ 7 ∧ ([0xFF] : List Byte) ≠ []) :=
  ⟨⟨ready rfl .cpb, rfl⟩, by decide⟩

theorem witness_UnknownMalformedPending :
    (Ready base .cpa ∧ ([] : List Byte).length ≤ 250 ∧ codeListed 0x06 = false ∧ codeListed 0xFF = false) ∧
    ((base.ports.get .cpb).line ≠ .ignoring ∧ isMalformed [0x25, 0x53, 2, 0] 0 = true ∧ isMalformed [] 0 = true) ∧
    (Instr.stepVolume .cpb 1 [0, 2]).port = some .cpb ∧ (Instr.stepVolume .cpb 1 [0, 2]).request = some (0x24, 1, [0, 2]) ∧
    ([0, 2] : List Byte).length ≤ 250 ∧ (answered.ports.get .cpb).line ≠ .ignoring ∧
    (answered.status .cpb).getLsbD 7 = true :=
  ⟨⟨ready rfl .cpa, by decide⟩, by decide, rfl, rfl, by decide, by decide, by decide +kernel⟩

/-- A port that ignores its lines, with a FETCH cut short after two bytes, with another transaction cut, or with none. -/
def ignoring (c : Option CutTransaction) : State := ported .cpa fun r => { r with line := .ignoring, cut := c }

theorem witness_UnknownMalformedPending_ignoring :
    ((Instr.readEvents .cpa 1 []).port = some .cpa ∧ (Instr.readEvents .cpa 1 []).request = some (0x02, 1, []) ∧
      ((ignoring none).ports.get .cpa).line = .ignoring ∧ ((ignoring none).ports.get .cpa).cut = none) ∧
    isMalformed [0x25] 3 = true ∧
    ((ignoring (some ⟨0x40, [0, 255, 0], 2⟩)).ports.get .cpa).line = .ignoring ∧
    ((ignoring (some ⟨0x40, [0, 255, 0], 2⟩)).ports.get .cpa).cut = some ⟨0x40, [0, 255, 0], 2⟩ ∧ 1 < 2 := by decide

/-- R204: of a FETCH cut by a soft reset after two bytes the status byte and the tag went out, and zeros follow; of a POLL the
status byte, or a zero when none was clocked. -/
theorem test_transaction_cut :
    ((after (.fetch .cpa 3) (ignoring (some ⟨0xC0, [7, 0, 1, 9], 2⟩))).ports.get .cpa).miso = [0xC0, 7, 0, 0] ∧
    ((after (.poll .cpa) (ignoring (some ⟨0xC0, [0, 255, 0], 1⟩))).ports.get .cpa).miso = [0xC0] ∧
    ((after (.poll .cpa) (ignoring (some ⟨0xC0, [0, 255, 0], 0⟩))).ports.get .cpa).miso = [0] := by
  decide +kernel

/-- Port B has a transaction under way when port A resets the part. -/
def selectedB : State := ported .cpb fun r => { r with line := .selected 0x40 }

theorem witness_DeviceResetEffect_cut :
    Ready selectedB .cpa ∧ (selectedB.ports.get (otherPort .cpa)).line = .selected 0x40 := ⟨by unfold Ready; decide, by decide⟩

theorem witness_DeviceResetEffect :
    Ready base .cpb ∧ (base.tuner.cal base.tuner.band).isEmpty = true ∧ Ready calibrated .cpa ∧
    coarse (calibrated.tuner.cal calibrated.tuner.band) calibrated.tuner.target = some 12000 :=
  ⟨ready rfl .cpb, by decide, ready rfl .cpa, by decide +kernel⟩

theorem witness_WrongOperandsRefused :
    ((Instr.powerOn .cpa 1 []).port = some .cpa ∧ (Instr.powerOn .cpa 1 []).request = some (0x20, 1, []) ∧
      ([] : List Byte).length ≤ 250 ∧ lengthAccepted 0x20 [] = false ∧ Ready base .cpa) ∧
    (Instr.powerOn .cpb 1 [3]).port = some .cpb ∧ (Instr.powerOn .cpb 1 [3]).request = some (0x20, 1, [3]) ∧
    indexBound 0x20 = some 3 ∧ 3 ≤ (3 : Byte).toNat ∧ Ready base .cpb :=
  ⟨⟨rfl, rfl, by decide, by decide, ready rfl .cpa⟩, rfl, rfl, rfl, by decide, ready rfl .cpb⟩

/-- For every request of several operands, payloads that hold an operand just out of its range. -/
def outOfRangePayloads : List (Nat × List Byte) :=
  [(0x12, [9, 4]), (0x18, [16, 0, 0, 0, 0, 0, 0, 0, 0]), (0x18, [0, 254, 0, 0, 0, 0, 0, 0, 0]),
    (0x18, [0, 9, 0, 0, 0, 0, 0, 0, 0]), (0x18, [0, 0, 0, 0, 0, 0, 2, 0, 0]), (0x18, [0, 0, 0, 0, 0, 0, 0, 4, 0]),
    (0x22, [3, 0]), (0x22, [0, 16]), (0x23, [3, 0, 0]), (0x24, [3, 0]), (0x25, [3, 0]), (0x25, [0, 2]),
    (0x26, [3, 0, 0, 0, 1, 0]), (0x26, [0, 4, 0, 0, 1, 0]), (0x26, [0, 0, 2, 0, 1, 0]), (0x26, [0, 0, 0, 3, 1, 0]),
    (0x32, [3, 9, 0]), (0x32, [0, 6, 0]), (0x32, [0, 10, 0]), (0x38, [6, 0, 100, 4]), (0x40, [3, 0, 0, 1]),
    (0x40, [0, 2, 0, 1]), (0x40, [0, 0, 2, 1]), (0x48, [2, 100, 0, 0]), (0x48, [0, 9, 0, 0]), (0x48, [0, 50, 0, 2]),
    (0x48, [1, 100, 0, 0]), (0x4A, [0, 1, 0, 0, 1, 0, 1]), (0x4A, [2, 2, 0, 0, 1, 0, 1, 0, 0, 2, 0, 2]),
    (0x4A, [0, 2, 0, 0, 1, 0, 1, 0, 0, 2, 0, 1]), (0x4C, [2, 0, 0, 0]), (0x53, 41 :: List.replicate 205 0),
    (0x53, [1, 2, 1, 0x7F, 0x34, 0]), (0x58, [2, 1, 0]), (0x58, [0, 4, 0]), (0x58, [0, 0, 3])]

/-- Payloads of the same requests with every operand at the end of its range. -/
def inRangePayloads : List (Nat × List Byte) :=
  [(0x12, [8, 255]), (0x18, [15, 8, 0x80, 255, 255, 255, 1, 3, 255]), (0x18, [15, 255, 0, 0, 0, 0, 1, 3, 0]), (0x22, [2, 15]),
    (0x22, [2, 255]), (0x23, [2, 0x80, 0]), (0x24, [2, 0x80]), (0x25, [2, 1]), (0x26, [2, 3, 1, 2, 0, 255]), (0x32, [2, 7, 255]),
    (0x38, [5, 0, 0, 0]), (0x40, [2, 1, 1, 255]), (0x48, [0, 50, 255, 1]), (0x48, [1, 10, 255, 255]),
    (0x4A, [1, 2, 0, 0, 1, 0, 1, 0, 0, 2, 0, 2]), (0x4C, [1, 255, 255, 255]), (0x53, [0]), (0x58, [1, 3, 255]), (0x58, [1, 0, 2])]

/-- The request of a code that the table lists, as the port reads it. -/
def requested (x : Nat × List Byte) : Instr :=
  decodeTransaction .cpa Pins.quiet.flt false
    (BitVec.ofNat 8 x.1 :: 7 :: BitVec.ofNat 8 x.2.length :: x.2) 0

theorem witness_WrongOperandsRefused_range :
    Ready base .cpa ∧ ∀ x ∈ outOfRangePayloads, (requested x).port = some .cpa ∧ (requested x).request = some (x.1, 7, x.2) ∧
      x.2.length ≤ 250 ∧ lengthAccepted x.1 x.2 = true ∧ operandsOutOfRange x.1 x.2 = true :=
  ⟨ready rfl .cpa, by decide +kernel⟩

/-- Each of them is answered RANGE, and none with every operand in range is. -/
theorem test_operand_ranges :
    (∀ x ∈ outOfRangePayloads, answer .cpa (after (requested x) base) = some (.range, [])) ∧
    ∀ x ∈ inRangePayloads, lengthAccepted x.1 x.2 = true ∧ operandsOutOfRange x.1 x.2 = false ∧
      (answer .cpa (after (requested x) base)).map (·.1) ≠ some .range := by decide +kernel

theorem witness_FlagsReachBothPorts :
    (∃ t, exec (.powerOn .cpa 1 [0]) base = .next t ∧ (∀ p tag y, Instr.powerOn .cpa 1 [0] ≠ .readEvents p tag y) ∧
      (∀ p tag y, Instr.powerOn .cpa 1 [0] ≠ .deviceReset p tag y) ∧ ∀ pins, Instr.powerOn .cpa 1 [0] ≠ .powerOnReset pins) ∧
    ∃ t, exec (.readEvents .cpa 1 []) base = .next t :=
  ⟨⟨_, rfl, nofun, nofun, nofun⟩, _, rfl⟩

theorem witness_OtherPortKept :
    ∃ t, exec (.powerOn .cpa 1 [0]) base = .next t ∧ (Instr.powerOn .cpa 1 [0]).port ≠ some .cpb ∧
      (∀ q tag y, Instr.powerOn .cpa 1 [0] ≠ .deviceReset q tag y) ∧ ∀ pins, Instr.powerOn .cpa 1 [0] ≠ .powerOnReset pins :=
  ⟨_, rfl, by decide, nofun, nofun⟩

/-! ### Links, sensing, source table -/

theorem witness_LinkReports : Ready base .cpa ∧ (8 : Byte).toNat = (8 : LinkId).1 := ⟨ready rfl .cpa, rfl⟩

/-- A DISABLED link. -/
def disabled : State := linked 8 fun r => { r with enabled := false, state := .disabled }

theorem witness_EnableDisableLink :
    (Ready base .cpa ∧ (8 : Byte).toNat = (8 : LinkId).1 ∧ (base.links.get 8).state ≠ .disabled) ∧
    Ready disabled .cpb ∧ (disabled.links.get 8).state = .disabled :=
  ⟨⟨ready rfl .cpa, rfl, by decide⟩, ready rfl .cpb, by decide⟩

/-- R11: each request completes in both states of the link. -/
theorem test_enableDisable :
    ((after (.disableLink .cpa 1 [8]) base).links.get 8).state = .disabled ∧
    ((after (.disableLink .cpa 1 [8]) disabled).links.get 8).state = .disabled ∧
    ((after (.enableLink .cpa 1 [8]) disabled).links.get 8).state = .detectQuiet ∧
    answer .cpa (after (.enableLink .cpa 1 [8]) base) = some (.ok, []) := by decide +kernel

theorem witness_GetSourceRule :
    (Ready base .cpa ∧ (15 : Byte).toNat = (15 : SrcId).1) ∧ 16 ≤ (16 : Byte).toNat ∧ ([0, 0] : List Byte).length ≠ 1 ∧
    ([0, 0] : List Byte).length ≤ 250 :=
  ⟨⟨ready rfl .cpa, rfl⟩, by decide, by decide, by decide⟩

theorem witness_CounterRequests :
    (Ready base .cpb ∧ (8 : Byte).toNat = (8 : LinkId).1) ∧ 9 ≤ (9 : Byte).toNat ∧ ([] : List Byte).length ≠ 1 ∧
    ([] : List Byte).length ≤ 250 :=
  ⟨⟨ready rfl .cpb, rfl⟩, by decide, by decide, by decide⟩

/-- The millisecond timer at `n`, with a link that has counted 3 CODE errors in this second and had 7 in the last; a snapshot is
due or not. -/
def counting (n : Nat) (due : Bool) : State :=
  { linked 8 fun r => { r with counters := { r.counters with code := { total := 9, second := 3, snapshot := 7 } } } with
    ms := BitVec.ofNat 32 n, snapshotDue := due }

theorem witness_LinkOptionsAndSnapshot :
    Ready base .cpa ∧ (8 : Byte).toNat = (8 : LinkId).1 ∧ 32 = max 1 (min 32 (255 : Byte).toNat) ∧
    1 = max 1 (min 32 (0 : Byte).toNat) ∧ (counting 1000 true).snapshotDue = true ∧ (counting 1000 false).snapshotDue = false :=
  ⟨ready rfl .cpa, by decide⟩

/-- R19: the DAC_TRANSFER to ms 1,000 makes the snapshot due, COUNTER_SNAPSHOT takes it once, and the end of that millisecond takes
it otherwise. At ms 999 and 1,001 there is none. -/
theorem test_snapshot :
    (after .dacTransfer (counting 999 false)).snapshotDue = true ∧ (after .dacTransfer (counting 998 false)).snapshotDue = false ∧
    ((after .counterSnapshot (after .dacTransfer (counting 999 false))).links.get 8).counters.code =
      { total := 9, second := 0, snapshot := 3 } ∧
    ((after .dacTransfer (counting 1000 true)).links.get 8).counters.code = { total := 9, second := 0, snapshot := 3 } ∧
    (after .dacTransfer (counting 1000 true)).snapshotDue = false ∧
    after .counterSnapshot (counting 1001 false) = counting 1001 false ∧
    (after .dacTransfer (counting 4294967295 false)).snapshotDue = true := by decide +kernel

/-- Frames of a block: of even parity with V 1, of odd parity, and not well formed. -/
def evenFrame : RawFrame := { wellFormed := true, slots := Vector.ofFn fun _ => 0x80000080 }
/-- See `evenFrame`. -/
def oddFrame : RawFrame := { wellFormed := true, slots := Vector.ofFn fun _ => 1 }
/-- See `evenFrame`. -/
def brokenFrame : RawFrame := { wellFormed := false, slots := Vector.ofFn fun _ => 0 }

theorem witness_PcmSlotRule :
    brokenFrame.wellFormed = false ∧
    (oddFrame.wellFormed = true ∧ ((List.range 32).filter fun i => (oddFrame.slots.get 7).getLsbD i).length % 2 = 1) ∧
    evenFrame.wellFormed = true ∧ ((List.range 32).filter fun i => (evenFrame.slots.get 0).getLsbD i).length % 2 = 0 := by
  decide +kernel

/-- A link in a state with its state timer and its loss window running. -/
def linkIn (st : LinkState) : State :=
  linked 8 fun r => { r with state := st, stateTimer := some (ended 50), lossTimer := some (ended 4) }

theorem witness_LinkAcquisition :
    ((disabled.links.get 8).state = .disabled ∧ (base.links.get 8).state = .detectQuiet) ∧
    (((linkIn .alignSeek).links.get 8).state.isAlign = true ∧ ranOut ((linkIn .alignSeek).links.get 8).stateTimer (linkIn .alignSeek).ms) ∧
    (((linkIn .recoverRead).links.get 8).state.isRecover = true ∧ ranOut ((linkIn .recoverRead).links.get 8).stateTimer (linkIn .recoverRead).ms) ∧
    ((linkIn .detectActive).links.get 8).state = .detectActive ∧ ranOut ((linkIn .locked).links.get 8).lossTimer (linkIn .locked).ms ∧
    (¬ranOut (some (unended 4)) base.ms ∧ ¬ranOut (base.links.get 8).lossTimer base.ms ∧ ¬ranOut (base.links.get 8).stateTimer base.ms) ∧
    (((linkIn .measureCounting).links.get 8).state.isMeasure = true ∧
      1000 * ((32899 : Int) - Rate.r48.nominal).natAbs ≤ 4 * Rate.r48.nominal ∧
      4 * Rate.r48.nominal < 1000 * ((32900 : Int) - Rate.r48.nominal).natAbs) ∧
    (∀ r : Rate, 4 * r.nominal < 1000 * ((32900 : Int) - r.nominal).natAbs) :=
  ⟨by decide, by decide, by decide, by decide, by decide, by decide, by decide, fun r => by cases r <;> decide⟩

/-- R17: the loss window ends at its length and not 1 ms sooner; an FS edge taken first restarts it, and nothing happens. -/
theorem test_loss_of_signal :
    ((after (.lossOfSignal 8) (linkIn .locked)).links.get 8).state = .detectQuiet ∧
    ((after (.lossOfSignal 8) { linkIn .locked with ms := 0xFFFFFFFF }).links.get 8).state = .locked ∧
    ((after (.lossOfSignal 8) (after (.linkFrame 8 { data := [], fsHigh := 1, ticks := 9 }) (linkIn .alignSeek))).links.get 8).state
      = .alignSeek := by decide +kernel

/-- R33: a quiet timer that has run out ends ACTIVE, and one that a non-silent frame restarted does not. -/
theorem test_quiet_expiry :
    ((after (.quietTimerExpiry 8) (sensed 8 .active)).monitors.get 8).state = .silent ∧
    ((after (.quietTimerExpiry 8) (monitorFrame (sensed 8 .active) 8 false false true)).monitors.get 8).state = .active := by
  decide +kernel

/-- `linkIn` with a number of edges counted in DETECT, a measurement, and the block in reading. -/
def linkAt (st : LinkState) (n : Nat) (m : Option Measurement) (fs : List RawFrame) : State :=
  linked 8 fun r => { r with state := st, rate := some .r48, detectCount := n, measurement := m, reading := fs }

/-- A link frame with FS high for `n` bit clocks. -/
def frameOf (n : Nat) : LinkFrame := { data := List.replicate 256 false, fsHigh := n, ticks := 512 }

theorem witness_LinkAcquisition_count :
    (((linkAt .detectActive 14 none []).links.get 8).state = .detectActive ∧
      ((linkAt .detectActive 14 none []).links.get 8).detectCount < 15) ∧
    15 ≤ ((linkAt .detectActive 15 none []).links.get 8).detectCount ∧
    (((linkAt .measureCounting 0 none []).links.get 8).state.isMeasure = true ∧
      ((linkAt .measureCounting 0 none []).links.get 8).measurement = none) ∧
    (((linkAt .measureCounting 0 (some ⟨62, 9, true⟩) []).links.get 8).measurement = some ⟨62, 9, true⟩ ∧ 62 < 63) ∧
    ((linkAt .measureUnrecognised 0 (some ⟨63, 9, true⟩) []).links.get 8).state.isMeasure = true ∧
    ((linkAt .measureUnrecognised 0 (some ⟨63, 9, true⟩) []).links.get 8).measurement = some ⟨63, 9, true⟩ ∧ 63 ≤ 63 := by
  decide

theorem witness_LinkAcquisition_sync :
    ((linkAt .alignSeek 0 none []).links.get 8).state = .alignSeek ∧ 49 ≤ (frameOf 49).fsHigh ∧ (frameOf 48).fsHigh < 49 ∧
    (((linkAt .alignRead 0 none [brokenFrame]).links.get 8).state = .alignRead ∧
      ((linkAt .alignRead 0 none [brokenFrame]).links.get 8).reading.length ≠ 64) ∧
    ((linkAt .alignRead 0 none (List.replicate 64 brokenFrame)).links.get 8).reading.length = 64 ∧
    blockDescriptor (some .r48) (List.replicate 64 brokenFrame) = none ∧
    ((linkAt .recoverSeek 0 none []).links.get 8).state = .recoverSeek ∧
    (((linkAt .recoverRead 0 none (List.replicate 62 brokenFrame)).links.get 8).state = .recoverRead ∧
      ((linkAt .recoverRead 0 none (List.replicate 62 brokenFrame)).links.get 8).reading.length < 63) ∧
    (((linkAt .recoverRead 0 none (List.replicate 63 brokenFrame)).links.get 8).reading.length = 63 ∧
      blockDescriptor (some .r48) (List.replicate 63 brokenFrame ++ [rawFrame (frameOf 1)]) = none) ∧
    ((linkAt .recoverRead 0 none (List.replicate 64 brokenFrame)).links.get 8).reading.length = 64 ∧
    49 ≤ (frameOf 49).fsHigh := by decide +kernel

/-- A PCM descriptor of FL and FR at 48 kHz. -/
def stereoDescriptor : Descriptor :=
  { format := .pcm, rateCode := 2, lfe := false, pref := 0, map := 0xC0, drc := 0, stream := 0, seq := 0,
    expo1 := #v[0, 0, 0, 0, 0, 0, 0, 0], expo2 := #v[0, 0, 0, 0, 0, 0, 0, 0], checksum := 2 }

/-- A zone that plays S8, whose input is link 8. -/
def playing : State :=
  zoned 2 fun r =>
    { r with power := .on, path := .playing, bound := some 8, selected := some 8, qr := some (-40)
             copy := some { input := some 8, trim := 0, lipSync := 0, mode := .auto } }

/-- A link frame of 256 zero bits that takes 512 reference ticks. -/
def zeroLinkFrame (long : Bool) : LinkFrame :=
  { data := List.replicate 256 false, fsHigh := if long then 64 else 1, ticks := 512 }

/-- A frame with two S bits. -/
def sFrame (a b : Bool) : RawFrame :=
  { wellFormed := true, slots := Vector.ofFn fun n => if (n = 0 ∧ a = true) ∨ (n = 1 ∧ b = true) then 0x40 else 0 }

/-- The first 63 frames of a block that carries `stereoDescriptor`: bytes C6, 10, C0, 0 ... 0, 2 and 68 hex but for the last
two bits, which are 0. -/
def stereoFrames : List RawFrame :=
  [sFrame true true, sFrame false false, sFrame false true, sFrame true false,
    sFrame false false, sFrame false true, sFrame false false, sFrame false false,
    sFrame true true, sFrame false false, sFrame false false, sFrame false false] ++
  List.replicate 47 (sFrame false false) ++ [sFrame true false] ++ [sFrame false true, sFrame true false, sFrame true false]

/-- A link in LOCKED with frames of a block to deliver; those it has read of the next block make them 64. -/
def delivering (fs : List RawFrame) : State :=
  { playing with links := setAt base.links 8 { base.links.get 8 with
      state := .locked, rate := some .r48, lastGood := some stereoDescriptor
      reading := stereoFrames.take (64 - fs.length), blockTicks := (64 - fs.length) * 512
      delivery := some { desc := stereoDescriptor, frames := fs } } }

/-- The last frame of a block; the frame that arrives is the last of the next block, whose descriptor is good. -/
theorem witness_LockedDeliversPcm :
    ∀ s ∈ [delivering [evenFrame]],
      (s.links.get 8).state = .locked ∧
      (s.links.get 8).delivery = some { desc := stereoDescriptor, frames := evenFrame :: [] } ∧
      [evenFrame].length + (s.links.get 8).reading.length = 64 ∧ (zeroLinkFrame false).longSync = false ∧
      servingUnit s 8 = none ∧ (s.zones.get 2).link = some 8 ∧ (s.zones.get 2).power.isBound = true ∧
      (s.zones.get 2).path = .playing ∧ (s.zones.get 2).buffer = [] ∧
      (s.zones.get 2).decode = .none ∧ (s.zones.get 0).decode = .none ∧ (s.links.get 8).rate = some .r48 ∧
      Rate.isMatch ((s.links.get 8).blockTicks + (zeroLinkFrame false).ticks) .r48 = true ∧
      (s.links.get 8).lastGood.map (·.format) = some .pcm ∧
      blockDescriptor (some .r48) ((s.links.get 8).reading ++ [rawFrame (zeroLinkFrame false)]) = some stereoDescriptor ∧
      stereoDescriptor.format = .pcm := by decide +kernel

/-- The first frame of a block with an ordinary sync or a long one, and the frame before the last; 63 frames in a buffer in
FILLING. -/
theorem witness_LockedDeliversPcm_more :
    (∀ long : Bool, (zeroLinkFrame long).longSync = true →
      ((delivering (List.replicate 64 evenFrame)).links.get 8).reading = []) ∧
    [evenFrame, evenFrame].length + ((delivering [evenFrame, evenFrame]).links.get 8).reading.length = 64 ∧
    makesRoom (List.replicate 63 { samples := byPos fun _ => 0, vals := none })
      (List.replicate 63 { samples := byPos fun _ => 0, vals := none }) :=
  ⟨fun _ _ => rfl, by decide +kernel, Or.inl ⟨by decide, rfl⟩⟩

/-- `delivering [evenFrame]` with a buffer of `n` frames, the first of which carries values. -/
def deliveringTo (path : Path) (n : Nat) : State :=
  { delivering [evenFrame] with zones := setAt playing.zones 2 { playing.zones.get 2 with
      path := path
      buffer := { samples := byPos fun _ => 0, vals := some stereoDescriptor.vals } ::
        List.replicate (n - 1) { samples := byPos fun _ => 1, vals := none } } }

/-- A full buffer keeps its 64 newest frames, and the values of the first pass to the oldest of them. -/
theorem witness_LockedDeliversPcm_full :
    ((deliveringTo .fading 128).zones.get 2).path = .fading ∧ ((deliveringTo .fading 127).zones.get 2).buffer.length < 128 ∧
    makesRoom ((deliveringTo .fading 128).zones.get 2).buffer
      ({ samples := byPos fun _ => 1, vals := some stereoDescriptor.vals } ::
        List.replicate 63 { samples := byPos fun _ => 1, vals := none }) :=
  ⟨rfl, by decide +kernel, Or.inr ⟨{ samples := byPos fun _ => 0, vals := some stereoDescriptor.vals } ::
      List.replicate 63 { samples := byPos fun _ => 1, vals := none }, { samples := byPos fun _ => 1, vals := none },
      List.replicate 63 { samples := byPos fun _ => 1, vals := none }, rfl, rfl, rfl, rfl⟩⟩

/-- R80: with the 64th frame of a block, 128 frames become 65 with one SKIP, and 127 become 128. -/
theorem test_skip :
    ((after (.linkFrame 8 (zeroLinkFrame false)) (deliveringTo .fading 128)).zones.get 2).buffer.length = 65 ∧
    ((after (.linkFrame 8 (zeroLinkFrame false)) (deliveringTo .fading 128)).zones.get 2).skips = 1 ∧
    ((after (.linkFrame 8 (zeroLinkFrame false)) (deliveringTo .fading 127)).zones.get 2).buffer.length = 128 := by
  decide +kernel

/-- R67, R84: the 64th frame in the buffer ends FILLING and records no origin; the 63rd leaves FILLING as it is. -/
theorem test_filling_ends :
    ((after (.linkFrame 8 (zeroLinkFrame false)) (deliveringTo .filling 63)).zones.get 2).path = .playing ∧
    ((after (.linkFrame 8 (zeroLinkFrame false)) (deliveringTo .filling 62)).zones.get 2).path = .filling ∧
    ((after (.linkFrame 8 (zeroLinkFrame false)) { deliveringTo .filling 63 with
      zones := setAt (deliveringTo .filling 63).zones 2 { (deliveringTo .filling 63).zones.get 2 with
        lastChanged := .panel } }).zones.get 2).lastChanged = .panel := by decide +kernel

/-- A link in LOCKED that has read 63 frames, after `run` descriptor errors. -/
def blockEnding63 (fs : List RawFrame) (run : Nat) : State :=
  linked 8 fun r =>
    { r with state := .locked, rate := some .r48, reading := fs, blockTicks := 63 * 512, errorRun := run
             lastGood := some stereoDescriptor }

theorem witness_BlockEndDecides_good :
    ((blockEnding63 stereoFrames 0).links.get 8).state = .locked ∧
    ((blockEnding63 stereoFrames 0).links.get 8).reading.length = 63 ∧ (zeroLinkFrame false).longSync = false ∧
    ((blockEnding63 stereoFrames 0).links.get 8).rate = some .r48 ∧
    Rate.isMatch (((blockEnding63 stereoFrames 0).links.get 8).blockTicks + (zeroLinkFrame false).ticks) .r48 = true ∧
    blockDescriptor (some .r48) (((blockEnding63 stereoFrames 0).links.get 8).reading ++ [rawFrame (zeroLinkFrame false)]) =
      some stereoDescriptor ∧
    stereoDescriptor.format ≠ .bsf := by decide +kernel

/-- 63 frames that carry no sync byte. -/
def badFrames : List RawFrame := List.replicate 63 (sFrame false false)

theorem witness_BlockEndDecides_thirdError :
    ((blockEnding63 badFrames 2).links.get 8).state = .locked ∧
    ((blockEnding63 badFrames 2).links.get 8).reading.length = 63 ∧ (zeroLinkFrame false).longSync = false ∧
    ((blockEnding63 badFrames 2).links.get 8).rate = some .r48 ∧
    Rate.isMatch (((blockEnding63 badFrames 2).links.get 8).blockTicks + (zeroLinkFrame false).ticks) .r48 = true ∧
    blockDescriptor (some .r48) (((blockEnding63 badFrames 2).links.get 8).reading ++ [rawFrame (zeroLinkFrame false)]) = none ∧
    ((blockEnding63 badFrames 2).links.get 8).errorRun = 2 := by decide +kernel

/-- A descriptor error before the third, a length that does not match, and a long sync off the grid. -/
theorem witness_BlockEndDecides_errors :
    (blockDescriptor (some .r48) (((blockEnding63 badFrames 1).links.get 8).reading ++ [rawFrame (zeroLinkFrame false)]) = none ∧
      ((blockEnding63 badFrames 1).links.get 8).errorRun < 2 ∧
      ((blockEnding63 badFrames 1).links.get 8).lastGood = some stereoDescriptor ∧ stereoDescriptor.format = .pcm) ∧
    (((blockEnding63 stereoFrames 0).links.get 8).rate = some .r48 ∧
      Rate.isMatch (((blockEnding63 stereoFrames 0).links.get 8).blockTicks + { zeroLinkFrame false with ticks := 700 }.ticks)
        .r48 = false) ∧
    ((blockEnding63 badFrames 0).links.get 8).reading ≠ [] ∧ (zeroLinkFrame true).longSync = true := by decide +kernel

/-- The 64th frame of a block in each state that reads blocks. -/
theorem witness_BlockEndDecides_linkFrame :
    ∀ st ∈ [LinkState.locked, .alignRead, .recoverRead], ((linkAt st 0 none badFrames).links.get 8).state = st ∧
      ((linkAt st 0 none badFrames).links.get 8).reading.length = 63 := by decide +kernel

/-- Frames whose S bits carry the given descriptor bytes; all mantissas are zero. -/
def framesOf (bytes : List Nat) : List RawFrame :=
  (List.range 63).map fun k =>
    sFrame ((bytes.getD (k / 4) 0).testBit (7 - 2 * (k % 4))) ((bytes.getD (k / 4) 0).testBit (6 - 2 * (k % 4)))

/-- Descriptors of BSF blocks of FL and FR at 48 kHz with sequence number 2: with the checksum 0 of zero mantissas, with another
checksum, and with an exponent of 9. -/
def bsfBytes : List Nat := [0xC6, 0x50, 0xC0, 0, 2, 0, 0, 0, 0, 0, 0, 0, 0, 0, 0, 0x28]
/-- See `bsfBytes`. -/
def bsfFailing : List Nat := [0xC6, 0x50, 0xC0, 0, 2, 0, 0, 0, 0, 0, 0, 0, 0, 0, 4, 0x24]
/-- See `bsfBytes`. -/
def bsfOutOfRange : List Nat := [0xC6, 0x50, 0xC0, 0, 2, 0x90, 0, 0, 0, 0, 0, 0, 0, 0, 0, 0x98]

/-- A unit on link 8. -/
def unitOn (st : UnitState) (mark : Bool) : DecodeUnit :=
  { DecodeUnit.reset with
    state := st, link := some 8, mark := mark
    store := if mark then some { frames := [byPos fun _ => 5], vals := stereoDescriptor.vals } else none }

/-- A BSF link in LOCKED that has read 63 frames, served by DU1, to which ZONE3 is attached. -/
def bsfEnding (bytes : List Nat) (st : UnitState) (mark : Bool) : State :=
  { playing with
    zones := setAt playing.zones 2 { playing.zones.get 2 with decode := .attached 1, mutes := { Mutes.clear with decode := true } }
    links := setAt base.links 8 { base.links.get 8 with
      state := .locked, rate := some .r48, reading := framesOf bytes, blockTicks := 63 * 512
      lastGood := some { stereoDescriptor with format := .bsf } }
    units := setAt base.units 1 (unitOn st mark) }

/-- The mantissas of the block that ends. -/
def endingMantissas (bytes : List Nat) (s : State) : List MantissaFrame :=
  (readMantissas (descriptorFields bytes).map (s.links.get 8).hold ((s.links.get 8).reading ++ [rawFrame (zeroLinkFrame false)])).1

/-- The hypotheses that all clauses on a unit share. -/
theorem witness_BlockEndDecides_unit :
    ∀ bytes ∈ [bsfBytes, bsfFailing, bsfOutOfRange], ∀ s ∈ [bsfEnding bytes .running true, bsfEnding bytes .syncing false],
      (s.links.get 8).reading.length = 63 ∧ (s.links.get 8).rate = some .r48 ∧ (s.links.get 8).delivery = none ∧
      Rate.isMatch ((s.links.get 8).blockTicks + (zeroLinkFrame false).ticks) .r48 = true ∧
      blockDescriptor (some .r48) ((s.links.get 8).reading ++ [rawFrame (zeroLinkFrame false)]) = some (descriptorFields bytes) ∧
      (descriptorFields bytes).format = .bsf ∧ (s.links.get 8).lastGood.map (·.format) = some .bsf ∧ servingUnit s 8 = some 1 ∧
      ((s.zones.get 0).power = .standby → (s.zones.get 0).decode = .none) := by decide +kernel

/-- What tells the clauses on a unit apart. -/
theorem witness_BlockEndDecides_unitClauses :
    blockSum (descriptorFields bsfBytes) (endingMantissas bsfBytes (bsfEnding bsfBytes .running true)) =
      (descriptorFields bsfBytes).checksum ∧
    blockSum (descriptorFields bsfFailing) (endingMantissas bsfFailing (bsfEnding bsfFailing .running true)) ≠
      (descriptorFields bsfFailing).checksum ∧
    (unitOn .running true).store = some { frames := [byPos fun _ => 5], vals := stereoDescriptor.vals } ∧
    (unitOn .running false).mark = false ∧ (unitOn .syncing false).state = .syncing ∧
    ((presentList (descriptorFields bsfBytes).map).filter fun p =>
      decide (9 ≤ ((descriptorFields bsfBytes).expo1.get p).toNat)).length = 0 ∧
    ((presentList (descriptorFields bsfOutOfRange).map).filter fun p =>
      decide (9 ≤ ((descriptorFields bsfOutOfRange).expo1.get p).toNat)).length ≠ 0 := by decide +kernel

/-- R42 and R46: concealed after a good block, silenced after a bad one, and out of SYNCING with the first that qualifies. -/
theorem test_unit_takes_block :
    ((after (.blockEnd 8 (zeroLinkFrame false)) (bsfEnding bsfFailing .running true)).units.get 1).concealed = 1 ∧
    ((after (.blockEnd 8 (zeroLinkFrame false)) (bsfEnding bsfFailing .running false)).units.get 1).silenced = 1 ∧
    ((after (.blockEnd 8 (zeroLinkFrame false)) (bsfEnding bsfBytes .syncing false)).units.get 1).state = .running ∧
    ((after (.blockEnd 8 (zeroLinkFrame false)) (bsfEnding bsfOutOfRange .syncing false)).units.get 1).state = .syncing := by
  decide +kernel

/-- A link whose last good descriptor is of another format than the block that ends, with ZONE3 on it in a clock mode. -/
def reformatted (bytes : List Nat) (m : ClockMode) (rate : Rate) (path : Path) : State :=
  { blockEnding63 (framesOf bytes) 0 with zones := setAt playing.zones 2 { playing.zones.get 2 with
      path := path, clockMode := m, clockInEffect := m, rate := rate } }

/-- The descriptor of `bsfBytes` with format 2. -/
def zeroBytes : List Nat := [0xC6, 0x90, 0xC0, 0, 2, 0, 0, 0, 0, 0, 0, 0, 0, 0, 0, 0xE8]

theorem witness_BlockEndDecides_format :
    ∀ bytes ∈ [bsfBytes, zeroBytes], ∀ c ∈ [(ClockMode.follow, Rate.r48, Sys2Proof.Machine.Path.playing), (.follow, .r44, .fading),
        (.local44, .r44, .filling)], ∀ s ∈ [reformatted bytes c.1 c.2.1 c.2.2],
      (s.links.get 8).state = .locked ∧ (s.links.get 8).reading.length = 63 ∧ (s.links.get 8).rate = some .r48 ∧
      Rate.isMatch ((s.links.get 8).blockTicks + (zeroLinkFrame false).ticks) .r48 = true ∧
      blockDescriptor (some .r48) ((s.links.get 8).reading ++ [rawFrame (zeroLinkFrame false)]) = some (descriptorFields bytes) ∧
      (s.links.get 8).lastGood.map (·.format) ≠ some (descriptorFields bytes).format ∧ (s.zones.get 2).link = some 8 ∧
      (s.zones.get 2).power.isBound = true ∧ ((s.zones.get 2).clockInEffect = .follow →
        (s.zones.get 2).rate = .r48 ∨ ((s.zones.get 2).power ≠ .starting ∧ (s.zones.get 2).path = .fading)) := by decide +kernel

/-- R71: a change from PCM to format 2 sets FORMAT, one to BSF does not, and the zone goes on PLAYING. -/
theorem test_format_change :
    ((after (.blockEnd 8 (zeroLinkFrame false)) (reformatted zeroBytes .follow .r48 .playing)).zones.get 2).mutes.format = true ∧
    ((after (.blockEnd 8 (zeroLinkFrame false)) (reformatted bsfBytes .follow .r48 .playing)).zones.get 2).mutes.format = false ∧
    ((after (.blockEnd 8 (zeroLinkFrame false)) (reformatted zeroBytes .follow .r48 .playing)).zones.get 2).path = .playing := by
  decide +kernel

/-- `bsfEnding` with no sync byte in its block, after one descriptor error. -/
def withheld : State :=
  { bsfEnding bsfBytes .running true with links := setAt base.links 8 { (bsfEnding bsfBytes .running true).links.get 8 with
      reading := badFrames, errorRun := 1 } }

theorem witness_BlockEndDecides_withheld :
    (withheld.links.get 8).state = .locked ∧ (withheld.links.get 8).reading.length = 63 ∧ (zeroLinkFrame false).longSync = false ∧
    (withheld.links.get 8).rate = some .r48 ∧
    Rate.isMatch ((withheld.links.get 8).blockTicks + (zeroLinkFrame false).ticks) .r48 = true ∧
    blockDescriptor (some .r48) ((withheld.links.get 8).reading ++ [rawFrame (zeroLinkFrame false)]) = none ∧
    (withheld.links.get 8).errorRun < 2 ∧
    (withheld.links.get 8).lastGood = some { stereoDescriptor with format := .bsf } ∧
    ({ stereoDescriptor with format := .bsf } : Descriptor).format = .bsf ∧ (withheld.links.get 8).delivery = none ∧
    servingUnit withheld 8 = some 1 ∧ (withheld.units.get 1).state ≠ .free := by decide +kernel

/-- R10, R43: at a withheld block the unit hands out zeros, and the link stays in LOCKED. -/
theorem test_withheld :
    ((after (.linkFrame 8 (zeroLinkFrame false)) withheld).units.get 1).owed = true ∧
    ((after (.linkFrame 8 (zeroLinkFrame false)) withheld).units.get 1).mark = false ∧
    ((after (.linkFrame 8 (zeroLinkFrame false)) withheld).links.get 8).state = .locked := by decide +kernel

/-- Two descriptors in sequence in ALIGN, the first of a run in ALIGN, and one good descriptor in RECOVER. -/
def bsfReading (st : LinkState) (candidate : Option (BitVec 4)) : State :=
  linked 8 fun r =>
    { r with state := st, rate := some .r48, candidate := candidate
             reading := framesOf bsfBytes ++ (if st = .alignRead then [rawFrame (zeroLinkFrame false)] else []) }

theorem witness_LinkAcquisition_lock :
    (((bsfReading .alignRead (some 1)).links.get 8).reading.length = 64 ∧ 49 ≤ (zeroLinkFrame true).fsHigh ∧
      blockDescriptor (some .r48) ((bsfReading .alignRead (some 1)).links.get 8).reading = some (descriptorFields bsfBytes) ∧
      ((bsfReading .alignRead (some 1)).links.get 8).candidate = some ((descriptorFields bsfBytes).seq - 1) ∧
      ((bsfReading .alignRead none).links.get 8).candidate ≠ some ((descriptorFields bsfBytes).seq - 1)) ∧
    ((bsfReading .recoverRead none).links.get 8).reading.length = 63 ∧ (zeroLinkFrame false).fsHigh < 49 ∧
    blockDescriptor (some .r48) (((bsfReading .recoverRead none).links.get 8).reading ++ [rawFrame (zeroLinkFrame false)]) =
      some (descriptorFields bsfBytes) := by decide +kernel

/-- `bsfReading` or another state with ZONE3 on link 8, in a clock mode at an output rate. -/
def clocked (s : State) (m : ClockMode) (rate : Rate) (power : Power) (path : Path) (qr : Option Int) : State :=
  { s with zones := setAt playing.zones 2 { playing.zones.get 2 with
      power := power, path := path, qr := qr, clockMode := m, clockInEffect := m, rate := rate
      clockState := if m = .follow then .lockedToSource else .localClock } }

/-- A bound zone on a link that locks from ALIGN or RECOVER, in LOCAL, in FOLLOW at the link's rate, and in FOLLOW at another. -/
theorem witness_zoneAtLock :
    ∀ st ∈ [LinkState.alignRead, .recoverRead],
      (∀ m ∈ [ClockMode.local48, .local44, .follow], ∀ s ∈ [clocked (bsfReading st (some 1)) m .r48 .on .playing (some (-40))],
        (s.zones.get 2).link = some 8 ∧ (s.zones.get 2).power.isBound = true ∧ (s.zones.get 2).clockInEffect = m ∧
        (s.links.get 8).rate = some (s.zones.get 2).rate) ∧
      (∀ path ∈ [Sys2Proof.Machine.Path.playing, .fading],
        ∀ s ∈ [clocked (bsfReading st (some 1)) .follow .r44 .rampDown path (some (-40))],
        (s.links.get 8).rate ≠ some (s.zones.get 2).rate ∧ (s.zones.get 2).power ≠ .starting ∧ (s.zones.get 2).path = path ∧
        (s.zones.get 2).qr ≠ none) ∧
      ∀ path ∈ [Sys2Proof.Machine.Path.idle, .filling, .playing],
        ∀ s ∈ [clocked (bsfReading st (some 1)) .follow .r44 .on path none],
        (s.links.get 8).rate ≠ some (s.zones.get 2).rate ∧ (s.zones.get 2).path = path ∧ (s.zones.get 2).qr = none := by
  decide +kernel

/-- R78 at the entry to LOCKED at 48 kHz: LOCKED_TO_SOURCE at an equal rate, a fade in HOLDOVER at another, or a binding at the new
rate with an empty buffer but for the frame that has come since; R79: LOCAL44 carries RATE_MISMATCH. -/
theorem test_lock_clocks :
    (∀ c ∈ [(LinkState.alignRead, true), (.recoverRead, false)],
      (((after (.linkFrame 8 (zeroLinkFrame c.2))
          (clocked (bsfReading c.1 (some 1)) .follow .r48 .on .playing (some (-40)))).zones.get 2).clockState = .lockedToSource) ∧
      (((after (.linkFrame 8 (zeroLinkFrame c.2))
          (clocked (bsfReading c.1 (some 1)) .follow .r44 .on .playing (some (-40)))).zones.get 2).path = .fading) ∧
      (((after (.linkFrame 8 (zeroLinkFrame c.2))
          (clocked (bsfReading c.1 (some 1)) .follow .r44 .on .playing (some (-40)))).zones.get 2).rate = .r44) ∧
      (((after (.linkFrame 8 (zeroLinkFrame c.2))
          (clocked (bsfReading c.1 (some 1)) .follow .r44 .on .filling none)).zones.get 2).rate = .r48) ∧
      ((after (.linkFrame 8 (zeroLinkFrame c.2))
          (clocked (bsfReading c.1 (some 1)) .local44 .r44 .on .playing none)).zones.get 2).mutes.rateMismatch = true) := by
  decide +kernel

/-- Bound zones in each clock mode on a link that leaves LOCKED. -/
theorem witness_zonesOffLock :
    ∀ m ∈ [ClockMode.follow, .local48, .local44],
      ((clocked (linkIn .locked) m .r44 .on .playing none).zones.get 2).link = some 8 ∧
      ((clocked (linkIn .locked) m .r44 .on .playing none).zones.get 2).power.isBound = true ∧
      ((clocked (linkIn .locked) m .r44 .on .playing none).zones.get 2).clockInEffect = m := by decide +kernel

/-- ZONE3 on link 8 in a power state, with an auto-standby setting of 5 minutes whose countdown runs as R82 has it, and the monitor of
the link in a state. -/
def attending (a : Activity) (p : Power) : State :=
  { sensed 8 a with
    links := (linkIn .locked).links
    zones := setAt playing.zones 2 { playing.zones.get 2 with
      power := p, autoStandby := 5, startTimer := some (ended 150)
      countdown := if p = .on ∧ a ≠ .active then some (ended 300000) else none } }

theorem witness_zonesOffLock_countdown :
    (∀ a ∈ [Activity.active, .noLink, .silent], ∀ p ∈ [Power.on, .rampDown], ((attending a p).zones.get 2).link = some 8 ∧
      ((attending a p).monitors.get 8).state = a ∧ ((attending a p).zones.get 2).power = p ∧
      ((attending a p).zones.get 2).power.isBound = true) ∧
    ((attending .silent .on).links.get 8).delivery = none ∧ 0 < ((attending .active .on).zones.get 2).autoStandby ∧
    ranOut ((attending .active .on).links.get 8).lossTimer (attending .active .on).ms := by decide +kernel

/-- R82: the countdown starts when the link leaves LOCKED with an ACTIVE monitor and when the quiet timer or the start timer expires,
goes on when the monitor was SILENT, and stops at the entry to ACTIVE. -/
theorem test_countdown :
    ((after (.lossOfSignal 8) (attending .active .on)).zones.get 2).countdown = some (newTimer 0 300000) ∧
    ((after (.lossOfSignal 8) (attending .silent .on)).zones.get 2).countdown = some (ended 300000) ∧
    ((after (.quietTimerExpiry 8) (attending .active .on)).zones.get 2).countdown = some (newTimer 0 300000) ∧
    ((after (.startTimerExpiry 2) (attending .silent .starting)).zones.get 2).countdown = some (newTimer 0 300000) ∧
    ((after (.startTimerExpiry 2) (attending .active .starting)).zones.get 2).countdown = none ∧
    ((after (.monitorActive 8) (attending .silent .on)).zones.get 2).countdown = none := by decide +kernel

/-- R78, R79: at a third error HOLDOVER in FOLLOW, and RATE_MISMATCH in LOCAL44 by the rate that RECOVER keeps; a loss of signal
ends it. -/
theorem test_offLock_clocks :
    ((after (.descriptorErrorRun 8 (zeroLinkFrame false))
      (clocked (blockEnding63 badFrames 2) .follow .r48 .on .playing none)).zones.get 2).clockState = .holdover ∧
    ((after (.descriptorErrorRun 8 (zeroLinkFrame false))
      (clocked (blockEnding63 badFrames 2) .local44 .r44 .on .playing none)).zones.get 2).mutes.rateMismatch = true ∧
    ((after (.lossOfSignal 8) (clocked (linkIn .locked) .local44 .r44 .on .playing none)).zones.get 2).mutes.rateMismatch = false ∧
    ((after (.lossOfSignal 8) (clocked (linkIn .locked) .follow .r44 .on .playing none)).zones.get 2).mutes.noSignal = true := by
  decide +kernel

/-- `delivering` for a block of format 2 on a link of that format. -/
def deliveringZeros (fs : List RawFrame) : State :=
  { delivering fs with links := setAt base.links 8 { (delivering fs).links.get 8 with
      lastGood := some { stereoDescriptor with format := .unsupported2 }
      delivery := some { desc := { stereoDescriptor with format := .unsupported2 }, frames := fs }
      reading := badFrames.take (64 - fs.length) } }

/-- The last frame of a block of format 2, with a block in error after it. -/
theorem witness_LockedDeliversPcm_zeros :
    ∀ s ∈ [deliveringZeros [evenFrame]],
      (s.links.get 8).state = .locked ∧
      (s.links.get 8).delivery = some { desc := { stereoDescriptor with format := .unsupported2 }, frames := [evenFrame] } ∧
      [evenFrame].length + (s.links.get 8).reading.length = 64 ∧ servingUnit s 8 = none ∧ (s.zones.get 2).link = some 8 ∧
      Rate.isMatch ((s.links.get 8).blockTicks + (zeroLinkFrame false).ticks) .r48 = true ∧
      (s.links.get 8).lastGood.map (·.format) = some .unsupported2 ∧ (s.links.get 8).errorRun < 2 ∧
      blockDescriptor (some .r48) ((s.links.get 8).reading ++ [rawFrame (zeroLinkFrame false)]) = none := by decide +kernel

/-- R2, R5, R10: two present channels with parity errors count 2, and a frame that is not well formed 1, as it arrives; format 2
delivers zeros and counts no parity error. -/
theorem test_code_errors :
    oddFrame.parityErrors 0xC0 = 2 ∧ brokenFrame.parityErrors 0xC0 = 0 ∧
    ((after (.linkFrame 8 (zeroLinkFrame false)) (delivering [oddFrame])).links.get 8).counters.code.total = 2 ∧
    ((after (.linkFrame 8 { data := [], fsHigh := 1, ticks := 512 }) (delivering [brokenFrame, evenFrame])).links.get 8).counters.code.total
      = 1 ∧
    ((after (.linkFrame 8 (zeroLinkFrame false)) (deliveringZeros [oddFrame])).links.get 8).counters.code.total = 0 ∧
    ((after (.linkFrame 8 (zeroLinkFrame false)) (deliveringZeros [evenFrame])).zones.get 2).buffer.map (·.samples) =
      [byPos fun _ => 0] := by decide +kernel

/-- A link in RECOVER whose last good descriptor is PCM or BSF, with ZONE3 on it, attached to DU1 or waiting. -/
def recovering (fmt : Format) (st : LinkState) (pos : DecodePos) : State :=
  { bsfEnding bsfBytes .running false with
    zones := setAt playing.zones 2 { playing.zones.get 2 with decode := pos }
    links := setAt base.links 8 { (bsfReading st none).links.get 8 with lastGood := some { stereoDescriptor with format := fmt } } }

/-- A frame in RECOVER that locks the link, for a zone at the link's rate, and one that does not; and those of a BSF link. -/
theorem witness_LockedDeliversPcm_recover :
    (∀ s ∈ [recovering .pcm .recoverRead .none],
      (s.links.get 8).state.isRecover = true ∧ (s.links.get 8).lastGood = some stereoDescriptor ∧ stereoDescriptor.format ≠ .bsf ∧
      (s.zones.get 2).link = some 8 ∧ (s.zones.get 2).power.isBound = true ∧ (s.zones.get 2).path ≠ .idle ∧
      (s.zones.get 2).buffer.length < 128 ∧
      ((s.links.get 8).state = .recoverRead ∧ (zeroLinkFrame false).fsHigh < 49 ∧ (s.links.get 8).reading.length = 63 ∧
        blockDescriptor (s.links.get 8).rate ((s.links.get 8).reading ++ [rawFrame (zeroLinkFrame false)]) ≠ none) ∧
      (s.links.get 8).rate = some (s.zones.get 2).rate ∧ ¬(zeroLinkFrame true).fsHigh < 49) ∧
    ∀ s ∈ [recovering .bsf .recoverSeek (.attached 1)],
      (s.links.get 8).state = .recoverSeek ∧ (s.links.get 8).lastGood = some { stereoDescriptor with format := .bsf } ∧
      servingUnit s 8 = some 1 ∧ (s.units.get 1).state ≠ .free ∧ (s.units.get 1).output = [] ∧
      (s.zones.get 2).decode = .attached 1 ∧ servingUnit { s with units := base.units } 8 = none := by decide +kernel

/-- R16, R43: one zero frame reaches the bound zone of a PCM link and the attached zone of a BSF link, and none a waiting zone. -/
theorem test_recover_zeros :
    ((after (.linkFrame 8 (zeroLinkFrame true)) (recovering .pcm .recoverSeek .none)).zones.get 2).buffer =
      [{ samples := byPos fun _ => 0, vals := none }] ∧
    ((after (.linkFrame 8 (zeroLinkFrame false)) (recovering .pcm .recoverRead .none)).zones.get 2).buffer.length = 1 ∧
    ((after (.linkFrame 8 (zeroLinkFrame true)) (recovering .bsf .recoverSeek (.attached 1))).zones.get 2).buffer.length = 1 ∧
    ((after (.linkFrame 8 (zeroLinkFrame true)) (recovering .bsf .recoverSeek .waiting)).zones.get 2).buffer = [] := by
  decide +kernel

/-- A BSF frame handed on by a unit, to a zone that plays, with the first frame of a block and with the last; the unit holds no
block in output. -/
theorem witness_LockedDeliversPcm_bsf :
    ∀ s ∈ [{ bsfEnding bsfBytes .running true with
        links := setAt base.links 8 { base.links.get 8 with state := .locked, rate := some .r48 } },
        bsfEnding bsfBytes .running true],
      (s.links.get 8).state = .locked ∧ (s.links.get 8).delivery = none ∧ (s.links.get 8).reading.length ≤ 63 ∧
      (zeroLinkFrame false).longSync = false ∧ servingUnit s 8 = some 1 ∧
      (s.units.get 1).state ≠ .free ∧ (s.zones.get 2).decode = .attached 1 ∧ (s.zones.get 2).link = some 8 ∧
      (s.zones.get 2).power.isBound = true ∧ (s.zones.get 2).path = .playing ∧ (s.zones.get 2).buffer.length < 128 ∧
      (s.zones.get 0).decode = .none ∧
      ((s.links.get 8).reading.length = 63 → (s.links.get 8).lastGood.map (·.format) = some .bsf ∧
        blockDescriptor (some .r48) ((s.links.get 8).reading ++ [rawFrame (zeroLinkFrame false)]) =
          some (descriptorFields bsfBytes)) := by
  decide +kernel

/-- A SILENT monitor on link 8, and S8 and S15 with auto-on. -/
def listening : State :=
  let early := setAt base.sources 8 { base.sources.get 8 with autoOn := true }
  { sensed 8 .silent with sources := setAt early 15 { base.sources.get 15 with input := some 8, autoOn := true } }

theorem witness_MonitorEvents :
    ((sensed 8 .silent).monitors.get 8).state = .silent ∧ ((sensed 8 .active).monitors.get 8).state = .active ∧
    ((listening.monitors.get 8).state = .silent ∧ (listening.zones.get 0).power = .standby ∧
      (listening.sources.get 8).input = some 8 ∧ (listening.sources.get 8).autoOn = true ∧
      ∀ j : SrcId, j < 8 → ¬((listening.sources.get j).input = some 8 ∧ (listening.sources.get j).autoOn = true)) ∧
    ((sensed 8 .silent).zones.get 0).power = .standby ∧
    ∀ j : SrcId, ¬(((sensed 8 .silent).sources.get j).input = some 8 ∧ ((sensed 8 .silent).sources.get j).autoOn = true) := by
  decide +kernel

/-- The monitor of the link that ZONE3 plays: MAIN does not take the offer in DRAIN, and the countdown of ZONE3 stops and starts. -/
theorem witness_MonitorEvents_countdown :
    (∀ s ∈ [{ attending .silent .on with zones := setAt (attending .silent .on).zones 0 { base.zones.get 0 with power := .drain } }],
      (s.monitors.get 8).state = .silent ∧ (s.zones.get 0).power ≠ .standby ∧ (s.zones.get 2).link = some 8) ∧
    ((attending .active .on).monitors.get 8).state = .active ∧
    ranOut ((attending .active .on).monitors.get 8).quietTimer (attending .active .on).ms ∧
    ((attending .active .on).zones.get 2).link = some 8 ∧ ((attending .active .on).zones.get 2).power = .on ∧
    0 < ((attending .active .on).zones.get 2).autoStandby := by decide +kernel

/-- A frame of even parity with V 1, with a sample in slot 0 and 0 in the others. -/
def levelFrame (v : BitVec 24) : RawFrame :=
  { wellFormed := true
    slots := Vector.ofFn fun n =>
      let w : Slot := (if n = 0 then v else 0) ++ (0x80 : BitVec 8)
      if parityError w then w ^^^ 1 else w }

/-- `delivering` with the monitor of link 8 as given. -/
def monitored (fs : List RawFrame) (m : Monitor) : State := { delivering fs with monitors := setAt base.monitors 8 m }

/-- A SILENT monitor with a run, which has taken its block from the first frame or not, with or without a loud frame. -/
def inBlock (run : Nat) (whole loud : Bool) : Monitor :=
  { base.monitors.get 8 with state := .silent, run := run, whole := whole, loud := loud }

/-- A sample of magnitude 256 in FL makes the frame non-silent and one of 255 does not; the hypotheses of the last frame, with a
good block after it and with a block in error; and those of the first frame and of the one before the last. -/
theorem witness_MonitorEvents_frame :
    (∀ s ∈ [monitored [levelFrame 256] (inBlock 7 true false)],
      (s.links.get 8).state = .locked ∧ [levelFrame 256].length + (s.links.get 8).reading.length = 64 ∧
      (zeroLinkFrame false).longSync = false ∧ (s.links.get 8).rate = some .r48 ∧
      (s.links.get 8).delivery = some { desc := stereoDescriptor, frames := levelFrame 256 :: [] } ∧
      Rate.isMatch ((s.links.get 8).blockTicks + (zeroLinkFrame false).ticks) .r48 = true ∧
      blockDescriptor (some .r48) ((s.links.get 8).reading ++ [rawFrame (zeroLinkFrame false)]) = some stereoDescriptor ∧
      (s.links.get 8).errorRun < 2 ∧ (s.links.get 8).lastGood = some stereoDescriptor) ∧
    blockDescriptor (some .r48) (badFrames ++ [rawFrame (zeroLinkFrame false)]) = none ∧
    ((zeroLinkFrame true).longSync = true ∧
      ((monitored (levelFrame 256 :: List.replicate 63 evenFrame) (inBlock 7 false true)).links.get 8).reading = [] ∧
      [levelFrame 256, evenFrame].length +
        ((monitored [levelFrame 256, evenFrame] (inBlock 7 true false)).links.get 8).reading.length = 64) ∧
    (stereoDescriptor.format = .pcm ∧ present stereoDescriptor.map posFL = true ∧
      256 ≤ (((readSlots 0 (pcmSlot (levelFrame 256)) stereoDescriptor.map (playing.links.get 8).hold).1).get posFL).toInt.natAbs) ∧
    (¬∃ p, present stereoDescriptor.map p = true ∧
      256 ≤ (((readSlots 0 (pcmSlot (levelFrame 255)) stereoDescriptor.map (playing.links.get 8).hold).1).get p).toInt.natAbs) ∧
    ((sensed 8 .active).monitors.get 8).state = .active ∧ (base.monitors.get 8).state = .noLink := by decide +kernel

/-- R31 and R32 at the last frame of a block: loud at 256, at the eighth ACTIVE; quiet at 255; not judged when partly taken. -/
theorem test_monitor_frames :
    ((after (.linkFrame 8 (zeroLinkFrame false)) (monitored [levelFrame 256] (inBlock 7 true false))).monitors.get 8).state = .active ∧
    ((after (.blockEnd 8 (zeroLinkFrame false)) (monitored [levelFrame 255] (inBlock 6 true true))).monitors.get 8).run = 7 ∧
    ((after (.linkFrame 8 (zeroLinkFrame false)) (monitored [levelFrame 255] (inBlock 7 true false))).monitors.get 8).run = 0 ∧
    ((after (.linkFrame 8 (zeroLinkFrame false)) (monitored [levelFrame 256] (inBlock 3 false false))).monitors.get 8).run = 3 := by
  decide +kernel

/-- R33: a non-silent frame restarts the quiet timer and a silent one does not. -/
theorem test_quiet_restart :
    ((after (.linkFrame 8 (zeroLinkFrame false)) (monitored [levelFrame 256, evenFrame]
      ((sensed 8 .active).monitors.get 8))).monitors.get 8).quietTimer = some (newTimer 0 1000) ∧
    ((after (.linkFrame 8 (zeroLinkFrame false)) (monitored [levelFrame 255]
      ((sensed 8 .active).monitors.get 8))).monitors.get 8).quietTimer = some (ended 1000) := by decide +kernel

/-- The 63 frames of `bsfBytes` with slot 0 of the first as given: 0x01000040 is a mantissa of 256 and 0x00FF0041 one of 255. -/
def mantissaFrames (w : Slot) : List RawFrame :=
  { wellFormed := true, slots := #v[w, 0x40, 0, 0, 0, 0, 0, 0] } :: (framesOf bsfBytes).drop 1

/-- A BSF link at the end of a block, with the monitor of the link as given. -/
def bsfMonitored (fs : List RawFrame) (errorRun : Nat) (m : Monitor) : State :=
  { bsfEnding bsfBytes .running true with
    links := setAt base.links 8 { (bsfEnding bsfBytes .running true).links.get 8 with reading := fs, errorRun := errorRun }
    monitors := setAt base.monitors 8 m }

/-- The hypotheses of the block end, with a good descriptor and with one in error. -/
theorem witness_MonitorEvents_block :
    (∀ s ∈ [bsfMonitored (mantissaFrames 0x01000040) 0 (inBlock 7 true true)],
      (s.links.get 8).state = .locked ∧ (s.links.get 8).reading.length = 63 ∧ (zeroLinkFrame false).longSync = false ∧
      (s.links.get 8).rate = some .r48 ∧ Rate.isMatch ((s.links.get 8).blockTicks + (zeroLinkFrame false).ticks) .r48 = true ∧
      (s.links.get 8).delivery = none ∧ s.monitors.get 8 = inBlock 7 true true ∧ (descriptorFields bsfBytes).format = .bsf ∧
      blockDescriptor (some .r48) ((s.links.get 8).reading ++ [rawFrame (zeroLinkFrame false)]) = some (descriptorFields bsfBytes)) ∧
    (((bsfMonitored badFrames 1 (inBlock 7 true true)).links.get 8).errorRun < 2 ∧
      blockDescriptor (some .r48) (badFrames ++ [rawFrame (zeroLinkFrame false)]) = none) := by decide +kernel

/-- R31 and R32 at the end of a BSF block, with a first mantissa of 256 or 255 at an exponent of 0 and the others 0: the eighth
loud block, the seventh, a quiet one, and a withheld one. -/
theorem test_monitor_blocks :
    ((after (.blockEnd 8 (zeroLinkFrame false))
      (bsfMonitored (mantissaFrames 0x01000040) 0 (inBlock 7 true true))).monitors.get 8).state = .active ∧
    ((after (.linkFrame 8 (zeroLinkFrame false))
      (bsfMonitored (mantissaFrames 0x01000040) 0 (inBlock 6 true true))).monitors.get 8).run = 7 ∧
    ((after (.blockEnd 8 (zeroLinkFrame false))
      (bsfMonitored (mantissaFrames 0x00FF0041) 0 (inBlock 7 true true))).monitors.get 8).run = 0 ∧
    ((after (.blockEnd 8 (zeroLinkFrame false)) (bsfMonitored badFrames 1 (inBlock 7 true true))).monitors.get 8).run = 0 := by
  decide +kernel

theorem witness_SetSourceEffect :
    Ready base .cpa ∧ (15 : Byte).toNat = (15 : SrcId).1 ∧ orNone 9 255 = some none ∧ yesNo 1 = some true ∧
    surroundModes[(3 : Byte).toNat]? = some .upmix ∧
    ((∀ z, (base.zones.get z).power.isBound = true → (base.zones.get z).bound ≠ some 15) ∧
    (playing.zones.get 2).power = .on ∧ (playing.zones.get 2).bound = some 8 ∧ (playing.zones.get 2).path = .playing ∧
    (playing.zones.get 2).qr ≠ none) ∧ Ready playing .cpa ∧ orNone 9 8 = some (some 8) :=
  ⟨ready rfl .cpa, rfl, by decide, by decide, by decide, by decide, ready rfl .cpa, by decide⟩

/-- `playing` in a power state, on a path, with qr. -/
def playingIn (power : Power) (path : Path) (qr : Option Int) : State :=
  { playing with zones := setAt playing.zones 2 { playing.zones.get 2 with power := power, path := path, qr := qr } }

/-- The zones of the clauses: alone with the entry in RAMP_DOWN, in FADING, in STARTING, in FILLING, and with qr SILENT. -/
theorem witness_SetSourceEffect_zones :
    (∀ s ∈ [playingIn .rampDown .playing (some (-160)), playingIn .on .fading (some (-40)), playingIn .starting .playing none,
        playingIn .on .filling none, playingIn .on .playing none],
      (s.zones.get 2).bound = some 8 ∧ ∀ y : ZoneId, y ≠ 2 → (s.zones.get y).bound ≠ some 8) ∧
    (∀ z : ZoneId, ((playingIn .on .fading (some (-40))).zones.get z).power.isBound = true → z = 2) ∧
    Ready (playingIn .starting .playing none) .cpa :=
  ⟨by decide +kernel, by decide +kernel, ready rfl .cpa⟩

/-- R27, R68: an edit of the bound entry is taken at once in STARTING, and after the fade in RAMP_DOWN. -/
theorem test_setSource_rebinds :
    ((after (.setSource .cpa 1 [8, 5, 0, 0, 0, 0, 0, 0, 0]) (playingIn .starting .playing none)).zones.get 2).link = some 5 ∧
    ((after (.setSource .cpa 1 [8, 5, 0, 0, 0, 0, 0, 0, 0]) (playingIn .rampDown .playing (some (-160)))).zones.get 2).path =
      .fading ∧
    ((after (.setSource .cpa 1 [8, 5, 0, 0, 0, 0, 0, 0, 0]) (playingIn .rampDown .playing (some (-160)))).zones.get 2).link =
      some 8 := by decide +kernel

/-! ### Zones -/

/-- A zone in a power state with its timers running. -/
def powered (z : ZoneId) (p : Power) : State :=
  zoned z fun r =>
    { r with power := p, startTimer := some (ended 150), drainTimer := some (ended 50)
             countdown := some (ended 60000) }

theorem witness_VolumeAndMute :
    Ready base .cpa ∧ (2 : Byte).toNat = (2 : ZoneId).1 ∧
    (-160 : Int) = max (-160) (min 24 ((0x80 : Byte) ++ (0 : Byte)).toInt) ∧
    (24 : Int) = max (-160) (min 24 ((base.zones.get 2).qv + (0x7F : Byte).toInt)) ∧
    (1 : Byte) = (if true then 1 else 0) :=
  ⟨ready rfl .cpa, by decide +kernel⟩

theorem witness_SelectSourceEffect :
    (Ready base .cpb ∧ (2 : Byte).toNat = (2 : ZoneId).1 ∧ orNone 16 15 = some (some 15) ∧
      (base.zones.get 2).power = .standby ∧ (base.zones.get 2).tone.running = false) ∧
    ((powered 2 .drain).zones.get 2).power = .drain ∧
    Ready playing .cpb ∧ orNone 16 255 = some none ∧ (playing.zones.get 2).power = .on ∧
    (playing.zones.get 2).path = .playing ∧ (playing.zones.get 2).qr ≠ none ∧ (playing.zones.get 2).tone.running = false :=
  ⟨⟨ready rfl .cpb, by decide⟩, by decide, ready rfl .cpb, by decide⟩

/-- `playing` in another power and path state, with or without a gain and a running tone. -/
def playingAs (p : Power) (path : Sys2Proof.Machine.Path) (qr : Option Int) (tone : Bool) : State :=
  { playing with zones := setAt playing.zones 2 { playing.zones.get 2 with
      power := p, path := path, qr := qr, mutes := { Mutes.clear with tone := tone }
      tone := { (playing.zones.get 2).tone with running := tone } } }

theorem witness_SelectSourceEffect_rebinds :
    Ready playing .cpb ∧
    (∀ s ∈ [playingAs .starting .filling none false, playingAs .on .idle (some 0) false, playingAs .rampDown .filling none false,
        playingAs .on .playing none false],
      s.ports = base.ports ∧ ((s.zones.get 2).power = .starting ∨
        (((s.zones.get 2).power = .on ∨ (s.zones.get 2).power = .rampDown) ∧
          ((s.zones.get 2).path = .idle ∨ (s.zones.get 2).path = .filling ∨
            ((s.zones.get 2).path = .playing ∧ (s.zones.get 2).qr = none))))) ∧
    (((playingAs .rampDown .fading (some 0) false).zones.get 2).power = .rampDown ∧
      ((playingAs .rampDown .fading (some 0) false).zones.get 2).path = .fading ∧
      ((playingAs .rampDown .fading (some 0) false).zones.get 2).tone.running = false) ∧
    (((playingAs .on .fading (some 0) true).zones.get 2).power = .on ∧
      ((playingAs .on .fading (some 0) true).zones.get 2).path = .fading ∧
      ((playingAs .on .fading (some 0) true).zones.get 2).tone.running = true ∧
      ((playingAs .on .fading (some 0) true).zones.get 2).mutes.tone = true) ∧
    ((playingAs .on .playing (some 0) true).zones.get 2).power = .on ∧
    ((playingAs .on .playing (some 0) true).zones.get 2).path = .playing ∧
    ((playingAs .on .playing (some 0) true).zones.get 2).qr ≠ none ∧
    ((playingAs .on .playing (some 0) true).zones.get 2).tone.running = true ∧
    ((playingAs .on .playing (some 0) true).zones.get 2).mutes.tone = true :=
  ⟨ready rfl .cpb, by decide +kernel⟩

theorem witness_PowerOnEffect :
    (Ready base .cpb ∧ (2 : Byte).toNat = (2 : ZoneId).1 ∧ (base.zones.get 2).power = .standby ∧
      (base.zones.get 2).decode = .none) ∧
    (Ready (powered 2 .starting) .cpb ∧ ((powered 2 .starting).zones.get 2).power = .starting) ∧
    (Ready (powered 2 .on) .cpb ∧ ((powered 2 .on).zones.get 2).power = .on) ∧
    (Ready (powered 2 .rampDown) .cpb ∧ ((powered 2 .rampDown).zones.get 2).power = .rampDown ∧
      ((powered 2 .rampDown).zones.get 2).autoStandby = 0) ∧
    Ready (powered 2 .drain) .cpb ∧ ((powered 2 .drain).zones.get 2).power = .drain :=
  ⟨⟨ready rfl .cpb, by decide⟩, ⟨ready rfl .cpb, by decide⟩, ⟨ready rfl .cpb, by decide⟩, ⟨ready rfl .cpb, by decide⟩,
    ready rfl .cpb, by decide⟩

theorem witness_PowerOffEffect :
    (Ready base .cpa ∧ (2 : Byte).toNat = (2 : ZoneId).1 ∧ (base.zones.get 2).power = .standby) ∧
    (Ready (powered 2 .starting) .cpa ∧ ((powered 2 .starting).zones.get 2).power = .starting) ∧
    (Ready playing .cpa ∧ (playing.zones.get 2).power = .on ∧ (playing.zones.get 2).qr ≠ none) ∧
    (Ready (powered 2 .on) .cpa ∧ ((powered 2 .on).zones.get 2).power = .on ∧ ((powered 2 .on).zones.get 2).qr = none) ∧
    Ready (powered 2 .drain) .cpa ∧ ((powered 2 .drain).zones.get 2).power = .drain :=
  ⟨⟨ready rfl .cpa, by decide⟩, ⟨ready rfl .cpa, by decide⟩, ⟨ready rfl .cpa, by decide⟩, ⟨ready rfl .cpa, by decide⟩,
    ready rfl .cpa, by decide⟩

/-- A zone in STOPPING.DRAIN with restart-pending set. -/
def restarting : State := zoned 0 fun r => { r with power := .drain, drainTimer := some (ended 50), restart := some .portB }

/-- A zone in ON with its countdown running and a gain. -/
def countingDown : State := zoned 1 fun r => { r with power := .on, countdown := some (ended 60000), qr := some 24 }

/-- A zone in a power state that plays a link, in a decode position. -/
def playingLink (p : Power) (l : LinkId) (d : DecodePos) : Zone :=
  { playing.zones.get 2 with
    power := p, decode := d, qr := some (-160), copy := some { input := some l, trim := 0, lipSync := 0, mode := .auto } }

/-- Links 5, 6 and 7 carry BSF in LOCKED, and a wait list and two units are given. -/
def arbitrated (zones : Vector Zone 3) (waiters : List ZoneId) (d0 d1 : Option LinkId) : State :=
  let bsf (r : Link) : Link :=
    { r with state := .locked, rate := some .r48, lastGood := some { stereoDescriptor with format := .bsf } }
  let unit (l : Option LinkId) : DecodeUnit :=
    { DecodeUnit.reset with state := if l.isSome then .running else .free, link := l }
  { base with
    zones := zones, waitList := waiters
    links := setAt (setAt (setAt base.links 5 (bsf (base.links.get 5))) 6 (bsf (base.links.get 6))) 7 (bsf (base.links.get 7))
    units := setAt (setAt base.units 0 (unit d0)) 1 (unit d1) }

/-- MAIN on link 5 at DU0 alone, ZONE2 waiting for link 6, ZONE3 at DU1 on link 7. -/
def contended (p : Power) : State :=
  arbitrated #v[playingLink p 5 (.attached 0), playingLink .on 6 .waiting, playingLink .on 7 (.attached 1)] [1] (some 5) (some 7)

theorem witness_PowerOffEffect_waiters :
    Ready (contended .starting) .cpa ∧ ((contended .starting).zones.get 0).power = .starting ∧
    ((contended .rampDown).zones.get 0).power = .rampDown ∧ ((contended .rampDown).zones.get 0).qr = some (-160) ∧
    ∀ y : ZoneId, y ∈ (contended .starting).waitList → ((contended .starting).zones.get y).decode = .waiting :=
  ⟨ready rfl .cpa, by decide +kernel⟩

/-- `contended` with MAIN in STANDBY on an entry, and the units as given. -/
def asking (l : LinkId) (d0 d1 : Option LinkId) : State :=
  { arbitrated #v[{ base.zones.get 0 with selected := some 5 }, base.zones.get 1, base.zones.get 2] [] d0 d1 with
    sources := setAt base.sources 5 { base.sources.get 5 with input := some l, lipSync := 250000 } }

/-- A binding: attached to the unit that serves, to the lowest FREE one, waiting, with no position. -/
theorem witness_BindingObtains_bind :
    Ready (asking 5 none none) .cpa ∧ ((asking 5 none none).zones.get 0).power = .standby ∧
    ((asking 5 none none).zones.get 0).decode = .none ∧ ((asking 5 none none).zones.get 0).selected = some 5 ∧
    ((asking 5 none none).sources.get 5).input = some 5 ∧ ((asking 5 none none).links.get 5).state.carries = true ∧
    ((asking 5 none none).links.get 5).lastGood = some { stereoDescriptor with format := .bsf } ∧
    (((asking 5 (some 6) (some 5)).units.get 1).link = some 5 ∧
      ∀ v : UnitId, v < 1 → ((asking 5 (some 6) (some 5)).units.get v).link ≠ some 5) ∧
    ((∀ v : UnitId, ((asking 5 (some 6) none).units.get v).link ≠ some 5) ∧
      ((asking 5 (some 6) none).units.get 1).state = .free ∧
      ∀ v : UnitId, v < 1 → ((asking 5 (some 6) none).units.get v).state ≠ .free) ∧
    ((∀ v : UnitId, ((asking 5 (some 6) (some 7)).units.get v).link ≠ some 5) ∧
      ∀ v : UnitId, ((asking 5 (some 6) (some 7)).units.get v).state ≠ .free) ∧
    ((asking 4 none none).links.get 4).state.carries = false :=
  ⟨ready rfl .cpa, by decide +kernel⟩

/-- A lip-sync of 250,000 µs at 48 kHz for two speakers, when the others leave 24,000 words of the share, or one less. -/
def askingShare (words : Nat) : State :=
  let s := State.spoken (State.spoken (asking 5 none none) 0 0 posFL) 1 0 posFR
  { s with zones := setAt s.zones 2 { s.zones.get 2 with
      alloc := some { words := words, frames := words, micros := 0, limited := false } } }

theorem witness_BindingObtains_share :
    (zoneChannels (askingShare 169024).speakers 0).length = 2 ∧
    ((((askingShare 169024).sources.get 5).lipSync * 48000 + 500000) / 1000000) = 12000 ∧
    (2 * 12000 ≤ 193024 - ((zoneIds.filter fun y => decide (y ≠ 0)).map fun y =>
      (((askingShare 169024).zones.get y).alloc.map (·.words)).getD 0).sum) ∧
    (193024 - ((zoneIds.filter fun y => decide (y ≠ 0)).map fun y =>
      (((askingShare 169025).zones.get y).alloc.map (·.words)).getD 0).sum < 2 * 12000) := by decide +kernel

/-- R112 and R113 at the two sides of the limit, with 24,000 and 23,999 words free. -/
theorem test_lipSync_grant :
    ((after (.powerOn .cpa 1 [0]) (askingShare 169024)).zones.get 0).alloc =
      some { words := 24000, frames := 12000, micros := 250000, limited := false } ∧
    ((after (.powerOn .cpa 1 [0]) (askingShare 169025)).zones.get 0).alloc =
      some { words := 23998, frames := 11999, micros := 249979, limited := true } := by decide +kernel

/-- A release by the last zone of a unit with and without waiters, and by one of two zones. -/
theorem witness_BindingObtains_release :
    (Ready (contended .starting) .cpa ∧ ((contended .starting).zones.get 0).power = .starting ∧
      ((contended .starting).zones.get 0).decode = .attached 0 ∧
      (∀ y : ZoneId, y ∈ (contended .starting).waitList → ((contended .starting).zones.get y).decode = .waiting) ∧
      (∀ y : ZoneId, y ≠ 0 → ((contended .starting).zones.get y).decode ≠ .attached 0) ∧
      (contended .starting).waitList = 1 :: [] ∧ ((contended .starting).zones.get 1).link = some 6) ∧
    (∀ s ∈ [arbitrated #v[playingLink .starting 5 (.attached 0), base.zones.get 1, playingLink .on 5 (.attached 0)] [] (some 5) none],
      s.ports = base.ports ∧ (s.zones.get 0).power = .starting ∧ (s.zones.get 0).decode = .attached 0 ∧
      ∃ y : ZoneId, y ≠ 0 ∧ (s.zones.get y).decode = .attached 0) ∧
    ∀ s ∈ [arbitrated #v[playingLink .starting 5 (.attached 0), base.zones.get 1, base.zones.get 2] [] (some 5) none],
      s.waitList = [] ∧ ∀ y : ZoneId, y ≠ 0 → (s.zones.get y).decode ≠ .attached 0 :=
  ⟨⟨ready rfl .cpa, by decide +kernel⟩, by decide +kernel, by decide +kernel⟩

/-- A rebind on the same link, to a link that is not BSF, by a waiter to another link, and with a waiter behind the zone. -/
theorem witness_BindingObtains_rebind :
    Ready (contended .starting) .cpa ∧ (5 : Byte).toNat = (5 : SrcId).1 ∧
    (((contended .starting).zones.get 0).link = some 5 ∧ ((contended .starting).sources.get 5).input = some 5 ∧
      ((contended .starting).links.get 5).state.carries = true ∧
      ((contended .starting).links.get 5).lastGood = some { stereoDescriptor with format := .bsf } ∧
      ((contended .starting).zones.get 0).decode ≠ .none) ∧
    ((contended .starting).sources.get 4).input = some 4 ∧ ((contended .starting).links.get 4).state.carries = false ∧
    (∀ s ∈ [arbitrated #v[playingLink .starting 5 .waiting, playingLink .on 6 (.attached 0), playingLink .on 7 (.attached 1)] [0]
        (some 6) (some 7)],
      (s.zones.get 0).decode = .waiting ∧ (s.zones.get 0).link ≠ some 6 ∧ (s.sources.get 6).input = some 6) ∧
    (∀ s ∈ [arbitrated #v[playingLink .starting 4 .waiting, playingLink .on 6 (.attached 0), playingLink .on 7 (.attached 1)] [0]
        (some 6) (some 7)],
      s.ports = base.ports ∧ (s.zones.get 0).power = .starting ∧ (s.zones.get 0).decode = .waiting ∧
      (s.zones.get 0).link ≠ some 5 ∧ (s.sources.get 5).input = some 5 ∧ (s.links.get 5).state.carries = true ∧
      ∀ v : UnitId, (s.units.get v).link ≠ some 5 ∧ (s.units.get v).state ≠ .free) ∧
    ∀ s ∈ [arbitrated #v[playingLink .starting 4 (.attached 0), playingLink .on 6 .waiting, playingLink .on 7 (.attached 1)] [1]
        (some 4) (some 7)],
      s.ports = base.ports ∧ (s.zones.get 0).power = .starting ∧ (s.zones.get 0).decode = .attached 0 ∧
      (s.zones.get 0).link ≠ some 5 ∧ (s.sources.get 5).input = some 5 ∧
      (∀ w : ZoneId, w ≠ 0 → (s.zones.get w).decode ≠ .attached 0) ∧
      (∀ v : UnitId, v ≠ 0 → (s.units.get v).link ≠ some 5 ∧ (s.units.get v).state ≠ .free) ∧ s.waitList = [1] ∧
      (s.zones.get 1).link = some 6 ∧ (6 : LinkId) ≠ 5 :=
  ⟨ready rfl .cpa, by decide +kernel⟩

theorem witness_ZoneTimerEvents :
    (((powered 2 .starting).zones.get 2).power = .starting ∧ ranOut ((powered 2 .starting).zones.get 2).startTimer (powered 2 .starting).ms) ∧
    (((powered 2 .drain).zones.get 2).power = .drain ∧ ranOut ((powered 2 .drain).zones.get 2).drainTimer (powered 2 .drain).ms ∧
      ((powered 2 .drain).zones.get 2).restart = none) ∧
    ((restarting.zones.get 0).power = .drain ∧ ranOut (restarting.zones.get 0).drainTimer restarting.ms ∧
      (restarting.zones.get 0).restart = some .portB) ∧
    (countingDown.zones.get 1).power = .on ∧ ranOut (countingDown.zones.get 1).countdown countingDown.ms ∧
    (¬ranOut (base.zones.get 1).startTimer base.ms ∧ ¬ranOut (base.zones.get 1).drainTimer base.ms ∧
      ¬ranOut (base.zones.get 1).countdown base.ms) ∧
    (countingDown.zones.get 1).qr ≠ none := by decide

/-- A start into a countdown, and an auto-standby expiry in a zone whose ramp is SILENT. -/
theorem witness_ZoneTimerEvents_countdown :
    (((attending .silent .starting).zones.get 2).power = .starting ∧
      ranOut ((attending .silent .starting).zones.get 2).startTimer (attending .silent .starting).ms ∧
      0 < ((attending .silent .starting).zones.get 2).autoStandby ∧
      ((attending .silent .starting).zones.get 2).quiet (attending .silent .starting)) ∧
    ∀ s ∈ [{ countingDown with zones := setAt countingDown.zones 1 { countingDown.zones.get 1 with qr := none } }],
      (s.zones.get 1).power = .on ∧ ranOut (s.zones.get 1).countdown s.ms ∧ (s.zones.get 1).qr = none ∧ s.waitList = [] := by
  decide +kernel

/-- R60, R63: the start timer ends at 150 ms and not before. -/
theorem test_start_expiry :
    ((after (.startTimerExpiry 2) (powered 2 .starting)).zones.get 2).power = .on ∧
    ((after (.startTimerExpiry 2) { powered 2 .starting with ms := 0xFFFFFFFF }).zones.get 2).power = .starting := by
  decide +kernel

/-- A zone in a power state and on a path, with a value of qr; its effective target is qv in ON and PLAYING. -/
def ramping (p : Power) (path : Sys2Proof.Machine.Path) (qr : Option Int) : State :=
  zoned 2 fun r => { r with power := p, path := path, qr := qr, qv := -40 }

theorem witness_RampStepEffect_step :
    ((ramping .on .idle none).zones.get 2).power ≠ .standby ∧
    (((ramping .on .idle none).zones.get 2).qr = none ∧ ((ramping .on .idle none).zones.get 2).target = none) ∧
    (((ramping .on .playing none).zones.get 2).qr = none ∧ ((ramping .on .playing none).zones.get 2).target = some (-40)) ∧
    (((ramping .on .idle (some (-159))).zones.get 2).qr = some (-159) ∧ (-160 : Int) < -159 ∧
      ((ramping .on .idle (some (-159))).zones.get 2).target = none) ∧
    (((ramping .on .playing (some (-41))).zones.get 2).qr = some (-41) ∧
      ((ramping .on .playing (some (-41))).zones.get 2).target = some (-40) ∧ (-41 : Int) < -40) ∧
    (((ramping .on .playing (some (-39))).zones.get 2).qr = some (-39) ∧
      ((ramping .on .playing (some (-39))).zones.get 2).target = some (-40) ∧ (-40 : Int) < -39) ∧
    (((ramping .on .playing (some (-40))).zones.get 2).qr = some (-40) ∧
      ((ramping .on .playing (some (-40))).zones.get 2).target = some (-40)) ∧
    ((ramping .on .idle (some (-160))).zones.get 2).qr = some (-160) ∧
    ((ramping .on .idle (some (-160))).zones.get 2).target = none ∧
    ((ramping .on .idle (some (-160))).zones.get 2).power ≠ .rampDown ∧
    ((ramping .on .idle (some (-160))).zones.get 2).path ≠ .fading := by decide +kernel

theorem witness_RampStepEffect_end :
    (((ramping .rampDown .playing (some (-160))).zones.get 2).power = .rampDown ∧
      ((ramping .rampDown .playing (some (-160))).zones.get 2).qr = some (-160)) ∧
    ((ramping .on .fading (some (-160))).zones.get 2).power = .on ∧
    ((ramping .on .fading (some (-160))).zones.get 2).path = .fading ∧
    ((ramping .on .fading (some (-160))).zones.get 2).qr = some (-160) := by decide

/-- A frame of a buffer. -/
def bufFrame : BufFrame := { samples := byPos fun _ => 0, vals := none }

/-- ZONE3 with a speaker on M11, playing link 8 from a buffer. -/
def buffered (path : Sys2Proof.Machine.Path) (b : List BufFrame) : State :=
  State.spoken { playing with zones := setAt playing.zones 2 { playing.zones.get 2 with path := path, buffer := b } } 11 2 posFR

theorem witness_BufferEffects :
    (((buffered .filling (List.replicate 63 bufFrame)).zones.get 2).power.isBound = true ∧
      ((buffered .filling (List.replicate 63 bufFrame)).zones.get 2).link.isSome = true ∧
      ((buffered .filling (List.replicate 63 bufFrame)).zones.get 2).path = .filling ∧
      ((buffered .filling (List.replicate 63 bufFrame)).zones.get 2).buffer.length = 63) ∧
    (((buffered .playing [bufFrame]).zones.get 2).power.isBound = true ∧
      ((buffered .playing [bufFrame]).zones.get 2).path = .playing ∧
      ((buffered .playing [bufFrame]).zones.get 2).refilling = false ∧
      ((buffered .playing [bufFrame]).zones.get 2).buffer = bufFrame :: [] ∧ bufFrame.vals = none ∧
      ((buffered .playing [bufFrame]).zones.get 2).shadow = none ∧
      ((buffered .playing [bufFrame]).zones.get 2).tone.running = false ∧
      ((buffered .playing [bufFrame]).zones.get 2).rampCount + 1 < ((buffered .playing [bufFrame]).zones.get 2).rampInterval ∧
      ((activeRows (buffered .playing [bufFrame]).speakers 2 ((buffered .playing [bufFrame]).zones.get 2).active).map
        (·.channel)).Nodup) ∧
    (((buffered .playing []).zones.get 2).power.isBound = true ∧ ((buffered .playing []).zones.get 2).path = .playing ∧
      ((buffered .playing []).zones.get 2).refilling = false ∧ ((buffered .playing []).zones.get 2).buffer = [] ∧
      ((buffered .playing []).zones.get 2).rampCount + 1 < ((buffered .playing []).zones.get 2).rampInterval) ∧
    ((powered 2 .drain).zones.get 2).power = .drain ∧
    ((powered 2 .drain).zones.get 2).rampCount + 1 < ((powered 2 .drain).zones.get 2).rampInterval := by decide +kernel

/-- `buffered` with the refilling mark set. -/
def refilled (path : Sys2Proof.Machine.Path) (b : List BufFrame) : State :=
  { buffered path b with zones := setAt playing.zones 2 { (buffered path b).zones.get 2 with refilling := true } }

/-- Paths and buffers of which an output frame reads nothing. -/
def unread : List State :=
  [buffered .filling (List.replicate 63 bufFrame), buffered .idle [], buffered .playing [], buffered .fading [],
    refilled .playing [bufFrame], refilled .fading [bufFrame]]

theorem witness_BufferEffects_zeroFrame :
    (∀ path ∈ [Machine.Path.playing, .fading], ∀ s ∈ [refilled path (List.replicate 63 bufFrame)],
      (s.zones.get 2).power.isBound = true ∧ (s.zones.get 2).link.isSome = true ∧ (s.zones.get 2).path = path ∧
      (s.zones.get 2).refilling = true ∧ (s.zones.get 2).buffer.length = 63) ∧
    ∀ s ∈ unread, (s.zones.get 2).power.isBound = true ∧
      ((s.zones.get 2).path = .filling ∨ (s.zones.get 2).path = .idle ∨ (s.zones.get 2).refilling = true ∨
        (s.zones.get 2).buffer = []) ∧
      (s.zones.get 2).shadow = none ∧ (s.zones.get 2).tone.running = false ∧
      (s.zones.get 2).rampCount + 1 < (s.zones.get 2).rampInterval ∧
      (activeRows s.speakers 2 (s.zones.get 2).active).map (·.channel) = [11] ∧ ([11] : List Chan).Nodup := by decide +kernel

/-- R81: refilling ends with the 64th frame, and a frame in FADING is read. -/
theorem test_refilling_ends :
    ((after (.bufferFilled 2 bufFrame.samples) (refilled .fading (List.replicate 63 bufFrame))).zones.get 2).refilling = false ∧
    ((after (.bufferFilled 2 bufFrame.samples) (refilled .fading (List.replicate 63 bufFrame))).zones.get 2).path = .fading ∧
    ((after (.bufferFilled 2 bufFrame.samples) (refilled .playing (List.replicate 62 bufFrame))).zones.get 2).refilling = true ∧
    ((after (.zoneOutputFrame 2) (buffered .fading [bufFrame])).zones.get 2).buffer = [] ∧
    ((after (.zoneOutputFrame 2) (refilled .fading [bufFrame])).zones.get 2).buffer = [bufFrame] := by decide +kernel

/-- `buffered` in PLAYING at the last output frame of a ramp interval, 1 below its target. -/
def rampEnding : State :=
  { buffered .playing [bufFrame] with zones := setAt playing.zones 2 { (buffered .playing [bufFrame]).zones.get 2 with
      qr := some (-41), qv := -40, rampCount := 15 } }

theorem witness_BufferEffects_ramp :
    (rampEnding.zones.get 2).power = .on ∧ (rampEnding.zones.get 2).path = .playing ∧ (rampEnding.zones.get 2).refilling = false ∧
    (rampEnding.zones.get 2).buffer = bufFrame :: [] ∧ (rampEnding.zones.get 2).shadow = none ∧
    (rampEnding.zones.get 2).tone.running = false ∧
    (rampEnding.zones.get 2).rampInterval ≤ (rampEnding.zones.get 2).rampCount + 1 ∧
    (rampEnding.zones.get 2).qr = some (-41) ∧ (rampEnding.zones.get 2).target = some (-40) ∧
    (-40 : Int) = (if (-41 : Int) < -40 then -41 + 1 else if (-40 : Int) < -41 then -41 - 1 else -41) ∧
    ((activeRows rampEnding.speakers 2 (rampEnding.zones.get 2).active).map (·.channel)).Nodup ∧
    (rampEnding.zones.get 2).power ≠ .standby := by decide +kernel

/-- R75: the output frame that completes the ramp interval takes the step. -/
theorem test_ramp_with_frame :
    ((after (.zoneOutputFrame 2) rampEnding).zones.get 2).qr = some (-40) ∧
    ((after (.zoneOutputFrame 2) rampEnding).zones.get 2).buffer = [] := by decide +kernel

/-- `buffered` with a running tone and a pattern. -/
def toned (pat : Pattern) : State :=
  { buffered .playing [bufFrame] with zones := setAt playing.zones 2 { (buffered .playing [bufFrame]).zones.get 2 with
      tone := { (playing.zones.get 2).tone with running := true, pattern := pat, speaker := some 11 } } }

/-- `buffered` with values in force, and a frame that carries values. -/
def revalued (old : Option DescValues) : State :=
  { buffered .playing [bufFrame] with zones := setAt playing.zones 2 { (buffered .playing [bufFrame]).zones.get 2 with
      buffer := [{ bufFrame with vals := some stereoDescriptor.vals }], vals := old } }

/-- `buffered` with a set whose row for M11 sums two channels, at +12 dB and a clip count. -/
def loudZone (clips : Nat) (x : Sample) : State :=
  { buffered .playing [bufFrame] with zones := setAt playing.zones 2 { (buffered .playing [bufFrame]).zones.get 2 with
      buffer := [{ samples := Vector.replicate 8 x, vals := none }], clips := clips, qr := some 24
      active := some (buildSet (buffered .playing []).speakers 2 .direct { stereoDescriptor.vals with map := 0xFF }) } }

/-- R103: on one frame a mix value and a gain output saturate, and each counts; the count stops at 65,535, and a frame of small
samples counts nothing. -/
theorem test_clips :
    ((after (.zoneOutputFrame 2) (loudZone 0 8388607)).zones.get 2).clips = 2 ∧
    ((after (.zoneOutputFrame 2) (loudZone 65534 8388607)).zones.get 2).clips = 65535 ∧
    ((after (.zoneOutputFrame 2) (loudZone 7 100)).zones.get 2).clips = 7 := by decide +kernel

theorem witness_BufferEffects_tone :
    ((toned .noise).zones.get 2).power.isBound = true ∧ ((toned .noise).zones.get 2).path = .playing ∧
    ((toned .pulse).zones.get 2).refilling = false ∧ ((toned .pulse).zones.get 2).buffer = bufFrame :: [] ∧
    ((toned .pulse).zones.get 2).shadow = none ∧ ((toned .pulse).zones.get 2).tone.running = true ∧
    ((toned .noise).zones.get 2).rampCount + 1 < ((toned .noise).zones.get 2).rampInterval ∧
    ((activeRows (toned .noise).speakers 2 ((toned .noise).zones.get 2).active).map (·.channel)).Nodup ∧
    ((revalued none).zones.get 2).buffer = { bufFrame with vals := some stereoDescriptor.vals } :: [] ∧
    ((revalued none).zones.get 2).rampCount + 1 < ((revalued none).zones.get 2).rampInterval ∧
    ((revalued none).zones.get 2).vals = none ∧
    (((revalued (some { stereoDescriptor.vals with lfe := true })).zones.get 2).vals =
      some { stereoDescriptor.vals with lfe := true } ∧ true ≠ stereoDescriptor.vals.lfe) ∧
    ((revalued (some { stereoDescriptor.vals with drc := 9 })).zones.get 2).vals =
      some { stereoDescriptor.vals with drc := 9 } := by decide +kernel

theorem witness_GainAndDuty_builder :
    present 0xC0 posFL = true ∧ present 0xC0 posC = false ∧ (11585 : Int) = [11585, 9759, 8192, 0].getD (0 : BitVec 2).toNat 0 ∧
    (0 : Int) = [11585, 9759, 8192, 0].getD (3 : BitVec 2).toNat 0 ∧ present 0xFF posSUB = true ∧
    (fourSpeakers.speakers.get 0).zone = some 0 ∧
    (-160 : Int) = 12 * (-14) + (8 : Nat) ∧ (24 : Int) = 12 * 2 + (0 : Nat) ∧ (23 : Int) = 12 * 1 + (11 : Nat) := by decide

/-- Speaker sets without SR and FR, without a side and a front, with one front alone, and without a front in UPMIX. -/
theorem witness_GainAndDuty_folds :
    present 0xFF posSR = true ∧ present 0xFF posBL = true ∧
    ∀ has ∈ [(fun q => q == posC : Pos → Bool), fun q => q == posFL || q == posC, fun q => q == posFL],
      (∀ p ∈ [posFR, posSR, posBR, posSUB], has p = false) ∧ (has posFL = true ∨ has posC = true) := by decide +kernel

/-- R93 and its worked build for a C speaker alone, each in the row of C; R95 with a missing front. -/
theorem test_folds_to_centre :
    ((List.finRange 8).map (coefficient (· == posC) .direct 11585 false 0xFC posC)) =
      [11585, 11585, 16384, 16384, 8192, 8192, 0, 0] ∧
    coefficient (· == posC) .direct 9759 false 0xFF posC posSR = 6901 ∧
    coefficient (· == posC) .direct 8192 false 0xFF posC posBL = 5793 ∧
    coefficient (fun q => q == posFL || q == posC) .direct 0 false 0xFF posC posSUB = 8192 ∧
    coefficient (fun q => q == posFL || q == posC) .upmix 0 false 0xC0 posC posFR = 17378 := by decide +kernel

theorem witness_GainAndDuty : (7 ≤ 7 ∧ 7 ≤ 9 ∧ 15 ≤ 15) ∧ 7 ≤ 9 ∧ 9 ≤ 9 ∧ 0 ≤ 15 := by decide

theorem witness_SetZoneOptionsEffect :
    (Ready base .cpa ∧ (2 : Byte).toNat = (2 : ZoneId).1 ∧ surroundModes[(3 : Byte).toNat]? = some .upmix ∧
      yesNo 1 = some true ∧ clockModes[(2 : Byte).toNat]? = some .local44 ∧ (base.zones.get 2).power = .standby ∧
      (base.zones.get 2).clockMode ≠ .local44) ∧
    Ready playing .cpa ∧ (playing.zones.get 2).power = .on ∧ (playing.zones.get 2).path = .playing ∧
    (playing.zones.get 2).qr ≠ none ∧ (playing.zones.get 2).clockMode ≠ .local44 :=
  ⟨⟨ready rfl .cpa, by decide⟩, ready rfl .cpa, by decide⟩

/-- ZONE3 in each power state and path that a clause names, with a carrier that runs or stands still. -/
theorem witness_SetZoneOptionsEffect_clauses :
    clockModes[(1 : Byte).toNat]? = some .local48 ∧ 1 = max 1 (min 64 (0 : Byte).toNat) ∧ 120 = min 120 (121 : Byte).toNat ∧
    ((clocked base .local48 .r48 .on .playing none).zones.get 2).clockMode = .local48 ∧
    ((clocked base .follow .r48 .rampDown .fading none).zones.get 2).path = .fading ∧
    (∀ path ∈ [Sys2Proof.Machine.Path.idle, .filling, .playing], ∀ p ∈ [Power.starting, .on, .rampDown],
      ((clocked base .follow .r48 p path none).zones.get 2).power = p ∧
      ((clocked base .follow .r48 p path none).zones.get 2).path = path ∧
      ((clocked base .follow .r48 p path none).zones.get 2).qr = none ∧
      ((clocked base .follow .r48 p path none).zones.get 2).clockMode ≠ .local48) ∧
    (∀ p ∈ [Power.standby, .drain], ((clocked base .follow .r48 p .idle none).zones.get 2).power = p ∧
      ((clocked base .follow .r48 p .idle none).zones.get 2).driveNow = .off) ∧
    ((powered 2 .drain).zones.get 2).rate ≠ .r44 ∧
    (({ (powered 2 .drain).zones.get 2 with drive := .centre, driveNow := .centre } : Zone).driveNow ≠ .off) := by decide +kernel

/-- A zone that plays with descriptor values in force, a ramp in progress, and a countdown of 5 minutes that runs. -/
def timed : State :=
  zoned 2 fun r =>
    { r with power := .on, path := .playing, qr := some (-40), rampCount := 7, autoStandby := 5, countdown := some (unended 300000)
             vals := some stereoDescriptor.vals, bound := some 8
             copy := some { input := some 8, trim := 0, lipSync := 0, mode := .auto } }

/-- R82, R83: a request that changes nothing keeps the ramp frame count and the countdown; a new ramp interval restarts the count,
a new setting starts the countdown afresh, 0 stops it, a new mode builds the shadow set; a new clock mode fades. -/
theorem test_options :
    (((after (.setZoneOptions .cpa 1 [2, 0, 0, 0, 16, 5]) timed).zones.get 2) =
      { timed.zones.get 2 with lastChanged := .portA }) ∧
    ((after (.setZoneOptions .cpa 1 [2, 0, 0, 0, 17, 5]) timed).zones.get 2).rampCount = 0 ∧
    ((after (.setZoneOptions .cpa 1 [2, 0, 0, 0, 16, 6]) timed).zones.get 2).countdown = some (newTimer 0 360000) ∧
    ((after (.setZoneOptions .cpa 1 [2, 0, 0, 0, 16, 0]) timed).zones.get 2).countdown = none ∧
    ((after (.setZoneOptions .cpa 1 [2, 3, 0, 0, 16, 5]) timed).zones.get 2).shadow.isSome = true ∧
    ((after (.setZoneOptions .cpa 1 [2, 0, 0, 1, 16, 5]) timed).zones.get 2).path = .fading ∧
    ((after (.setZoneOptions .cpa 1 [2, 0, 0, 2, 16, 5]) (clocked base .follow .r48 .on .filling none)).zones.get 2).rate = .r44 ∧
    ((after (.setZoneOptions .cpa 1 [2, 0, 0, 2, 16, 5]) (clocked base .follow .r48 .drain .idle none)).zones.get 2).rate = .r44 := by
  decide +kernel

theorem witness_ZoneAndOutputReports :
    Ready base .cpa ∧ (2 : Byte).toNat = (2 : ZoneId).1 ∧ (11 : Byte).toNat = (11 : Chan).1 ∧ (5 : Byte).toNat = (5 : PairId).1 :=
  ⟨ready rfl .cpa, by decide⟩

/-! ### Output stage, protection, test tones -/

/-- An entry asked for ZONE3 FR on M11. -/
def asked : SpeakerRequest :=
  { zone := some 2, position := posFR, bridged := false, trim := -128, delay := 0xFFFFFF, inverted := true }

theorem witness_SetSpeakerEffect_write :
    Ready base .cpa ∧ (11 : Byte).toNat = (11 : Chan).1 ∧ speakerZones[(2 : Byte).toNat]? = some asked.zone ∧
    (1 : Byte).toNat = asked.position.1 ∧ yesNo 0 = some asked.bridged ∧ asked.trim = (0x80 : Byte).toInt ∧
    asked.delay = ((0xFF : Byte).toNat * 256 + (0xFF : Byte).toNat) * 256 + (0xFF : Byte).toNat ∧
    yesNo 1 = some asked.inverted ∧ speakerOutOfRange 11 asked = false ∧
    zoneFixed base (chanZone base.speakers 11) = false ∧ zoneFixed base asked.zone = false ∧
    speakerConflict base.speakers 11 asked = false ∧ speakerDuplicate base.speakers 11 asked = false :=
  ⟨ready rfl .cpa, by decide +kernel⟩

theorem witness_SetSpeakerEffect_refused :
    Ready (powered 2 .drain) .cpa ∧ speakerOutOfRange 11 asked = false ∧ asked.zone = some 2 ∧
    ((powered 2 .drain).zones.get 2).power ≠ .standby :=
  ⟨ready rfl .cpa, by decide +kernel⟩

theorem witness_SetSpeakerEffect_duplicate :
    Ready (State.spoken base 9 2 posFR) .cpa ∧ speakerOutOfRange 11 asked = false ∧
    zoneFixed (State.spoken base 9 2 posFR) (chanZone (State.spoken base 9 2 posFR).speakers 11) = false ∧
    zoneFixed (State.spoken base 9 2 posFR) asked.zone = false ∧
    speakerConflict (State.spoken base 9 2 posFR).speakers 11 asked = false ∧ asked.zone = some 2 ∧ (9 : Chan) ≠ 11 ∧
    ((State.spoken base 9 2 posFR).speakers.get 9).zone = some 2 ∧
    ((State.spoken base 9 2 posFR).speakers.get 9).position = asked.position :=
  ⟨ready rfl .cpa, by decide +kernel⟩

/-- A position of ZONE2 that it cannot have, and a bridge on an odd channel. -/
theorem witness_SetSpeakerEffect_range :
    Ready base .cpa ∧ ((1 : Byte) = 1 ∧ 2 ≤ (2 : Byte).toNat) ∧ ((1 : Byte) = 1 ∧ (9 : Byte).toNat % 2 = 1) ∧
    12 ≤ (12 : Byte).toNat ∧ 4 ≤ (4 : Byte).toNat :=
  ⟨ready rfl .cpa, by decide⟩

/-- M11 under a bridge on M10, and M10 of another zone. -/
def besideM11 (z : ZoneId) (bridged : Bool) : State :=
  { base with speakers := setAt base.speakers 10 { Speaker.reset with zone := some z, bridged := bridged } }

theorem witness_SetSpeakerEffect_conflict :
    Ready (besideM11 2 true) .cpa ∧ asked.zone ≠ none ∧
    (((besideM11 2 true).speakers.get 11).zone = none ∧ (11 : Chan).1 % 2 = 1 ∧
      ((besideM11 2 true).speakers.get (partner 11)).zone ≠ none ∧ ((besideM11 2 true).speakers.get (partner 11)).bridged = true) ∧
    (((besideM11 1 false).speakers.get (partner 11)).zone ≠ none ∧
      ((besideM11 1 false).speakers.get (partner 11)).zone ≠ asked.zone) ∧
    speakerOutOfRange 11 asked = false ∧ zoneFixed (besideM11 1 false) (chanZone (besideM11 1 false).speakers 11) = false ∧
    zoneFixed (besideM11 1 false) asked.zone = false ∧
    (speakerOutOfRange 10 { asked with bridged := true } = false ∧
      ((State.spoken base 11 2 posFL).speakers.get (partner 10)).zone ≠ none) :=
  ⟨ready rfl .cpa, by decide +kernel⟩

theorem witness_OutputSettings :
    (Ready base .cpb ∧ (2 : Byte).toNat = (2 : ZoneId).1 ∧ 7 ≤ (7 : Byte).toNat ∧ (9 : Byte).toNat ≤ 9 ∧
      (base.zones.get 2).power = .standby) ∧
    (Ready (powered 2 .drain) .cpb ∧ ((powered 2 .drain).zones.get 2).power ≠ .standby) ∧ (5 : Byte).toNat = (5 : PairId).1 ∧
    10 = max 10 (min 500 ((0 : Byte).toNat * 256 + (0 : Byte).toNat)) ∧ 15 = max 1 (min 15 (255 : Byte).toNat) :=
  ⟨⟨ready rfl .cpb, by decide⟩, ⟨ready rfl .cpb, by decide⟩, by decide⟩

/-- ZONE2 bridged on M6 and M7 with its carrier running in CENTRE, and a drive mode handed. -/
def driven (m : DriveMode) : State :=
  { zoned 1 (fun r => { r with power := .on, drive := m, driveNow := .centre }) with
    speakers := setAt base.speakers 6 { Speaker.reset with zone := some 1, bridged := true } }

theorem witness_CarrierBoundaryEffect :
    ((driven .audio).zones.get 1).driveNow ≠ .off ∧ chanZone (driven .audio).speakers 6 = some 1 ∧
    chanZone (driven .audio).speakers 7 = some 1 ∧ ((driven .audio).speakers.get 6).zone = some 1 ∧
    ((driven .audio).speakers.get 7).zone = none ∧
    ((after (.carrierPeriodBoundary 1 Pins.quiet.flt) (driven .audio)).pairs.get 3).state.holds = false ∧
    ((driven .off).zones.get 1).drive = .off ∧ ((driven .centre).zones.get 1).drive = .centre ∧
    (((driven .audio).zones.get 1).rate.carrierMultiple = 8 ∧ ((driven .audio).zones.get 1).period + 1 < 8) := by decide +kernel

/-- ZONE2 in AUDIO at W = 8 in the last period of an output frame, with M6 at 112 and the polarity of its entry. -/
def lastPeriod (inverted : Bool) : State :=
  { zoned 1 (fun r => { r with power := .on, drive := .audio, driveNow := .audio, resolution := 8, period := 7 }) with
    speakers := setAt base.speakers 6 { Speaker.reset with zone := some 1, bridged := true, inverted := inverted }
    channels := setAt base.channels 6 { base.channels.get 6 with duty := 112, next := 143 } }

theorem witness_CarrierBoundaryEffect_frame :
    ((lastPeriod true).zones.get 1).rate.carrierMultiple ≤ ((lastPeriod true).zones.get 1).period + 1 ∧
    ((lastPeriod true).zones.get 1).driveNow = .audio ∧
    ((asking 5 none none).zones.get 0).power = .standby ∧ ((asking 5 none none).zones.get 0).driveNow = .off ∧
    ((base.pairs.get 3).state.holds = false) := by decide +kernel

/-- Section 7.4.1: at W = 8 a duty of 143 is high for 143 ticks and low for 113, the held channel has 113, and inverted polarity
exchanges high and low. -/
theorem test_wave :
    ((after (.carrierPeriodBoundary 1 Pins.quiet.flt) (lastPeriod false)).outputs.pwm.get 6) = .pulse true 143 113 ∧
    ((after (.carrierPeriodBoundary 1 Pins.quiet.flt) (lastPeriod false)).outputs.pwm.get 7) = .pulse true 113 143 ∧
    ((after (.carrierPeriodBoundary 1 Pins.quiet.flt) (lastPeriod true)).outputs.pwm.get 6) = .pulse false 143 113 := by
  decide +kernel

/-- `driven` with pair P3 changed. -/
def drivenPair (f : Pair → Pair) : State :=
  { driven .centre with pairs := setAt base.pairs 3 (f (base.pairs.get 3)) }

/-- A channel with a DC watch in RUN, its pair in a state. -/
def watched (st : PairState) : State :=
  { paired 5 (fun q => { q with state := st }) with
    channels := setAt base.channels 11 { base.channels.get 11 with watch := .run false (ended 100) } }

theorem witness_TripEffect :
    (((drivenPair fun q => { q with faults := 3, driven := true }).pairs.get 3).state = .normal ∧
      faultCounted (drivenPair fun q => { q with faults := 3, driven := true }) 3 = true) ∧
    (((drivenPair fun q => { q with faults := 2, driven := true }).pairs.get 3).faults ≠ 3 ∧
      ((drivenPair fun q => { q with faults := 3 }).pairs.get 3).driven = false) ∧
    (((watched .normal).channels.get 11).watch = .run false (ended 100) ∧ ranOut (some (ended 100)) (watched .normal).ms ∧
      ((watched .normal).pairs.get (pairOf 11)).state = .normal) ∧
    ((watched .latched).channels.get 11).watch = .run false (ended 100) ∧ (base.channels.get 11).watch = .clear ∧
    ((watched .latched).pairs.get (pairOf 11)).state.holds = true ∧
    (((watched .probe).channels.get 11).watch = .run false (ended 100) ∧ ((watched .probe).pairs.get (pairOf 11)).state = .probe ∧
      1 = min 255 (((watched .probe).pairs.get (pairOf 11)).retries + 1)) := by decide +kernel

/-- R138: a sample of the other sign taken first restarts the DC timer, and the expiry with it does not happen. -/
theorem test_dc_race :
    ((after (.dcTimerExpiry 11) (watched .normal)).pairs.get 5).state = .tripped ∧
    ((after (.dcTimerExpiry 11) ((watched .normal).updChannel 11 fun x =>
      { x with watch := watchSample 0 100 x.watch 4194304 })).pairs.get 5).state = .normal := by decide +kernel

/-- R140: a DC trip in PROBE counts a retry, and latches the pair at the retry limit, here 4. -/
theorem test_dc_in_probe :
    ((after (.dcTimerExpiry 11) (watched .probe)).pairs.get 5).state = .tripped ∧
    ((after (.dcTimerExpiry 11) ((watched .probe).updPair 5 fun q => { q with retries := 2 })).pairs.get 5).retries = 3 ∧
    ((after (.dcTimerExpiry 11) ((watched .probe).updPair 5 fun q => { q with retries := 3 })).pairs.get 5).state = .latched := by
  decide +kernel

/-- A driven pair in PROBE. -/
def probing : State := drivenPair fun q =>
  { q with state := .probe, probeWindow := some (ended 50), retries := 255, faults := 3, driven := true }

/-- FLT low on P3 alone. -/
def fltP3 : Vector Bool 6 := Vector.ofFn fun q => decide (q = 3)

/-- The pairs of the clauses on FLT: of the zone or of no zone, driven or not, with fault counts of 2 and 3, in NORMAL and in
PROBE. -/
theorem witness_CarrierBoundaryEffect_flt :
    (pairZone (drivenPair id).speakers 3 = some 1 ∧ pairZone (drivenPair id).speakers 0 ≠ some 1 ∧
      pairZone (driven .off).speakers 3 = some 1 ∧ ((driven .off).zones.get 1).driveNow ≠ .off) ∧
    ((drivenPair id).pairs.get 3).driven = false ∧ ((drivenPair id).zones.get 1).drive ≠ .off ∧
    fltP3.get 3 = true ∧ Pins.quiet.flt.get 3 = false ∧
    ((drivenPair fun q => { q with faults := 2, driven := true }).pairs.get 3).faults < 3 ∧
    ((drivenPair fun q => { q with faults := 3, driven := true }).pairs.get 3).state = .normal ∧
    (probing.pairs.get 3).state = .probe ∧ 255 = min 255 ((probing.pairs.get 3).retries + 1) := by decide +kernel

/-- R137: the third asserted FLT counts and the fourth trips, one that is not asserted clears the count, and the level of P0,
which has no zone, is recorded. -/
theorem test_flt_counts :
    ((after (.carrierPeriodBoundary 1 fltP3) (drivenPair fun q => { q with faults := 2, driven := true })).pairs.get 3).faults = 3 ∧
    ((after (.carrierPeriodBoundary 1 fltP3) (drivenPair fun q => { q with faults := 3, driven := true })).pairs.get 3).state =
      .tripped ∧
    ((after (.carrierPeriodBoundary 1 Pins.quiet.flt) (drivenPair fun q => { q with faults := 3, driven := true })).pairs.get 3).faults
      = 0 ∧
    ((after (.carrierPeriodBoundary 1 (Vector.replicate 6 true)) (driven .centre)).pairs.get 0).flt = true := by decide +kernel

theorem witness_ProbePassed :
    ((probing.pairs.get 3).state = .probe ∧ ranOut (probing.pairs.get 3).probeWindow probing.ms ∧ faultCounted probing 3 = true ∧
      255 = min 255 ((probing.pairs.get 3).retries + 1)) ∧
    ∃ t, exec (.probeWindowExpiry 3) probing = .next t ∧ faultCounted t 3 = true :=
  ⟨by decide +kernel, _, rfl, by decide +kernel⟩

/-- A pair in TRIPPED or LATCHED; its upper channel's watch in a condition. -/
def tripped (st : PairState) (w : Watch) : State :=
  { paired 5 (fun q => { q with state := st, retryTimer := some (ended 250), retries := 3 }) with
    channels := setAt base.channels 11 { base.channels.get 11 with watch := w } }

theorem witness_ProbeEffect :
    (((tripped .tripped .clear).pairs.get 5).state = .tripped ∧ ranOut ((tripped .tripped .clear).pairs.get 5).retryTimer (tripped .tripped .clear).ms ∧
      ¬ranOut (base.pairs.get 5).retryTimer base.ms ∧ ¬ranOut (base.pairs.get 5).probeWindow base.ms ∧
      standingChannel (tripped .tripped .clear) 5 = none) ∧
    (((tripped .tripped (.standing true)).pairs.get 5).state = .tripped ∧
      ranOut ((tripped .tripped (.standing true)).pairs.get 5).retryTimer (tripped .tripped (.standing true)).ms ∧
      standingChannel (tripped .tripped (.standing true)) 5 = some 11 ∧
      ((tripped .tripped (.standing true)).pairs.get 5).retryLimit ≤
        min 255 (((tripped .tripped (.standing true)).pairs.get 5).retries + 1)) ∧
    (Ready (tripped .latched .clear) .cpa ∧ (5 : Byte).toNat = (5 : PairId).1 ∧
      ((tripped .latched .clear).pairs.get 5).state = .latched ∧ standingChannel (tripped .latched .clear) 5 = none) ∧
    (Ready (tripped .latched (.standing true)) .cpa ∧ ((tripped .latched (.standing true)).pairs.get 5).state = .latched ∧
      standingChannel (tripped .latched (.standing true)) 5 = some 11 ∧
      4 = min 255 (((tripped .latched (.standing true)).pairs.get 5).retries + 1)) ∧
    Ready (tripped .tripped .clear) .cpa ∧ ((tripped .tripped .clear).pairs.get 5).state ≠ .latched :=
  ⟨by decide +kernel, by decide +kernel, ⟨ready rfl .cpa, by decide +kernel⟩, ⟨ready rfl .cpa, by decide +kernel⟩,
    ready rfl .cpa, by decide +kernel⟩

/-- ZONE3 in ON with FL and FR on M10 and M11, a tone running on FR in AUTO. -/
def sounding (running : Bool) : State :=
  State.spoken (State.spoken (zoned 2 fun r => { r with
    power := .on, mutes := { r.mutes with tone := running }
    tone := { r.tone with running := running, stepMode := .auto, dwell := 10, speaker := if running then some 11 else none
                          dwellTimer := if running then some (newTimer 0 10000) else none } }) 10 2 posFL) 11 2 posFR

theorem witness_ToneEffects_idle :
    Ready (sounding false) .cpa ∧ (2 : Byte).toNat = (2 : ZoneId).1 ∧ ((sounding false).zones.get 2).tone.running = false :=
  ⟨ready rfl .cpa, rfl, rfl⟩

theorem witness_ToneEffects :
    (Ready (sounding false) .cpb ∧ (2 : Byte).toNat = (2 : ZoneId).1 ∧ patterns[(1 : Byte).toNat]? = some .pulse ∧
      stepModes[(1 : Byte).toNat]? = some .manual ∧ ((sounding false).zones.get 2).power = .on ∧
      toneOrder (sounding false).speakers 2 = 10 :: [11]) ∧
    Ready (sounding true) .cpb ∧ ((sounding true).zones.get 2).tone.running = true ∧
    ((sounding true).zones.get 2).tone.speaker = some 11 ∧
    nextInList (toneOrder (sounding true).speakers 2) 11 = some 10 ∧
    ((sounding true).zones.get 2).tone.dwellTimer = some (newTimer 0 10000) ∧
    ((sounding true).zones.get 2).tone.stepMode = .auto ∧
    ((sounding true).zones.get 2).toneLawful ∧ ranOut (some (newTimer 0 10000)) { sounding true with ms := 10000 }.ms ∧
    ¬ranOut (some (newTimer 0 10000)) { sounding true with ms := 9999 }.ms :=
  ⟨⟨ready rfl .cpb, by decide +kernel⟩, ready rfl .cpb, by unfold Zone.toneLawful; decide +kernel⟩

/-! ### Tuner -/

/-- Two calibration points as LOAD_CALIBRATION carries them. -/
def twoPoints : List Byte := [1, 0x55, 0xCC, 0x2E, 0xE0, 1, 0xA5, 0xE0, 0xCB, 0x20]

theorem witness_BandAndCalibration :
    (Ready base .cpa ∧ (50 : Byte).toNat = 50 ∧ (100 : Byte).toNat = 100 ∧ yesNo 1 = some true ∧ base.tuner.inFlight = false) ∧
    ((9 : Byte).toNat = 9 ∧ (10 : Byte).toNat = 10) ∧
    (Ready acquiring .cpa ∧ acquiring.tuner.inFlight = true ∧ (1 : Byte).toNat < 2) ∧
    (bands[(0 : Byte).toNat]? = some .fm ∧ 2 ≤ (2 : Byte).toNat ∧ (2 : Byte).toNat ≤ 16 ∧
      twoPoints.length = 5 * (2 : Byte).toNat ∧ increasing (readPoints twoPoints) = true ∧ .fm = base.tuner.band ∧
      base.tuner.state = .off ∧ coarse (readPoints twoPoints) base.tuner.target = some 12000) :=
  ⟨⟨ready rfl .cpa, by decide⟩, by decide, ⟨ready rfl .cpa, by decide⟩, by decide +kernel⟩

/-- The tuner of section 10.11 with one preset off the grid. -/
def stocked : State :=
  { calibrated with tuner := { calibrated.tuner with presets := [⟨.fm, 98130, 9⟩], state := .locked, target := 108000, level := 255 } }

/-- A LOCKED tuner that ZONE3 plays. -/
def tunedIn : State := { stocked with zones := playing.zones }

/-- R176, R182: a TUNE, a RECALL_PRESET, a SEEK and a SCAN made in LOCKED mute the zone on TL and set TUNER_LOCK. -/
theorem test_tune_unlocks :
    ∀ c ∈ [Instr.tune .cpb 1 [0, 1, 0x7F, 0x34], .recallPreset .cpb 1 [0], .seek .cpb 1 [0], .scan .cpb 1 []],
      ((after c tunedIn).zones.get 2).mutes.tuning = true ∧ ((after c tunedIn).zones.get 2).lastChanged = .auto ∧
      ((after c tunedIn).ports.get .cpa).flags.get Flag.tunerLock.index = true := by decide +kernel

theorem witness_TuneEffect :
    (stepAllowed .fm 50 = true ∧ stepAllowed .am 9 = true ∧ onGrid .am 9 1620 = true) ∧
    (Ready acquiring .cpa ∧ bands[(0 : Byte).toNat]? = some .fm ∧ acquiring.tuner.cal .fm ≠ [] ∧
      acquiring.tuner.op = some (.tune, .portB) ∧
      87500 = appliedFrequency .fm (acquiring.tuner.record .fm).step (((0 : Byte).toNat * 256 + (0 : Byte).toNat) * 256 +
        (0 : Byte).toNat : Nat) ∧
      coarse (acquiring.tuner.cal .fm) 87500 = some 12000) ∧
    (Ready stocked .cpb ∧ stocked.tuner.presets[(0 : Byte).toNat]? = some ⟨.fm, 98130, 9⟩ ∧ stocked.tuner.cal .fm ≠ [] ∧
      98100 = appliedFrequency .fm (stocked.tuner.record .fm).step 98130) ∧
    bands[(1 : Byte).toNat]? = some .am ∧ base.tuner.cal .am = [] :=
  ⟨by decide, ⟨ready rfl .cpa, by decide +kernel⟩, ⟨ready rfl .cpb, by decide +kernel⟩, by decide⟩

/-- A full preset list. -/
def fullList : State :=
  { calibrated with tuner := { calibrated.tuner with
      presets := (List.range 40).map fun i => ⟨.fm, 87500 + 100 * i, 9⟩ } }

theorem witness_SearchEffect :
    (Ready calibrated .cpa ∧ (0 : Byte) = (if true then 0 else 1) ∧ (1 : Byte) = (if false then 0 else 1) ∧
      calibrated.tuner.state ≠ .off ∧
      stepAllowed calibrated.tuner.band (calibrated.tuner.record calibrated.tuner.band).step = true ∧
      calibrated.tuner.presets.length < 40) ∧
    (Ready fullList .cpa ∧ fullList.tuner.state ≠ .off ∧ 40 ≤ fullList.tuner.presets.length) ∧
    Ready base .cpa ∧ (1 : Byte).toNat < 2 ∧ base.tuner.state = .off :=
  ⟨⟨ready rfl .cpa, by decide⟩, ⟨ready rfl .cpa, by decide +kernel⟩, ready rfl .cpa, by decide⟩

/-- Steps up and down from a start on the grid, below it and beside it. -/
theorem witness_SearchEffect_steps :
    (stepAllowed .am 9 = true ∧ stepAllowed .fm 50 = true ∧ onGrid .am 9 522 = true ∧ onGrid .am 9 521 = false ∧
      onGrid .fm 50 98130 = false) ∧
    ∀ f, ∃ g h : Nat → Nat, (g 0 = f ∧ ∀ j, g (j + 1) = channelAbove .am 9 (g j)) ∧
      h 0 = f ∧ ∀ j, h (j + 1) = channelBelow .am 9 (h j) :=
  ⟨by decide, fun f => ⟨fun j => Nat.rec f (fun _ x => channelAbove .am 9 x) j,
    fun j => Nat.rec f (fun _ x => channelBelow .am 9 x) j, ⟨rfl, fun _ => rfl⟩, rfl, fun _ => rfl⟩⟩

/-- R172, R173: a SEEK of FM from a channel has 205 channels to try, one from beside the grid 206, a SCAN 206; the first of them is
under way. -/
theorem test_search_channels :
    (after (.seek .cpa 1 [0]) calibrated).tuner.triesLeft = 204 ∧ (after (.seek .cpa 1 [1]) calibrated).tuner.searchUp = false ∧
    (after (.seek .cpa 1 [0]) { calibrated with tuner := { calibrated.tuner with target := 98130 } }).tuner.triesLeft = 205 ∧
    (after (.scan .cpa 1 []) calibrated).tuner.triesLeft = 205 := by decide +kernel

/-- A LOCKED tuner on the station that its one preset holds. -/
def onPreset : State := { stocked with tuner := { stocked.tuner with target := 98130 } }

theorem witness_PresetEffects_store :
    Ready stocked .cpb ∧ (1 : Byte).toNat ≤ stocked.tuner.presets.length ∧ (1 : Byte).toNat < 40 ∧
    stocked.tuner.state = .locked ∧
    (∀ j x, stocked.tuner.presets[j]? = some x → j ≠ (1 : Byte).toNat →
      ¬(x.band = stocked.tuner.band ∧ x.frequency = stocked.tuner.target)) := by
  refine ⟨ready rfl .cpb, by decide, by decide, by decide, ?_⟩
  intro j x h _
  cases j with
  | zero => cases h; decide
  | succ j => cases h

theorem witness_PresetEffects_duplicate :
    Ready onPreset .cpb ∧ (1 : Byte).toNat ≤ onPreset.tuner.presets.length ∧ onPreset.tuner.state = .locked ∧
    onPreset.tuner.presets[0]? = some ⟨.fm, 98130, 9⟩ ∧ 0 ≠ (1 : Byte).toNat ∧ Band.fm = onPreset.tuner.band ∧
    98130 = onPreset.tuner.target ∧
    (∀ k y, k < 0 → onPreset.tuner.presets[k]? = some y → k ≠ (1 : Byte).toNat →
      ¬(y.band = onPreset.tuner.band ∧ y.frequency = onPreset.tuner.target)) :=
  ⟨ready rfl .cpb, by decide, by decide, by decide, by decide, by decide, by decide, fun _ _ h => absurd h (Nat.not_lt_zero _)⟩

/-- One preset entry as LOAD_PRESETS carries it: FM, 108,000 kHz, level 255. -/
def onePreset : List Byte := [0, 1, 0xA5, 0xE0, 255]

theorem witness_PresetEffects_list :
    (Ready stocked .cpa ∧ (0 : Byte).toNat < stocked.tuner.presets.length) ∧ (1 : Byte).toNat ≤ 40 ∧
    onePreset.length = 5 * (1 : Byte).toNat ∧ readPresets onePreset = some [⟨.fm, 108000, 255⟩] ∧
    ([⟨.fm, 108000, 255⟩] : List Preset).all (withinEdges stocked.tuner) = true ∧
    ([⟨.fm, 108000, 255⟩] : List Preset).Pairwise (fun x y => (x.band, x.frequency) ≠ (y.band, y.frequency)) :=
  ⟨⟨ready rfl .cpa, by decide⟩, by decide, by decide, by decide, by decide +kernel, List.pairwise_singleton _ _⟩

/-- A zone in ON without a speaker and one in another power state, an idle sequencer, a tuner out of LOCKED at the ends of its list,
an entry of a band without a table, and presets outside the edges or twice the same. -/
theorem witness_WrongOperandsRefused_state :
    (Ready (powered 2 .on) .cpa ∧ ((powered 2 .on).zones.get 2).tone.running = false ∧
      ((powered 2 .drain).zones.get 2).power ≠ .on ∧ ∀ c, ((powered 2 .on).speakers.get c).zone ≠ some 2) ∧
    (Ready base .cpa ∧ base.tuner.presets.length < (1 : Byte).toNat ∧ (0 : Byte).toNat ≤ base.tuner.presets.length ∧
      base.tuner.state ≠ .locked) ∧
    (Ready fullList .cpa ∧ (40 : Byte).toNat = fullList.tuner.presets.length ∧
      (39 : Byte).toNat ≤ fullList.tuner.presets.length ∧ (39 : Byte).toNat < 40 ∧ fullList.tuner.state ≠ .locked) ∧
    (∀ s ∈ [tuned fun t => { t with presets := [⟨.am, 522, 9⟩] }],
      s.tuner.presets[(0 : Byte).toNat]? = some ⟨.am, 522, 9⟩ ∧ s.tuner.cal .am = []) ∧
    (readPresets [0, 1, 0xA5, 0xE1, 255] = some [⟨.fm, 108001, 255⟩] ∧
      highEdge .fm (stocked.tuner.record .fm).step < 108001) ∧
    readPresets (onePreset ++ onePreset) = some [⟨.fm, 108000, 255⟩, ⟨.fm, 108000, 255⟩] ∧
    (∀ x ∈ [(⟨.fm, 108000, 255⟩ : Preset), ⟨.fm, 108000, 255⟩], lowEdge x.band (stocked.tuner.record x.band).step ≤ x.frequency ∧
      x.frequency ≤ highEdge x.band (stocked.tuner.record x.band).step) ∧
    ¬([⟨.fm, 108000, 255⟩, ⟨.fm, 108000, 255⟩] : List Preset).Pairwise (fun x y => (x.band, x.frequency) ≠ (y.band, y.frequency)) :=
  ⟨⟨ready rfl .cpa, by decide +kernel⟩, ⟨ready rfl .cpa, by decide⟩, ⟨ready rfl .cpa, by decide +kernel⟩, by decide +kernel⟩

/-- R150, R154, R178, R179 and R180: the refusals by state. -/
theorem test_refusals_by_state :
    answer .cpa (after (.toneStart .cpa 1 [2, 1, 1, 0]) (powered 2 .on)) = some (.refusedState, []) ∧
    answer .cpa (after (.toneNext .cpa 1 [2]) (powered 2 .on)) = some (.refusedState, []) ∧
    answer .cpa (after (.storePreset .cpa 1 [40]) fullList) = some (.range, []) ∧
    answer .cpa (after (.storePreset .cpa 1 [39]) fullList) = some (.notLocked, []) ∧
    answer .cpa (after (.recallPreset .cpa 1 [40]) fullList) = some (.range, []) ∧
    answer .cpa (after (.loadPresets .cpa 1 (2 :: (onePreset ++ onePreset))) stocked) = some (.duplicate, []) ∧
    answer .cpa (after (.loadPresets .cpa 1 [1, 0, 1, 0xA5, 0xE1, 255]) stocked) = some (.range, []) := by decide +kernel

theorem witness_TunerReports : Ready base .cpa ∧ (1 : Byte).toNat = (1 : EncId).1 := ⟨ready rfl .cpa, rfl⟩

/-- `acquiring` with its gate at a place. -/
def gated (g : Gate) : State := { acquiring with tuner := { acquiring.tuner with gate := g } }

/-- A LOCKED tuner on 98,100 kHz with its AFC gate open. -/
def lockedTuner : State :=
  { acquiring with tuner := { acquiring.tuner with state := .locked, op := none, afcTimer := some (ended 500), dac := 30739 } }

theorem witness_IterationEvents_transfer :
    (counting 999 false).snapshotDue = false ∧ ∃ u, exec .counterSnapshot (counting 1000 true) = .next u := ⟨rfl, _, rfl⟩

theorem witness_IterationEvents :
    ((gated (.settling (ended 2))).tuner.gate = .settling (ended 2) ∧ ranOut (some (ended 2)) base.ms ∧
      ¬ranOut (some (unended 2)) base.ms) ∧
    (gated (.waiting (ended 20))).tuner.gate = .waiting (ended 20) ∧
    ((gated (.counting 4094 9 (ended 20))).tuner.gate = .counting 4094 9 (ended 20) ∧
      4094 + 1 < (gated (.counting 4094 9 (ended 20))).tuner.band.gateCount) ∧
    ((gated (.counting 4095 9 (ended 20))).tuner.gate = .counting 4095 9 (ended 20) ∧
      4095 + 1 = (gated (.counting 4095 9 (ended 20))).tuner.band.gateCount) ∧
    (¬ranOut (gated (.counting 5 9 (unended 20))).tuner.gate.limit base.ms ∧ ¬ranOut base.tuner.gate.limit base.ms ∧
      ¬ranOut base.tuner.afcTimer base.ms) ∧
    lockedTuner.tuner.state = .locked ∧ ranOut lockedTuner.tuner.afcTimer lockedTuner.ms := by decide +kernel

/-- R167: 20 ms after the last edge the gate is abandoned, and an edge taken first restarts the 20 ms. -/
theorem test_gate_abandoned :
    (after .gateAbandoned (gated (.counting 5 9 (ended 20)))).tuner.iterations = 1 ∧
    (after .gateAbandoned (after (.freqRisingEdge 3) (gated (.counting 5 9 (ended 20))))).tuner.gate =
      .counting 6 12 (newTimer 0 20) := by decide +kernel

/-- The acquisition of section 10.11 after `n` iterations, the last of them within tolerance or not. -/
def iterated (n : Nat) (inRun : Bool) : State :=
  { acquiring with tuner := { acquiring.tuner with iterations := n, inRun := inRun } }

/-- Section 10.11: the gates of 59,214 and 59,340 ticks. -/
theorem witness_GateDecides_iteration :
    ((iterated 2 true).tuner.gate.open = true ∧ (iterated 2 true).tuner.state = .acquiring ∧ (iterated 2 true).tuner.phase = none ∧
      (iterated 2 true).tuner.op = some (.tune, .portB) ∧ (iterated 2 true).tuner.inRun = true ∧
      ((iterated 2 true).tuner.error (measuredLO (iterated 2 true).tuner.band 59214)).natAbs ≤
        (iterated 2 true).tuner.band.tolerance) ∧
    ((iterated 10 false).tuner.iterations < 11 ∧ 232 = (iterated 10 false).tuner.error (measuredLO (iterated 10 false).tuner.band 59340) ∧
      (iterated 10 false).tuner.inRun = false ∧
      bracket ((iterated 10 false).tuner.cal (iterated 10 false).tuner.band) (iterated 10 false).tuner.target =
        some (⟨98000, 30000⟩, ⟨108000, 52000⟩) ∧
      (510 : Int) = max (-4096) (min 4096 (roundHalfUp (232 * ((52000 : Int) - 30000)) ((108000 : Int) - 98000)))) ∧
    (iterated 11 false).tuner.iterations = 11 ∧ (iterated 11 true).tuner.iterations = 11 ∧
    ranOut (iterated 11 true).tuner.gate.limit (iterated 11 true).ms := by decide +kernel

/-- `iterated` inside a SEEK or a SCAN from 98,000 kHz, with candidates left. -/
def searching (st : TunerState) (ph : Phase) (n : Nat) (inRun : Bool) (tries : Nat) : State :=
  { iterated n inRun with tuner := { (iterated n inRun).tuner with
      state := st, phase := some ph, op := some (if st = .seeking then .seek else .scan, .portA), triesLeft := tries
      start := some (.fm, 98000), searchUp := true } }

/-- A lock and a miss at the twelfth iteration, complete and abandoned, in a SEEK and in a SCAN. -/
theorem witness_GateDecides_search :
    (∀ st ∈ [TunerState.seeking, .scanning], ∀ ph ∈ [Phase.acquire, .return], ∀ s ∈ [searching st ph 11 true 0],
      s.tuner.gate.open = true ∧ (s.tuner.state = .seeking ∨ s.tuner.state = .scanning) ∧ s.tuner.phase = some ph ∧
      s.tuner.inRun = true ∧ (s.tuner.error (measuredLO s.tuner.band 59214)).natAbs ≤ s.tuner.band.tolerance ∧
      s.tuner.iterations = 11 ∧ s.tuner.start = some (.fm, 98000) ∧ s.tuner.inFlight = true ∧
      ranOut s.tuner.gate.limit s.ms) ∧
    ((searching .seeking .return 11 true 0).tuner.op = some (.seek, .portA) ∧
      (searching .scanning .return 11 true 0).tuner.op = some (.scan, .portA)) ∧
    (0 < (searching .seeking .acquire 11 false 1).tuner.triesLeft ∧ (searching .seeking .acquire 11 false 0).tuner.triesLeft = 0 ∧
      (searching .scanning .acquire 10 false 1).tuner.iterations < 11 ∧
      coarse (calibrated.tuner.cal .fm) 98200 = some 30440 ∧ coarse (calibrated.tuner.cal .fm) 98000 = some 30000) := by
  decide +kernel

/-- The gates that miss: complete with an error of +232, and abandoned, within and outside a search. -/
theorem witness_GateDecides_misses :
    gateMisses (searching .seeking .acquire 11 true 1) (.gateComplete 59340) (some (108568 - 10700)) 232 ∧
    gateMisses (searching .scanning .return 11 true 1) .gateAbandoned none (98100 + 10700) ∧
    gateMisses (iterated 10 true) .gateAbandoned none (98100 + 10700) ∧
    gateMisses (iterated 11 false) (.gateComplete 59214) (some (108799 - 10700)) 1 := by
  refine ⟨Or.inl ⟨_, rfl, ?_⟩, Or.inr ⟨rfl, ?_⟩, Or.inr ⟨rfl, ?_⟩, Or.inl ⟨_, rfl, ?_⟩⟩ <;> decide +kernel

/-- R168, R171 to R173: the test after a lock, the next candidate, the RETURN after the last, and its end. -/
theorem test_search_gates :
    (after (.gateComplete 59214) (searching .seeking .acquire 11 true 0)).tuner.phase = some .test ∧
    (after (.gateComplete 59340) (searching .scanning .acquire 11 false 1)).tuner.target = 98200 ∧
    (after .gateAbandoned (searching .seeking .acquire 11 true 0)).tuner.target = 98000 ∧
    ((after (.gateComplete 59214) (searching .seeking .return 3 true 0)).tuner.completions.map (·.result)) = [.exhausted] ∧
    ((after .gateAbandoned (searching .scanning .return 11 false 0)).tuner.completions.map (·.result)) = [.done] ∧
    (after .gateAbandoned (searching .scanning .return 11 false 0)).tuner.state = .unlocked ∧
    (after .gateAbandoned (iterated 10 true)).tuner.dac = 30220 + 4096 := by decide +kernel

/-- A tuner on FM with a target, its gate open; 58,983 ticks are an LO of 109,226 kHz. -/
def offBy (st : TunerState) (target : Nat) : State :=
  { acquiring with tuner := { acquiring.tuner with state := st, op := none, target := target } }

/-- The tolerance of 15 kHz and four times it, and the next kHz beyond each, as errors of AFC gates and of the twelfth iteration. -/
theorem witness_GateDecides_limits :
    measuredLO .fm 58983 = 109226 ∧
    ((offBy .locked 98541).tuner.error (measuredLO .fm 58983)).natAbs = (offBy .locked 98541).tuner.band.tolerance ∧
    ((offBy .locked 98542).tuner.error (measuredLO .fm 58983)).natAbs = (offBy .locked 98542).tuner.band.tolerance + 1 ∧
    ((offBy .locked 98586).tuner.error (measuredLO .fm 58983)).natAbs = 4 * (offBy .locked 98586).tuner.band.tolerance ∧
    ((offBy .locked 98587).tuner.error (measuredLO .fm 58983)).natAbs = 4 * (offBy .locked 98587).tuner.band.tolerance + 1 ∧
    (offBy .locked 98541).tuner.gate.open = true := by decide +kernel

/-- A LOCKED tuner whose AFC gate has waited 20 ms, with ZONE3 on TL. -/
def forsaken : State := { tunedIn with tuner := { tunedIn.tuner with gate := .waiting (ended 20), afcTimer := none } }

theorem witness_GateDecides_abandoned :
    forsaken.tuner.state = .locked ∧ ranOut forsaken.tuner.gate.limit forsaken.ms ∧ (forsaken.zones.get 2).link = some 8 := by
  decide +kernel

/-- R170, R176: the abandoned AFC gate leaves LOCKED, and the zone on TL is muted. -/
theorem test_abandoned_afc :
    (after .gateAbandoned forsaken).tuner.state = .acquiring ∧ (after .gateAbandoned forsaken).tuner.op = some (.afc, .auto) ∧
    ((after .gateAbandoned forsaken).zones.get 2).mutes.tuning = true := by decide +kernel

/-- Section 10.11: AFC gates with errors of +1, -31 and -394; the tolerance is 15 kHz. -/
theorem witness_GateDecides_afc :
    lockedTuner.tuner.gate.open = true ∧ lockedTuner.tuner.state = .locked ∧
    1 = lockedTuner.tuner.error (measuredLO lockedTuner.tuner.band 59214) ∧ (1 : Int).natAbs ≤ lockedTuner.tuner.band.tolerance ∧
    -31 = lockedTuner.tuner.error (measuredLO lockedTuner.tuner.band 59197) ∧
    (lockedTuner.tuner.band.tolerance < (-31 : Int).natAbs ∧ (-31 : Int).natAbs ≤ 4 * lockedTuner.tuner.band.tolerance) ∧
    -394 = lockedTuner.tuner.error (measuredLO lockedTuner.tuner.band 59000) ∧
    4 * lockedTuner.tuner.band.tolerance < (-394 : Int).natAbs := by decide +kernel

/-- A SEEK in TEST with two readings, its meter capturing a period; `tries` candidates are left. -/
def testing (reading : Nat) (tries : Nat) : State :=
  { calibrated with tuner := { calibrated.tuner with
      state := .seeking, phase := some .test, op := some (.seek, .portA), target := 98400, readings := [(reading, true), (140, true)]
      capturing := true, lvlHigh := some 100, triesLeft := tries, start := some (.fm, 98100) } }

/-- A meter that captures a period outside a station test. -/
def metered : State := tuned fun t => { t with capturing := true, lvlHigh := some 7, lvlTimer := ended 20 }

theorem witness_LevelAndStationTest :
    (metered.tuner.capturing = true ∧ metered.tuner.lvlHigh = some 7 ∧ 0 < 7 ∧ 7 ≤ 7 ∧ metered.tuner.phase ≠ some .test ∧
      ranOut (some metered.tuner.lvlTimer) metered.ms ∧ ¬ranOut (some base.tuner.lvlTimer) base.ms) ∧
    ((testing 100 1).tuner.state = .seeking ∧ (testing 100 1).tuner.phase = some .test ∧
      (testing 100 1).tuner.op = some (.seek, .portA) ∧ (testing 100 1).tuner.readings = [(100, true), (140, true)] ∧
      (testing 100 1).tuner.capturing = true ∧ (testing 100 1).tuner.lvlHigh = some 100 ∧ 0 < 255 ∧ 100 ≤ 255 ∧
      100 = 255 * 100 / 255 ∧
      ∀ x ∈ [(100, true), (140, true), (100, true)], ((testing 100 1).tuner.record (testing 100 1).tuner.band).threshold.toNat ≤ x.1 ∧
        ((testing 100 1).tuner.band = .fm →
          ((testing 100 1).tuner.record (testing 100 1).tuner.band).stereoOnly = true → x.2 = true)) ∧
    ((testing 99 1).tuner.readings = [(99, true), (140, true)] ∧ 0 < (testing 99 1).tuner.triesLeft ∧
      (testing 99 0).tuner.triesLeft = 0 ∧
      ∃ x ∈ [(99, true), (140, true), (100, true)], x.1 < ((testing 99 1).tuner.record (testing 99 1).tuner.band).threshold.toNat ∨
        ((testing 99 1).tuner.band = .fm ∧
          ((testing 99 1).tuner.record (testing 99 1).tuner.band).stereoOnly = true ∧ x.2 = false)) := by decide +kernel

/-- What completes a reading: an edge, as LEVEL_READING and as STATION_TEST, and a time without one; the first of a test among
them. -/
theorem witness_LevelAndStationTest_readings :
    (∀ n ∈ [0, 1], ∀ s ∈ [{ testing 100 1 with tuner := { (testing 100 1).tuner with
        readings := (testing 100 1).tuner.readings.take n } }], s.tuner.phase = some .test ∧ s.tuner.readings.length < 2) ∧
    (∃ x, readingCompletes (testing 100 1) (.levelReading 255 true) 100 true x) ∧
    (∃ x, readingCompletes (testing 100 1) (.stationTest 255 true) 100 true x) ∧
    ∃ x, readingCompletes { testing 100 1 with ms := 20 } (.levelTimeout true) 0 true x :=
  ⟨by decide +kernel, ⟨_, Or.inl ⟨255, 100, Or.inl rfl, by decide +kernel, by decide +kernel, by decide, by decide, by decide, rfl⟩⟩,
    ⟨_, Or.inl ⟨255, 100, Or.inr ⟨rfl, by decide +kernel, by decide +kernel⟩, by decide +kernel, by decide +kernel, by decide,
      by decide, by decide, rfl⟩⟩, _, Or.inr ⟨rfl, by decide +kernel, by decide +kernel, rfl⟩⟩

/-- R171: a second reading is kept, and a third from a timeout decides the test as one from an edge does. -/
theorem test_readings :
    (after (.levelReading 255 true) { testing 100 1 with tuner := { (testing 100 1).tuner with readings := [(7, false)] }
      }).tuner.readings = [(7, false), (100, true)] ∧
    (after (.levelTimeout true) { testing 100 1 with ms := 20 }).tuner.target = 98500 ∧
    (after (.levelReading 255 true) (testing 100 1)).tuner.state = .locked := by decide +kernel

/-- A SCAN in TEST with two readings and a preset list. -/
def scanning (reading tries : Nat) (ps : List Preset) : State :=
  { testing reading tries with tuner := { (testing reading tries).tuner with
      state := .scanning, op := some (.scan, .portA), presets := ps } }

theorem witness_LevelAndStationTest_scan :
    ((scanning 100 1 []).tuner.state = .scanning ∧ (scanning 100 1 []).tuner.phase = some .test ∧
      (scanning 100 1 []).tuner.op = some (.scan, .portA) ∧ (scanning 100 1 []).tuner.readings = [(100, true), (140, true)] ∧
      (scanning 100 1 []).tuner.start = some (.fm, 98100)) ∧
    (∃ x ∈ (scanning 100 1 [⟨.fm, 98400, 7⟩]).tuner.presets, x.band = (scanning 100 1 []).tuner.band ∧
      x.frequency = (scanning 100 1 []).tuner.target) ∧
    40 ≤ (scanning 100 1 fullList.tuner.presets).tuner.presets.length ∧
    (scanning 100 1 (fullList.tuner.presets.drop 1)).tuner.presets.length = 39 := by decide +kernel

/-- R173: the append, the one that fills the list, the station that the list holds. -/
theorem test_scan_verdict :
    (after (.stationTest 255 true) (scanning 100 1 [])).tuner.presets = [⟨.fm, 98400, 100⟩] ∧
    (after (.stationTest 255 true) (scanning 100 1 (fullList.tuner.presets.drop 1))).tuner.phase = some .return ∧
    (after (.stationTest 255 true) (scanning 100 1 [⟨.fm, 98400, 7⟩])).tuner.presets = [⟨.fm, 98400, 7⟩] ∧
    (after (.stationTest 255 true) (scanning 99 1 [])).tuner.target = 98500 := by decide +kernel

/-! ### Panel encoders -/

/-- E1 with a raw pair, a filtered pair and a quarter count. -/
def quartered (raw : Bool × Bool) (filtered : Option (Bool × Bool)) (q : Int) : State :=
  turned 1 fun r => { r with raw := raw, filtered := filtered, quarters := q, changedAt := 0xFFFFFFFF }

theorem witness_EncoderDecoding_filter :
    (base.encoders.get 1).raw ≠ (true, true) ∧ (base.encoders.get 1).changedAt = base.ms ∧
    ((quartered (false, true) none 0).encoders.get 1).changedAt ≠ (quartered (false, true) none 0).ms ∧
    ((quartered (false, true) none 0).encoders.get 1).filtered = none := by decide

/-- R185: a pair that changed 1 ms ago is taken, one that changes back at that moment is not. -/
theorem test_filter_settles :
    ((after (.filterSettled 1) (quartered (false, true) none 0)).encoders.get 1).filtered = some (false, true) ∧
    ((after (.filterSettled 1) (after (.encoderLineChange 1 true true) (quartered (false, true) none 0))).encoders.get 1).filtered
      = none := by decide

theorem witness_EncoderDecoding_quarter :
    (((true, false), ((quartered (false, false) (some (true, false)) 2).encoders.get 1).raw) ∈ clockwisePairs ∧
      ((quartered (false, false) (some (true, false)) 2).encoders.get 1).quarters < 3) ∧
    ((((quartered (true, false) (some (false, false)) (-2)).encoders.get 1).raw, (false, false)) ∈ clockwisePairs ∧
      -3 < ((quartered (true, false) (some (false, false)) (-2)).encoders.get 1).quarters) ∧
    ((quartered (true, true) (some (false, false)) 3).encoders.get 1).raw = (!false, !false) ∧
    ((quartered (true, true) (some (false, false)) 3).encoders.get 1).filtered = some (false, false) := by decide

theorem witness_EncoderDecoding_detent :
    (((quartered (false, false) (some (true, false)) 3).encoders.get 1).filtered = some (true, false) ∧
      ((true, false), ((quartered (false, false) (some (true, false)) 3).encoders.get 1).raw) ∈ clockwisePairs ∧
      ((quartered (false, false) (some (true, false)) 3).encoders.get 1).quarters = 3) ∧
    (((quartered (true, false) (some (false, false)) (-3)).encoders.get 1).raw, (false, false)) ∈ clockwisePairs ∧
    ((quartered (true, false) (some (false, false)) (-3)).encoders.get 1).quarters = -3 := by decide

/-- E1 with a binding, in a state. -/
def boundTo (s : State) (b : Binding) : State :=
  { s with encoders := setAt base.encoders 1 { base.encoders.get 1 with binding := b, lastDetent := none } }

/-- MAIN in ON and PLAYING on S8, with qr at -40. -/
def mainPlaying : State :=
  zoned 0 fun r => { r with power := .on, path := .playing, qr := some (-40), selected := some 7, bound := some 7 }

theorem witness_BindingAndDetent :
    (((boundTo playing (.volume 2)).encoders.get 1).lastDetent = none ∧
      ((boundTo playing (.volume 2)).encoders.get 1).binding = .volume 2 ∧ ((boundTo playing (.volume 2)).zones.get 2).power = .on) ∧
    (((boundTo base (.volume 2)).encoders.get 1).binding = .volume 2 ∧ ((boundTo base (.volume 2)).zones.get 2).power ≠ .on) ∧
    (((boundTo base .tune).encoders.get 1).binding = .tune ∧ (boundTo base .tune).tuner.state = .off) ∧
    ((boundTo calibrated .tune).encoders.get 1).binding = .tune ∧ (boundTo calibrated .tune).tuner.state ≠ .off ∧
    (((boundTo mainPlaying .source).encoders.get 1).binding = .source ∧ ((boundTo mainPlaying .source).zones.get 0).power = .on ∧
      ((boundTo mainPlaying .source).zones.get 0).path = .playing ∧ ((boundTo mainPlaying .source).zones.get 0).qr ≠ none ∧
      stepEntry (boundTo mainPlaying .source).sources ((boundTo mainPlaying .source).zones.get 0).selected (-4) = some 3 ∧
      ((boundTo mainPlaying .source).zones.get 0).selected ≠ some 3 ∧
      ((boundTo mainPlaying .source).zones.get 0).tone.running = false) ∧
    (((boundTo base .source).encoders.get 1).binding = .source ∧ ((boundTo base .source).zones.get 0).power ≠ .on) ∧
    ((boundTo base .none).encoders.get 1).binding = .none := by decide +kernel

/-- MAIN in ON with S7 selected, on a path, with a gain or SILENT, and with or without a test tone. -/
def mainOn (path : Sys2Proof.Machine.Path) (qr : Option Int) (tone : Bool) : State :=
  boundTo (zoned 0 fun r => { r with
    power := .on, path := path, qr := qr, selected := some 7, bound := some 7, mutes := { r.mutes with tone := tone }
    tone := { r.tone with running := tone } }) .source

theorem witness_BindingAndDetent_source :
    ∀ path ∈ [Sys2Proof.Machine.Path.idle, .fading, .filling, .playing], ∀ qr ∈ [some (-40), none], ∀ tone ∈ [true, false],
      ((mainOn path qr tone).encoders.get 1).binding = .source ∧ ((mainOn path qr tone).zones.get 0).power = .on ∧
      ((mainOn path qr tone).zones.get 0).path = path ∧ ((mainOn path qr tone).zones.get 0).qr = qr ∧
      ((mainOn path qr tone).zones.get 0).tone.running = tone ∧
      stepEntry (mainOn path qr tone).sources ((mainOn path qr tone).zones.get 0).selected 1 = some 8 ∧
      ((mainOn path qr tone).zones.get 0).selected ≠ some 8 := by decide +kernel

/-- R68, R69, R155: a SOURCE step in FILLING binds at once, one in FADING stores its entry, and each ends the tone first. -/
theorem test_source_step :
    ((after (.detent 1 true) (mainOn .filling (some (-40)) true)).zones.get 0).bound = some 8 ∧
    ((after (.detent 1 true) (mainOn .filling (some (-40)) true)).zones.get 0).tone.running = false ∧
    ((after (.detent 1 true) (mainOn .fading (some (-40)) true)).zones.get 0).bound = some 7 ∧
    ((after (.detent 1 true) (mainOn .fading (some (-40)) true)).zones.get 0).selected = some 8 ∧
    ((after (.detent 1 true) (mainOn .fading (some (-40)) true)).zones.get 0).mutes.tone = false := by decide +kernel

/-- A source table with the given candidates. -/
def candidateTable (is : List SrcId) : Vector SourceEntry 16 :=
  Vector.ofFn fun i => { base.sources.get i with input := if i ∈ is then some 0 else none }

/-- The one candidate is the selection; there is none; a step up and down, and around the table, from 7 and from 15 and 0; the
first and the last from no selection. -/
theorem witness_BindingAndDetent_entries :
    stepEntry (candidateTable [7]) (some 7) 4 = some 7 ∧ stepEntry (candidateTable []) none 1 = none ∧
    (((candidateTable [3, 9]).get 9).input.isSome = true ∧ (7 : SrcId) < 9 ∧ (3 : SrcId) < 7 ∧
      (∀ k : SrcId, 7 < k → k < 9 → ((candidateTable [3, 9]).get k).input = none) ∧
      (∀ k : SrcId, 3 < k → k < 7 → ((candidateTable [3, 9]).get k).input = none)) ∧
    ((3 : SrcId) ≤ 15 ∧ (∀ k : SrcId, 15 < k → ((candidateTable [3, 9]).get k).input = none) ∧
      ∀ k : SrcId, k < 3 → ((candidateTable [3, 9]).get k).input = none) ∧
    (0 : SrcId) ≤ 9 ∧ (∀ k : SrcId, k < 0 → ((candidateTable [3, 9]).get k).input = none) ∧
    ∀ k : SrcId, 9 < k → ((candidateTable [3, 9]).get k).input = none := by decide +kernel

/-- R187 and R190: four steps at 39 ms and one at 40 ms; a SOURCE step from the selection and around the table. -/
theorem test_detent_interval :
    ((after (.detent 0 true) { zoned 0 (fun r => { r with power := .on, qv := -39 }) with
      ms := 139
      encoders := setAt base.encoders 0 { base.encoders.get 0 with lastDetent := some (100, true) } }).zones.get 0).qv = -35 ∧
    ((after (.detent 0 true) { zoned 0 (fun r => { r with power := .on, qv := -39 }) with
      ms := 140
      encoders := setAt base.encoders 0 { base.encoders.get 0 with lastDetent := some (100, true) } }).zones.get 0).qv = -38 ∧
    stepEntry (candidateTable [3, 9]) (some 9) 1 = some 3 ∧ stepEntry (candidateTable [3, 9]) (some 3) (-1) = some 9 ∧
    stepEntry (candidateTable [3, 9]) none (-4) = some 3 := by decide +kernel

theorem witness_BindingAndDetent_binding :
    Ready base .cpa ∧ (1 : Byte).toNat = (1 : EncId).1 ∧ (2 : Byte).toNat = (2 : ZoneId).1 := ⟨ready rfl .cpa, by decide⟩

/-! ### Invariants: each holds in a state other than the reset state, which takes a step -/

theorem witness_SpeakerTableKept :
    tableLawful (sounding false).speakers ∧
    ∃ t, step ((sounding false).withCommand (.setSpeaker .cpa 1 [0, 0, 0, 0, 0, 0, 0, 0, 0])) = .next t :=
  ⟨by unfold tableLawful distinctPositions; decide +kernel, _, rfl⟩

theorem witness_CountsInRangeKept :
    countsInRange (ramping .on .playing (some 24)) ∧
    ∃ t, step ((ramping .on .playing (some 24)).withCommand (.rampStep 2)) = .next t := by
  have hq : ∀ z, ((ramping .on .playing (some 24)).zones.get z).qr = none ∨
      ((ramping .on .playing (some 24)).zones.get z).qr = some 24 := by decide +kernel
  refine ⟨⟨?_, ?_, ?_, ?_⟩, _, rfl⟩
  · decide
  · intro z
    refine ⟨?_, ?_, ?_⟩
    · revert z; decide +kernel
    · intro q h
      rcases hq z with hz | hz <;> rw [hz] at h <;> cases h
      decide
    · revert z; decide +kernel
  · unfold LinkCounters.inRange Counter.inRange; decide +kernel
  · decide +kernel

theorem witness_ToneAndCountdownKept :
    ((∀ z, ((sounding true).zones.get z).toneLawful) ∧
      ∃ t, step ((sounding true).withCommand (.toneStop .cpa 1 [2])) = .next t) ∧
    countdownsFollow (attending .silent .on) ∧
    ∃ t, step ((attending .silent .on).withCommand (.monitorActive 8)) = .next t :=
  ⟨⟨by unfold Zone.toneLawful; decide +kernel, _, rfl⟩, by unfold countdownsFollow; decide +kernel, _, rfl⟩

/-- A volume step of a zone, a trip, and a change of the wait list and of both units. -/
theorem witness_ChangesSetFlags :
    ∀ c ∈ [(Instr.stepVolume .cpa 1 [2, 1], base), (.dcTimerExpiry 11, watched .probe), (.disableLink .cpa 1 [5], contended .on)],
      (∃ t, exec c.1 c.2 = .next t) ∧ (∀ p tag, c.1 ≠ .deviceReset p tag []) ∧ ∀ pins, c.1 ≠ .powerOnReset pins := by
  intro c h
  simp only [List.mem_cons, List.mem_nil_iff, or_false] at h
  rcases h with rfl | rfl | rfl <;> exact ⟨⟨_, rfl⟩, nofun, nofun⟩

/-- MAIN holds the whole share. -/
def shared : State := zoned 0 fun r => { r with alloc := some { words := 193024, frames := 24128, micros := 9, limited := true } }

theorem witness_ShareKept : shareKept shared ∧ ∃ t, step (shared.withCommand (.powerOn .cpa 1 [1])) = .next t :=
  ⟨by unfold shareKept; decide +kernel, _, rfl⟩

theorem witness_TunerListsKept :
    tunerLists fullList.tuner ∧ ∃ t, step (fullList.withCommand (.erasePreset .cpa 1 [39])) = .next t :=
  ⟨by unfold tunerLists; decide +kernel, _, rfl⟩

/-- ZONE3 is attached to DU1 in SYNCING on link 8. -/
def syncing : State :=
  { playing with
    zones := setAt playing.zones 2 { playing.zones.get 2 with
      decode := .attached 1, mutes := { Mutes.clear with decode := true, noSignal := true, tuning := true } }
    links := setAt base.links 8 { base.links.get 8 with
      enabled := true, state := .recoverRead, rate := some .r48, lastGood := some { stereoDescriptor with format := .bsf } }
    units := setAt base.units 1 { DecodeUnit.reset with state := .syncing, link := some 8 } }

theorem witness_UnitsAndZonesKept :
    unitsLawful syncing ∧ waitListLawful syncing ∧ decodeMutesFollow syncing ∧ (∀ z, (syncing.zones.get z).atRest) ∧
    linkMutesFollow syncing ∧ arbiterLawful syncing ∧ ∃ t, step (syncing.withCommand (.lossOfSignal 8)) = .next t := by
  have hd : ∀ z, (syncing.zones.get z).decode = .none ∨ z = 2 := by decide +kernel
  have hl : ∀ z, (syncing.zones.get z).link = none ∨ z = 2 := by decide +kernel
  refine ⟨⟨by decide +kernel, ?_⟩, by unfold waitListLawful; decide +kernel, by unfold decodeMutesFollow; decide +kernel,
    by unfold Zone.atRest; decide +kernel, ?_, by unfold arbiterLawful; decide +kernel, _, rfl⟩
  · intro z u h
    rcases hd z with hz | rfl
    · rw [hz] at h; cases h
    · cases h; decide +kernel
  · intro z
    refine ⟨by revert z; decide +kernel, ?_⟩
    intro l h
    rcases hl z with hz | rfl
    · rw [hz] at h; cases h
    · cases h; decide +kernel

/-- `contended` with the DECODE reason of the zone that waits. -/
def waiting : State :=
  { contended .on with zones := setAt (contended .on).zones 1 { (contended .on).zones.get 1 with
      mutes := { Mutes.clear with decode := true } } }

/-- A zone waits while both units serve other links, and one of them is given up. -/
theorem witness_UnitsAndZonesKept_waiting :
    unitsLawful waiting ∧ waitListLawful waiting ∧ decodeMutesFollow waiting ∧ (∀ z, (waiting.zones.get z).atRest) ∧
    linkMutesFollow waiting ∧ arbiterLawful waiting ∧ ∃ t, step (waiting.withCommand (.disableLink .cpa 1 [5])) = .next t :=
  ⟨by unfold unitsLawful; decide +kernel, by unfold waitListLawful; decide +kernel,
    by unfold decodeMutesFollow; decide +kernel, by unfold Zone.atRest; decide +kernel,
    by unfold linkMutesFollow; decide +kernel, by unfold arbiterLawful; decide +kernel, _, rfl⟩

/-- R52: the unit that a disabled link gives up goes to the zone that waited, which records AUTO. -/
theorem test_unit_granted :
    ((after (.disableLink .cpa 1 [5]) waiting).zones.get 1).decode = .attached 0 ∧
    ((after (.disableLink .cpa 1 [5]) waiting).units.get 0).link = some 6 ∧
    (after (.disableLink .cpa 1 [5]) waiting).waitList = [] := by decide +kernel

theorem witness_PairsLawfulKept :
    pairsLawful (tripped .tripped .clear) ∧
    ∃ t, step ((tripped .tripped .clear).withCommand (.retryTimerExpiry 5)) = .next t :=
  ⟨by unfold pairsLawful Pair.timersLawful pairOff Channel.isOff; decide +kernel, _, rfl⟩

end Sys2Proof.Tests
end

section
/-! What one write of a command can do, said once. Every meaning but a reset and READ_EVENTS is a run of these writes
(`exec_writes`), so a statement about every command is proved by cases over the writes alone. Each write carries what is known of
the value written: counts and volumes stay in range, and what sets no flag of its own is not changed with it. -/

namespace Sys2Proof.Machine

/-- A zone record is rewritten with its numbers in range, and without a change of the modulator settings or of the decode
position, whose flags are not those of the write (R57, R133). -/
structure Zone.Tame (r x : Zone) : Prop where
  inRange : r.inRange → x.inRange
  resolution : x.resolution = r.resolution
  minPulse : x.minPulse = r.minPulse
  decode : x.decode = r.decode

/-- A tuner record is rewritten with the same presets, completions and completion number. -/
structure Tuner.Plain (x y : Tuner) : Prop where
  presets : y.presets = x.presets
  completions : y.completions = x.completions
  nextNumber : y.nextNumber = x.nextNumber

/-- The completion list changes only with the completion number, which TUNER_DONE follows (R175, R182). -/
def Tuner.Numbered (x y : Tuner) : Prop := y.completions = x.completions ∨ y.nextNumber ≠ x.nextNumber

/-- A unit's two counts stay in their ranges. -/
def DecodeUnit.countsKept (d e : DecodeUnit) : Prop :=
  d.concealed ≤ 65535 ∧ d.silenced ≤ 65535 → e.concealed ≤ 65535 ∧ e.silenced ≤ 65535

/-- One write of the state by a meaning. -/
inductive Write : State → State → Prop
  | link (s : State) (l : LinkId) (r : Link) (h : (s.links.get l).counters.inRange → r.counters.inRange) :
      Write s (s.putLink l r)
  | monitor (s : State) (l : LinkId) (m : Monitor) : Write s (s.putMonitor l m)
  | source (s : State) (i : SrcId) (e : SourceEntry) : Write s (s.putSource i e)
  | unit (s : State) (u : UnitId) (d : DecodeUnit) (h : (s.units.get u).countsKept d) : Write s (s.putUnit u d)
  | waitList (s : State) (w : List ZoneId) : Write s (s.putWaitList w)
  | raise (s : State) (f : Flag) : Write s (s.raise f)
  | zone (s : State) (z : ZoneId) (r : Zone) (h : (s.zones.get z).Tame r) : Write s (s.putZone z r)
  | decode (s : State) (z : ZoneId) (pos : DecodePos) : Write s (setDecode s z pos)
  | modulator (s : State) (z : ZoneId) (w m : Nat) (hw : 7 ≤ w ∧ w ≤ 9) (hm : m ≤ 15) :
      Write s ((s.updZone z fun r => { r with resolution := w, minPulse := m }).raise (.zone z))
  | speaker (s : State) (c : Chan) (e : Speaker) :
      Write s (raiseZone (raiseZone (s.putSpeaker c e) (s.speakers.get c).zone) e.zone)
  | channel (s : State) (c : Chan) (f : Channel → Channel) : Write s (s.updChannel c f)
  | pair (s : State) (q : PairId) (r : Pair) (hd : r.dcTime = (s.pairs.get q).dcTime)
      (hl : r.retryLimit = (s.pairs.get q).retryLimit) : Write s (s.putPair q r)
  | protection (s : State) (q : PairId) (r : Pair) : Write s ((s.putPair q r).raise (.pair q))
  | tuner (s : State) (x : Tuner) (hp : x.presets = s.tuner.presets) (hc : s.tuner.Numbered x) : Write s (s.putTuner x)
  | presets (s : State) (x : Tuner) (hc : s.tuner.Numbered x) : Write s ((s.putTuner x).raise .presets)
  | encoder (s : State) (e : EncId) (r : Encoder) : Write s (s.putEncoder e r)
  | port (s : State) (p : Port) (r : PortState) (h : r.flags = (s.ports.get p).flags) : Write s (s.putPort p r)
  | fresh (s : State) (n : Nat) : Write s { s with fresh := n }
  | snapshotTaken (s : State) : Write s { s with snapshotDue := false }
  | millisecond (s : State) (d : Nat) (g : Gate) :
      Write s { s with ms := s.ms + 1, snapshotDue := wholeSecond (s.ms + 1)
                       tuner := { s.tuner with transferred := d, gate := g } }

/-- A run of writes. -/
def Writes (s t : State) : Prop := Relation.ReflTransGen Write s t

theorem Write.run {s t : State} (h : Write s t) : Writes s t := Relation.ReflTransGen.single h

theorem Writes.refl (s : State) : Writes s s := Relation.ReflTransGen.refl

theorem Writes.trans {s t u : State} (h : Writes s t) (k : Writes t u) : Writes s u := Relation.ReflTransGen.trans h k

/-- What every write keeps, a run keeps. -/
theorem Writes.keeps {P : State → Prop} (h : ∀ s t, Write s t → P s → P t) {s t : State} (k : Writes s t) (hs : P s) : P t := by
  induction k with
  | refl => exact hs
  | tail _ w ih => exact h _ _ w ih

/-- A loop of runs is a run. -/
theorem Writes.forEach {α : Type} (f : State → α → State) (h : ∀ s x, Writes s (f s x)) (xs : List α) (s : State) :
    Writes s (s.forEach xs f) :=
  State.forEach_rel Writes Writes.refl (fun _ _ _ a b => a.trans b) f h xs s

/-- A choice of runs is a run. -/
theorem Writes.ite {s t u : State} {b : Prop} [Decidable b] (h : Writes s t) (k : Writes s u) :
    Writes s (if b then t else u) := by split <;> assumption

/-! ## The accessors -/

theorem Zone.Tame.refl (r : Zone) : r.Tame r := ⟨id, rfl, rfl, rfl⟩

theorem Zone.Tame.trans {r x y : Zone} (h : r.Tame x) (k : x.Tame y) : r.Tame y :=
  ⟨fun a => k.inRange (h.inRange a), k.resolution.trans h.resolution, k.minPulse.trans h.minPulse, k.decode.trans h.decode⟩

theorem Zone.Tame.ite {r x y : Zone} {b : Prop} [Decidable b] (h : r.Tame x) (k : r.Tame y) :
    r.Tame (if b then x else y) := by split <;> assumption

theorem updLink_writes (s : State) (l : LinkId) (f : Link → Link)
    (h : ∀ r, r.counters.inRange → (f r).counters.inRange := by exact fun _ => id) : Writes s (s.updLink l f) :=
  (Write.link s l _ (h _)).run

theorem updUnit_writes (s : State) (u : UnitId) (f : DecodeUnit → DecodeUnit)
    (h : ∀ d, DecodeUnit.countsKept d (f d) := by exact fun _ => id) : Writes s (s.updUnit u f) := (Write.unit s u _ (h _)).run

theorem updZone_writes (s : State) (z : ZoneId) (f : Zone → Zone)
    (h : ∀ r, Zone.Tame r (f r) := by exact fun _ => ⟨id, rfl, rfl, rfl⟩) : Writes s (s.updZone z f) :=
  (Write.zone s z _ (h _)).run

theorem autoZone_writes (s : State) (z : ZoneId) (f : Zone → Zone)
    (h : ∀ r, Zone.Tame r (f r) := by exact fun _ => ⟨id, rfl, rfl, rfl⟩) : Writes s (s.autoZone z f) :=
  updZone_writes s z _ fun r => .ite ((h r).trans ⟨id, rfl, rfl, rfl⟩) (h r)

theorem zoneOrigin_writes (s : State) (z : ZoneId) (o : Origin) : Writes s (s.zoneOrigin z o) :=
  updZone_writes s z _

theorem updPair_writes (s : State) (q : PairId) (f : Pair → Pair)
    (h : ∀ p, (f p).dcTime = p.dcTime ∧ (f p).retryLimit = p.retryLimit := by exact fun _ => ⟨rfl, rfl⟩) :
    Writes s (s.updPair q f) := (Write.pair s q _ (h _).1 (h _).2).run

theorem updChannel_writes (s : State) (c : Chan) (f : Channel → Channel) : Writes s (s.updChannel c f) :=
  (Write.channel s c f).run

theorem raise_writes (s : State) (f : Flag) : Writes s (s.raise f) := (Write.raise s f).run

/-! ## Whole seconds -/

theorem takeSnapshot_writes (s : State) : Writes s (takeSnapshot s) := by
  unfold takeSnapshot
  exact .ite (.trans (.forEach _ (fun t l => updLink_writes t l _ fun _ => LinkCounters.snap_inRange) linkIds s)
    (Write.snapshotTaken _).run) (.refl s)

/-! ## Output stage -/

theorem presentChannel_writes (z : ZoneId) (s : State) (c : Chan) : Writes s (presentChannel z s c) := by
  unfold presentChannel
  split
  · split <;> exact updChannel_writes _ _ _
  · exact .ite (updChannel_writes _ _ _) (.refl s)

theorem beginPairPeriod_writes (z : ZoneId) (s : State) (q : PairId) : Writes s (beginPairPeriod z s q) :=
  .ite (updPair_writes s q _) (.refl s)

theorem stopPair_writes (z : ZoneId) (s : State) (q : PairId) : Writes s (stopPair z s q) :=
  .ite (updPair_writes s q _) (.refl s)

theorem beginPeriod_writes (s : State) (z : ZoneId) : Writes s (beginPeriod s z) :=
  (Writes.forEach _ (presentChannel_writes z) _ s).trans (.forEach _ (beginPairPeriod_writes z) _ _)

theorem stopCarrier_writes (s : State) (z : ZoneId) : Writes s (stopCarrier s z) :=
  (Writes.forEach _ (presentChannel_writes z) _ s).trans (.forEach _ (stopPair_writes z) _ _)

theorem takeDuties_writes (s : State) (z : ZoneId) : Writes s (takeDuties s z) :=
  .forEach _ (fun t c => updChannel_writes t c _) _ s

theorem beginFrame_writes (s : State) (z : ZoneId) (m : DriveMode) : Writes s (beginFrame s z m) :=
  (updZone_writes s z _).trans (beginPeriod_writes _ z)

theorem handDrive_writes (s : State) (z : ZoneId) (m : DriveMode) : Writes s (handDrive s z m) :=
  (updZone_writes s z _).trans (.ite (beginFrame_writes _ z m) (.refl _))

theorem restartCarrier_writes (s : State) (z : ZoneId) : Writes s (restartCarrier s z) :=
  .ite (.refl s) (beginFrame_writes s z _)

theorem startHold_writes (s : State) (q : PairId) : Writes s (startHold s q) :=
  ((updChannel_writes s _ _).trans (updChannel_writes _ _ _)).trans (updPair_writes _ q _)

theorem offerTrip_writes (s : State) (q : PairId) (cause : Cause) : Writes s (offerTrip s q cause) := by
  unfold offerTrip
  split
  · exact (updPair_writes s q _).trans (startHold_writes _ q)
  · exact (updPair_writes s q _).trans (startHold_writes _ q)
  · exact .refl s

theorem probePair_writes (s : State) (q : PairId) : Writes s (probePair s q) := by
  unfold probePair
  split <;> exact updPair_writes s q _

theorem faultTrip_writes (s : State) (q : PairId) : Writes s (faultTrip s q) :=
  (updPair_writes s q _).trans (offerTrip_writes _ q _)

theorem samplePair_writes (z : ZoneId) (flt : Vector Bool 6) (s : State) (q : PairId) : Writes s (samplePair z flt s q) :=
  (updPair_writes s q _).trans
    (.ite (.ite (.ite (faultTrip_writes _ q) (updPair_writes _ q _)) (updPair_writes _ q _)) (.refl _))

theorem carrierBoundary_writes (s : State) (z : ZoneId) (flt : Vector Bool 6) : Writes s (carrierBoundary s z flt) := by
  have next (t : State) (stop : Prop) [Decidable stop] (take : Bool) (h : Writes s t) :
      Writes s (if stop then stopCarrier t z else beginPeriod (if take then takeDuties t z else t) z) := by
    refine h.trans (.ite (stopCarrier_writes t z) ?_)
    split
    · exact (takeDuties_writes t z).trans (beginPeriod_writes _ z)
    · exact beginPeriod_writes t z
  unfold carrierBoundary
  dsimp only
  split
  · exact .refl s
  · exact next _ _ _ ((Writes.forEach _ (samplePair_writes z flt) pairIds s).trans (updZone_writes _ z _))

/-! ## Elastic buffer and decode arbiter -/

theorem Zone.write_tame (r : Zone) (f : BufFrame) : r.Tame (r.write f) := by
  refine ⟨fun h => ?_, ?_, ?_, ?_⟩
  · obtain ⟨hv, hq, hi, ha, hb, hr, hs, hc, hm⟩ := h
    have hbuf := Zone.write_length r f hb
    have hskip : (r.write f).skips ≤ 65535 := by
      unfold Zone.write
      split
      · dsimp only
        split
        · exact satAdd_le _ _
        · exact hs
      · exact hs
    rw [Zone.write_frame]
    exact ⟨hv, hq, hi, ha, hbuf, hr, hskip, hc, hm⟩
  all_goals rw [Zone.write_frame]

theorem writeFrame_writes (s : State) (z : ZoneId) (f : BufFrame) : Writes s (writeFrame s z f) :=
  updZone_writes s z _ fun r => Zone.write_tame r f

theorem bindUnit_writes (s : State) (u : UnitId) (l : LinkId) : Writes s (bindUnit s u l) :=
  (updUnit_writes s u _ fun _ _ => ⟨Nat.zero_le _, Nat.zero_le _⟩).trans (Write.fresh _ _).run

theorem clearUnit_writes (s : State) (u : UnitId) : Writes s (clearUnit s u) := updUnit_writes s u _

theorem grantUnit_writes (s : State) (u : UnitId) : Writes s (grantUnit s u) := by
  unfold grantUnit
  split
  · exact .refl s
  · split
    · exact .refl s
    · exact .trans (.trans (Write.waitList _ _).run (bindUnit_writes _ u _))
        (.forEach _ (fun t y => (Write.decode t y _).run) _ _)

theorem freeIfEmpty_writes (s : State) (u : UnitId) : Writes s (freeIfEmpty s u) :=
  .ite ((clearUnit_writes s u).trans (grantUnit_writes _ u)) (.refl s)

theorem releaseDecode_writes (s : State) (z : ZoneId) : Writes s (releaseDecode s z) := by
  unfold releaseDecode
  split
  · exact .refl s
  · exact .trans (Write.waitList _ _).run (Write.decode _ z _).run
  · exact .trans (Write.decode _ z _).run (freeIfEmpty_writes _ _)

theorem placeDecode_writes (s : State) (z : ZoneId) (l : LinkId) : Writes s (placeDecode s z l) := by
  unfold placeDecode
  split
  · exact (Write.decode _ z _).run
  · split
    · exact (bindUnit_writes s _ l).trans (Write.decode _ z _).run
    · exact .trans (Write.waitList _ _).run (Write.decode _ z _).run

theorem rebindDecode_writes (s : State) (z : ZoneId) (old new : Option LinkId) : Writes s (rebindDecode s z old new) := by
  unfold rebindDecode
  split
  · exact releaseDecode_writes s z
  · exact .ite (.ite (Write.decode _ z _).run ((releaseDecode_writes s z).trans (placeDecode_writes _ z _)))
      (releaseDecode_writes s z)

theorem dropNeed_writes (l : LinkId) (s : State) (z : ZoneId) : Writes s (dropNeed l s z) :=
  .ite (.trans (.ite (Write.waitList _ _).run (.refl s)) (Write.decode _ z _).run) (.refl s)

theorem arbiterLink_writes (s : State) (l : LinkId) : Writes s (arbiterLink s l) := by
  unfold arbiterLink
  split
  · exact .forEach _ (fun t z => .ite (placeDecode_writes t z l) (.refl t)) _ s
  · have drop := Writes.forEach _ (dropNeed_writes l) zoneIds s
    dsimp only
    split
    · exact drop.trans (freeIfEmpty_writes _ _)
    · exact drop

/-! ## Decode units -/

theorem countBsf_writes (s : State) (l : LinkId) (n : Nat) : Writes s (countBsf s l n) :=
  updLink_writes s l _ fun _ ⟨hc, hd, hs, hb⟩ => ⟨hc, hd, hs, Counter.bump_inRange n hb⟩

theorem clearDecodeMute_writes (s : State) (u : UnitId) : Writes s (clearDecodeMute s u) :=
  .forEach _ (fun t z => autoZone_writes t z _) _ s

theorem outputFailed_countsKept (d : Descriptor) (x : DecodeUnit) : x.countsKept (outputFailed d x) := by
  intro h
  unfold outputFailed
  split
  · exact ⟨satAdd_le _ _, h.2⟩
  · exact ⟨h.1, satAdd_le _ _⟩

theorem unitTakesBlock_writes (s : State) (u : UnitId) (l : LinkId) (d : Descriptor) (fs : List MantissaFrame) :
    Writes s (unitTakesBlock s u l d fs) := by
  unfold unitTakesBlock
  dsimp only
  split
  · exact .refl s
  · exact .ite ((countBsf_writes s l _).trans (updUnit_writes _ u _))
      ((countBsf_writes s l _).trans (updUnit_writes _ u _ (outputFailed_countsKept d)))
  · exact .ite ((updUnit_writes s u _).trans (clearDecodeMute_writes _ u))
      ((countBsf_writes s l _).trans (updUnit_writes _ u _))

theorem unitSilent_writes (s : State) (u : UnitId) (period : Bool) : Writes s (unitSilent s u period) :=
  updUnit_writes s u _

theorem unitFrame_writes (s : State) (u : UnitId) : Writes s (unitFrame s u) :=
  .ite (.refl s) (.trans (updUnit_writes s u _) (.forEach _ (fun t z =>
    (writeFrame_writes t z _).trans (updZone_writes _ z _)) _ _))

end Sys2Proof.Machine
end

section
/-! Zone operations as runs of writes. -/

namespace Sys2Proof.Machine

theorem startCountdown_writes (s : State) (z : ZoneId) : Writes s (startCountdown s z) := by
  unfold startCountdown
  exact updZone_writes s z _ fun r => .ite ⟨id, rfl, rfl, rfl⟩ (.refl r)

theorem bindCountdown_writes (s : State) (z : ZoneId) : Writes s (bindCountdown s z) :=
  (updZone_writes s z _ (by exact fun r => .ite ⟨id, rfl, rfl, rfl⟩ (.refl r))).trans (startCountdown_writes _ z)

theorem toneStep_writes (s : State) (z : ZoneId) : Writes s (toneStep s z) :=
  (updZone_writes s z _).trans (raise_writes _ _)

theorem endTone_writes (s : State) (z : ZoneId) : Writes s (endTone s z) :=
  updZone_writes s z _ fun r => .ite ⟨id, rfl, rfl, rfl⟩ (.refl r)

theorem allocateZone_writes (s : State) (z : ZoneId) : Writes s (allocateZone s z) := by
  have limited (t : State) (b : Bool) (h : Writes s t) : Writes s (if b then t.raise .limited else t) :=
    h.trans (.ite (raise_writes t _) (.refl t))
  exact limited _ _ (updZone_writes s z _)

theorem primeDelays_writes (s : State) (z : ZoneId) : Writes s (primeDelays s z) :=
  Writes.forEach (primeChannel _ _) (fun t c => by unfold primeChannel; exact updChannel_writes t c _) _ s

theorem zeroDuties_writes (s : State) (z : ZoneId) : Writes s (zeroDuties s z) :=
  .forEach _ (fun t c => updChannel_writes t c _) _ s

theorem bindCarrier_writes (s : State) (z : ZoneId) (old : Rate) : Writes s (bindCarrier s z old) :=
  .ite (.ite (.refl s) (zeroDuties_writes s z)) ((zeroDuties_writes s z).trans (restartCarrier_writes _ z))

theorem dropChannel_writes (s : State) (c : Chan) : Writes s (dropChannel s c) := updChannel_writes s c _

theorem bindClock_tame (x : Option Link) (r : Zone) : r.Tame (bindClock x r) := by
  unfold bindClock
  split <;> exact ⟨id, rfl, rfl, rfl⟩

theorem bindRecord_tame (s : State) (r : Zone) : r.Tame (bindRecord s r) := by
  have clock := (show r.Tame (takeCopy s.sources r) from ⟨id, rfl, rfl, rfl⟩).trans (bindClock_tame
    ((takeCopy s.sources r).link.map s.links.get) _)
  unfold bindRecord
  dsimp only
  split
  · exact clock
  · exact clock.trans ⟨id, rfl, rfl, rfl⟩

theorem enterPath_tame (spk : Vector Speaker 12) (z : ZoneId) (vals : Option DescValues) (r : Zone) :
    r.Tame (r.enterPath spk z vals) := by
  refine ⟨fun h => ?_, rfl, rfl, rfl⟩
  obtain ⟨hv, hq, hi, ha, -, hr, hs, hc, hm⟩ := h
  exact ⟨hv, hq, hi, ha, Nat.zero_le _, hr, hs, hc, hm⟩

theorem noGain_tame (r : Zone) : r.Tame { r with qr := none } := by
  refine ⟨fun h => ?_, rfl, rfl, rfl⟩
  obtain ⟨hv, -, hi, ha, hb, hr, hs, hc, hm⟩ := h
  exact ⟨hv, nofun, hi, ha, hb, hr, hs, hc, hm⟩

theorem letGo_tame (r : Zone) : r.Tame r.letGo := ⟨id, rfl, rfl, rfl⟩

theorem releaseRecord_tame (r : Zone) : r.Tame r.releaseRecord := by
  refine ⟨fun h => ?_, rfl, rfl, rfl⟩
  obtain ⟨hv, hq, hi, ha, -, hr, hs, hc, hm⟩ := h
  exact ⟨hv, hq, hi, ha, Nat.zero_le _, hr, hs, hc, hm⟩

theorem bindZone_writes (s : State) (z : ZoneId) (rebind : Bool) : Writes s (bindZone s z rebind) := by
  have letsGo (r : Zone) : r.Tame (if rebind then ({ r with qr := none, rampCount := 0 } : Zone).letGo
      else { r with qr := none, rampCount := 0 }) :=
    Zone.Tame.trans ((noGain_tame r).trans (show Zone.Tame _ { r with qr := none, rampCount := 0 } from ⟨id, rfl, rfl, rfl⟩))
      (.ite (letGo_tame _) (.refl _))
  have finish (t : State) (old : Rate) (h : Writes s t) :
      Writes s ((bindCountdown (bindCarrier t z old) z).raise (.zone z)) :=
    ((h.trans (bindCarrier_writes t z old)).trans (bindCountdown_writes _ z)).trans (raise_writes _ _)
  exact finish _ _ ((((((autoZone_writes s z _ letsGo).trans (autoZone_writes _ z _ (bindRecord_tame _))).trans
    (rebindDecode_writes _ z _ _)).trans (allocateZone_writes _ z)).trans
    (autoZone_writes _ z _ (fun r => enterPath_tame _ z _ r))).trans (primeDelays_writes _ z))

theorem releaseZone_writes (s : State) (z : ZoneId) : Writes s (releaseZone s z) :=
  ((releaseDecode_writes s z).trans (autoZone_writes _ z _ releaseRecord_tame)).trans (.forEach _ dropChannel_writes _ _)

theorem enterDrain_writes (s : State) (z : ZoneId) : Writes s (enterDrain s z) :=
  ((releaseZone_writes s z).trans (autoZone_writes _ z _ (by exact fun r => (noGain_tame r).trans ⟨id, rfl, rfl, rfl⟩))).trans
    (handDrive_writes _ z _)

theorem powerUpZone_writes (s : State) (z : ZoneId) : Writes s (powerUpZone s z) :=
  ((handDrive_writes s z _).trans (bindZone_writes _ z false)).trans (autoZone_writes _ z _)

theorem powerOn_writes (s : State) (z : ZoneId) (o : Origin) : Writes s (powerOn s z o).1 := by
  unfold powerOn
  split
  · exact (powerUpZone_writes s z).trans (zoneOrigin_writes _ z o)
  · exact zoneOrigin_writes s z o
  · exact zoneOrigin_writes s z o
  · exact ((updZone_writes s z _).trans (startCountdown_writes _ z)).trans (zoneOrigin_writes _ z o)
  · exact (updZone_writes s z _).trans (zoneOrigin_writes _ z o)

theorem powerDownOn_writes (s : State) (z : ZoneId) : Writes s (powerDownOn s z) := by
  have drain (t : State) (h : Writes s t) : Writes s (if (t.zones.get z).qr = none then enterDrain t z else t) :=
    h.trans (.ite (enterDrain_writes t z) (.refl t))
  exact drain _ (((updZone_writes s z _).trans (endTone_writes _ z)).trans (autoZone_writes _ z _))

theorem powerDownStarting_writes (s : State) (z : ZoneId) : Writes s (powerDownStarting s z) :=
  ((releaseZone_writes s z).trans (autoZone_writes _ z _ (by exact fun r => (noGain_tame r).trans ⟨id, rfl, rfl, rfl⟩))).trans
    (handDrive_writes _ z _)

theorem powerOff_writes (s : State) (z : ZoneId) (o : Origin) : Writes s (powerOff s z o).1 := by
  unfold powerOff
  split
  · exact zoneOrigin_writes s z o
  · exact zoneOrigin_writes s z o
  · exact (powerDownStarting_writes s z).trans (zoneOrigin_writes _ z o)
  · exact (powerDownOn_writes s z).trans (zoneOrigin_writes _ z o)
  · exact (updZone_writes s z _).trans (zoneOrigin_writes _ z o)

theorem startExpiry_writes (s : State) (z : ZoneId) : Writes s (startExpiry s z) :=
  .ite (((autoZone_writes s z _).trans (handDrive_writes _ z _)).trans (startCountdown_writes _ z)) (.refl s)

theorem drainExpiry_writes (s : State) (z : ZoneId) : Writes s (drainExpiry s z) := by
  have off : Writes s (handDrive (s.autoZone z fun r =>
      { r with power := .standby, drainTimer := none, restart := none }) z .off) :=
    (autoZone_writes s z _).trans (handDrive_writes _ z _)
  unfold drainExpiry
  dsimp only
  split
  · split
    · exact (off.trans (powerUpZone_writes _ z)).trans (zoneOrigin_writes _ z _)
    · exact off
  · exact .refl s

theorem autoStandbyExpiry_writes (s : State) (z : ZoneId) : Writes s (autoStandbyExpiry s z) :=
  .ite ((powerOff_writes s z .auto).trans (raise_writes _ _)) (.refl s)

theorem rebindCause_writes (s : State) (z : ZoneId) : Writes s (rebindCause s z) := by
  have fade : Writes s (if (s.zones.get z).qr = none then bindZone s z true
      else s.autoZone z fun r => { r with path := .fading }) := .ite (bindZone_writes s z true) (autoZone_writes s z _)
  unfold rebindCause
  dsimp only
  split
  · exact bindZone_writes s z true
  · exact .refl s
  · exact .refl s
  · exact fade
  · exact fade
  · exact bindZone_writes s z true
  · exact bindZone_writes s z true
  · exact .refl s

theorem selectSource_writes (s : State) (z : ZoneId) (src : Option SrcId) (o : Origin) :
    Writes s (selectSource s z src o) :=
  (((endTone_writes s z).trans (updZone_writes _ z _)).trans (rebindCause_writes _ z)).trans (zoneOrigin_writes _ z o)

/-- A volume is taken into −160 to +24 (R77). -/
theorem clampedVolume_tame (q : Int) (r : Zone) : r.Tame { r with qv := clampInt (-160) 24 q } := by
  refine ⟨fun h => ?_, rfl, rfl, rfl⟩
  obtain ⟨-, hq, hi, ha, hb, hr, hs, hc, hm⟩ := h
  exact ⟨clampInt_range (-160) 24 q (by decide), hq, hi, ha, hb, hr, hs, hc, hm⟩

theorem setVolume_writes (s : State) (z : ZoneId) (q : Int) (o : Origin) : Writes s (setVolume s z q o) :=
  (updZone_writes s z _ (clampedVolume_tame q)).trans (zoneOrigin_writes _ z o)

theorem panelVolume_writes (s : State) (z : ZoneId) (n : Int) : Writes s (panelVolume s z n) := by
  have taken := (setVolume_writes s z ((s.zones.get z).qv + n) .panel).trans (raise_writes _ (.zone z))
  unfold panelVolume
  exact .ite taken (taken.trans (raise_writes _ _))

theorem followClock_tame (x : Link) (r : Zone) : r.Tame (followClock x r) := by
  unfold followClock
  exact .ite ⟨id, rfl, rfl, rfl⟩ (.refl r)

theorem zoneOnLink_writes (l : LinkId) (s : State) (z : ZoneId) : Writes s (zoneOnLink l s z) := by
  have rebind (t : State) (b : Bool) (h : Writes s t) : Writes s (if b then rebindCause t z else t) :=
    h.trans (.ite (rebindCause_writes t z) (.refl t))
  have clock (r : Zone) : r.Tame (followClock (s.links.get l) { r with mutes := linkMutes (s.links.get l) r }) :=
    (show r.Tame { r with mutes := linkMutes (s.links.get l) r } from ⟨id, rfl, rfl, rfl⟩).trans (followClock_tame _ _)
  unfold zoneOnLink
  exact .ite (rebind _ _ (autoZone_writes s z _ clock)) (.refl s)

theorem zoneOnActivity_writes (l : LinkId) (s : State) (z : ZoneId) : Writes s (zoneOnActivity l s z) :=
  .ite (.ite (updZone_writes s z _) (startCountdown_writes s z)) (.refl s)

theorem zoneOnTuner_writes (locked : Bool) (s : State) (z : ZoneId) : Writes s (zoneOnTuner locked s z) :=
  .ite (autoZone_writes s z _) (.refl s)

theorem zoneOnEdit_writes (i : SrcId) (s : State) (z : ZoneId) : Writes s (zoneOnEdit i s z) :=
  .ite (rebindCause_writes s z) (.refl s)

/-- A ramp step leaves qr within its range, for the target is qv or silence (R74, R75). -/
theorem rampStep_tame (r : Zone) : r.Tame { r with rampCount := 0, qr := rampNext r.qr r.target } := by
  refine ⟨fun h => ?_, rfl, rfl, rfl⟩
  obtain ⟨hv, hq, hi, ha, hb, hr, hs, hc, hm⟩ := h
  have target : ∀ q, r.target = some q → -160 ≤ q ∧ q ≤ 24 := by
    intro q e
    unfold Zone.target at e
    split at e
    · cases e; exact hv
    · cases e
  exact ⟨hv, rampNext_range hq target, hi, ha, hb, hr, hs, hc, hm⟩

theorem rampStep_writes (s : State) (z : ZoneId) : Writes s (rampStep s z) := by
  have stepped : Writes s (s.updZone z fun r =>
      { r with rampCount := 0, qr := rampNext (s.zones.get z).qr (s.zones.get z).target }) :=
    (Write.zone s z _ (rampStep_tame (s.zones.get z))).run
  unfold rampStep
  dsimp only
  split
  · exact .refl s
  · exact .ite (.ite ((stepped.trans (enterDrain_writes _ z)).trans (zoneOrigin_writes _ z _))
      (.ite ((stepped.trans (bindZone_writes _ z true)).trans (zoneOrigin_writes _ z _)) stepped)) stepped

/-! ## Output frames -/

theorem takeVals_tame (spk : Vector Speaker 12) (z : ZoneId) (r : Zone) (v : DescValues) : r.Tame (r.takeVals spk z v) := by
  unfold Zone.takeVals
  exact .ite ⟨id, rfl, rfl, rfl⟩ ⟨id, rfl, rfl, rfl⟩

/-- A frame read leaves a shorter buffer, and an empty buffer counts one REPEAT within its range (R81). -/
theorem readFrame_tame (spk : Vector Speaker 12) (z : ZoneId) (r : Zone) : r.Tame (r.readFrame spk z).1 := by
  have shorter (f : BufFrame) (rest : List BufFrame) (e : r.buffer = f :: rest) : r.Tame { r with buffer := rest } := by
    refine ⟨fun h => ?_, rfl, rfl, rfl⟩
    obtain ⟨hv, hq, hi, ha, hb, hr, hs, hc, hm⟩ := h
    rw [e] at hb
    exact ⟨hv, hq, hi, ha, Nat.le_of_succ_le hb, hr, hs, hc, hm⟩
  unfold Zone.readFrame
  split
  · split
    · refine ⟨fun h => ?_, rfl, rfl, rfl⟩
      obtain ⟨hv, hq, hi, ha, hb, -, hs, hc, hm⟩ := h
      exact ⟨hv, hq, hi, ha, hb, satAdd_le _ _, hs, hc, hm⟩
    · rename_i f rest e
      dsimp only
      split
      · exact (shorter f rest e).trans (takeVals_tame spk z _ _)
      · exact shorter f rest e
  · exact .refl r

theorem takeShadow_tame (r : Zone) : r.Tame r.takeShadow := by
  unfold Zone.takeShadow
  split
  · exact ⟨id, rfl, rfl, rfl⟩
  · exact .refl r

theorem shiftTone_tame (r : Zone) : r.Tame r.shiftTone := .ite ⟨id, rfl, rfl, rfl⟩ (.refl r)

theorem countTone_tame (r : Zone) : r.Tame r.countTone := .ite ⟨id, rfl, rfl, rfl⟩ (.refl r)

theorem countClips_tame (n : Nat) (r : Zone) : r.Tame { r with clips := satAdd r.clips n } := by
  refine ⟨fun h => ?_, rfl, rfl, rfl⟩
  obtain ⟨hv, hq, hi, ha, hb, hr, hs, -, hm⟩ := h
  exact ⟨hv, hq, hi, ha, hb, hr, hs, satAdd_le _ _, hm⟩

theorem frameRow_writes (z : ZoneId) (source : Vector Sample 8) (s : State) (row : CoefRow) :
    Writes s (frameRow z source s row) :=
  (updZone_writes s z _ (countClips_tame _)).trans (updChannel_writes _ _ _)

theorem formFrame_writes (s : State) (z : ZoneId) : Writes s (formFrame s z) := by
  have read := ((readFrame_tame s.speakers z (s.zones.get z)).trans (takeShadow_tame _)).trans (shiftTone_tame _)
  exact ((Write.zone s z _ read).run.trans (.forEach _ (frameRow_writes z _) _ _)).trans
    (updZone_writes _ z _ countTone_tame)

theorem countRampFrame_writes (s : State) (z : ZoneId) : Writes s (countRampFrame s z) :=
  .ite (.refl s) (.ite (rampStep_writes s z) (updZone_writes s z _))

theorem outputFrame_writes (s : State) (z : ZoneId) : Writes s (outputFrame s z) := by
  have formed : Writes s (if (s.zones.get z).power.isBound then formFrame s z else s) :=
    .ite (formFrame_writes s z) (.refl s)
  exact formed.trans (countRampFrame_writes _ z)

theorem bufferFills_writes (s : State) (z : ZoneId) (x : Vector Sample 8) : Writes s (bufferFills s z x) :=
  .ite (writeFrame_writes s z _) (.refl s)

/-! ## Options -/

theorem storeClock_writes (s : State) (z : ZoneId) (m : ClockMode) : Writes s (storeClock s z m) := by
  have restart (t : State) (old : Rate) (h : Writes s t) :
      Writes s (if (t.zones.get z).rate = old then t else restartCarrier t z) :=
    h.trans (.ite (.refl t) (restartCarrier_writes t z))
  exact restart _ _ (updZone_writes s z _)

theorem setZoneOptions_writes (s : State) (z : ZoneId) (opt : ZoneOptions) (o : Origin)
    (hr : 1 ≤ opt.rampInterval ∧ opt.rampInterval ≤ 64) (ha : opt.autoStandby ≤ 120) :
    Writes s (setZoneOptions s z opt o) := by
  have stored (r : Zone) : r.Tame
      { r with mode := opt.mode, night := opt.night, clockMode := opt.clockMode, rampInterval := opt.rampInterval,
               autoStandby := opt.autoStandby } := by
    refine ⟨fun h => ?_, rfl, rfl, rfl⟩
    obtain ⟨hv, hq, -, -, hb, hp, hs, hc, hm⟩ := h
    exact ⟨hv, hq, hr, ha, hb, hp, hs, hc, hm⟩
  have shadowed (r : Zone) (b : Prop) [Decidable b] (cs : Option CoefSet) : r.Tame (if b then { r with shadow := cs } else r) :=
    .ite ⟨id, rfl, rfl, rfl⟩ (.refl r)
  have counted (r : Zone) (b : Prop) [Decidable b] : r.Tame (if b then { r with rampCount := 0 } else r) :=
    .ite ⟨id, rfl, rfl, rfl⟩ (.refl r)
  have clock (t : State) (h : Writes s t) (a b : Prop) [Decidable a] [Decidable b] :
      Writes s (if a then t else if b then rebindCause t z else storeClock t z opt.clockMode) :=
    h.trans (.ite (.refl t) (.ite (rebindCause_writes t z) (storeClock_writes t z _)))
  have countdown (t : State) (h : Writes s t) (a b : Prop) [Decidable a] [Decidable b] :
      Writes s (if a then t else if b then t.updZone z fun r => { r with countdown := none } else startCountdown t z) :=
    h.trans (.ite (.refl t) (.ite (updZone_writes t z _) (startCountdown_writes t z)))
  exact (countdown _ (clock _ (updZone_writes s z _ fun r =>
    ((stored r).trans (shadowed _ _ _)).trans (counted _ _)) _ _) _ _).trans (zoneOrigin_writes _ z o)

end Sys2Proof.Machine
end

section
/-! The tuner, the panel encoders, the monitors and the link receivers as runs of writes. -/

namespace Sys2Proof.Machine

/-! ## Tuner -/

theorem Tuner.Plain.refl (x : Tuner) : x.Plain x := ⟨rfl, rfl, rfl⟩

theorem Tuner.Plain.trans {x y w : Tuner} (h : x.Plain y) (k : y.Plain w) : x.Plain w :=
  ⟨k.presets.trans h.presets, k.completions.trans h.completions, k.nextNumber.trans h.nextNumber⟩

/-- The presets stay, and the completions change only with their number. -/
structure Tuner.Tame (x y : Tuner) : Prop where
  presets : y.presets = x.presets
  numbered : x.Numbered y

theorem Tuner.Plain.tame {x y : Tuner} (h : x.Plain y) : x.Tame y := ⟨h.presets, .inl h.completions⟩

theorem Tuner.Plain.trans_tame {x y w : Tuner} (h : x.Plain y) (k : y.Tame w) : x.Tame w := by
  refine ⟨k.presets.trans h.presets, ?_⟩
  rcases k.numbered with e | e
  · exact .inl (e.trans h.completions)
  · exact .inr (h.nextNumber ▸ e)

theorem Tuner.Tame.trans_plain {x y w : Tuner} (h : x.Tame y) (k : y.Plain w) : x.Tame w := by
  refine ⟨k.presets.trans h.presets, ?_⟩
  rcases h.numbered with e | e
  · exact .inl (k.completions.trans e)
  · exact .inr (k.nextNumber ▸ e)

theorem Tuner.acquire_plain (x : Tuner) : x.Plain x.acquire := ⟨rfl, rfl, rfl⟩

theorem Tuner.returnToStart_plain (x : Tuner) : x.Plain x.returnToStart := ⟨rfl, rfl, rfl⟩

theorem Tuner.tryCandidate_plain (x : Tuner) (f left : Nat) : x.Plain (x.tryCandidate f left) := ⟨rfl, rfl, rfl⟩

theorem Tuner.advance_plain (x : Tuner) : x.Plain x.advance := by
  unfold Tuner.advance
  split
  · exact x.returnToStart_plain
  · exact x.tryCandidate_plain _ _

/-- A search goes on in the state of its operation. -/
theorem Tuner.advance_state (x : Tuner) : x.advance.state = x.state := by
  unfold Tuner.advance
  split <;> rfl

/-- A completion takes the next number (R175). -/
theorem Tuner.complete_tame (x : Tuner) (r : TunerResult) : x.Tame (x.complete r) := by
  unfold Tuner.complete
  split
  · exact (Plain.refl x).tame
  · refine ⟨rfl, .inr fun h => ?_⟩
    have one : (1 : Byte) = 0 := by simp at h
    exact absurd one (by decide)

theorem Tuner.supersede_tame (x : Tuner) : x.Tame x.supersede := (x.complete_tame .aborted).trans_plain ⟨rfl, rfl, rfl⟩

theorem Tuner.tuneTo_tame (x : Tuner) (b : Band) (f : Nat) (op : TunerOp) (o : Origin) : x.Tame (x.tuneTo b f op o) :=
  x.supersede_tame.trans_plain ⟨rfl, rfl, rfl⟩

theorem Tuner.beginSeek_tame (x : Tuner) (up : Bool) (o : Origin) : x.Tame (x.beginSeek up o) :=
  (x.supersede_tame.trans_plain (by exact ⟨rfl, rfl, rfl⟩)).trans_plain (Tuner.advance_plain _)

theorem Tuner.beginScan_tame (x : Tuner) (o : Origin) : x.Tame (x.beginScan o) := by
  unfold Tuner.beginScan
  dsimp only
  split <;> exact x.supersede_tame.trans_plain ⟨rfl, rfl, rfl⟩

theorem Tuner.afterLock_tame (now : Millis) (x : Tuner) : x.Tame (x.afterLock now) := by
  unfold Tuner.afterLock
  split
  · exact Plain.tame ⟨rfl, rfl, rfl⟩
  · exact (x.complete_tame _).trans_plain ⟨rfl, rfl, rfl⟩

theorem Tuner.afterFailure_tame (x : Tuner) : x.Tame x.afterFailure := by
  unfold Tuner.afterFailure
  split
  · exact x.advance_plain.tame
  · exact (x.complete_tame _).trans_plain ⟨rfl, rfl, rfl⟩

theorem Tuner.iterate_tame (now : Millis) (x : Tuner) (e : Int) : x.Tame (x.iterate now e) := by
  unfold Tuner.iterate
  dsimp only
  split
  · exact Plain.trans_tame (by exact ⟨rfl, rfl, rfl⟩) (Tuner.afterLock_tame now _)
  · split
    · exact Plain.trans_tame (by exact ⟨rfl, rfl, rfl⟩) (Tuner.afterFailure_tame _)
    · exact Plain.tame ⟨rfl, rfl, rfl⟩

theorem Tuner.afc_plain (now : Millis) (x : Tuner) (e : Int) : x.Plain (x.afc now e) := by
  unfold Tuner.afc
  split
  · exact ⟨rfl, rfl, rfl⟩
  · split <;> exact ⟨rfl, rfl, rfl⟩

theorem Tuner.gateEnd_tame (now : Millis) (x : Tuner) (lo : Option Int) : x.Tame (x.gateEnd now lo) := by
  have measured : x.Plain { x with measured := lo.map (· - (x.band.ifOffset : Int)) } := ⟨rfl, rfl, rfl⟩
  unfold Tuner.gateEnd
  dsimp only
  split
  · exact measured.trans_tame (Tuner.afc_plain now _ _).tame
  · split
    · exact measured.trans_tame (Tuner.iterate_tame now _ _)
    · exact Plain.tame ⟨rfl, rfl, rfl⟩

theorem putTuner_writes (s : State) {x : Tuner} (h : s.tuner.Tame x) : Writes s (s.putTuner x) :=
  (Write.tuner s x h.presets h.numbered).run

theorem setTuner_writes (s : State) {x : Tuner} (h : s.tuner.Tame x) : Writes s (setTuner s x) :=
  (putTuner_writes s h).trans (.ite (.refl _) (.forEach _ (zoneOnTuner_writes _) _ _))

theorem endGate_writes (s : State) (lo : Option Int) : Writes s (endGate s lo) :=
  .ite (setTuner_writes s (Tuner.gateEnd_tame s.ms s.tuner lo)) (.refl s)

theorem abandonGate_writes (s : State) : Writes s (abandonGate s) := .ite (endGate_writes s none) (.refl s)

theorem freqEdge_writes (s : State) (ticks : Nat) : Writes s (freqEdge s ticks) := by
  unfold freqEdge
  split
  · exact putTuner_writes s (Tuner.Plain.tame ⟨rfl, rfl, rfl⟩)
  · exact .ite (endGate_writes s _) (putTuner_writes s (Tuner.Plain.tame ⟨rfl, rfl, rfl⟩))
  · exact .refl s

theorem transferDac_writes (s : State) : Writes s (transferDac s) :=
  (takeSnapshot_writes s).trans (Write.millisecond _ _ _).run

theorem settleExpiry_writes (s : State) : Writes s (settleExpiry s) := by
  unfold settleExpiry
  split
  · exact .ite (putTuner_writes s (Tuner.Plain.tame ⟨rfl, rfl, rfl⟩)) (.refl s)
  · exact .refl s

theorem afcExpiry_writes (s : State) : Writes s (afcExpiry s) :=
  .ite (putTuner_writes s (Tuner.Plain.tame ⟨rfl, rfl, rfl⟩)) (.refl s)

/-- A record that keeps the tuner's state is written without an announcement to the zones (R176). -/
theorem setTuner_same_state (s : State) {x : Tuner} (h : x.state = s.tuner.state) : setTuner s x = s.putTuner x := by
  simp [setTuner, h]

theorem scanFound_writes (s : State) {x : Tuner} (level : Nat) (h : s.tuner.Plain x) (hx : x.state = s.tuner.state) :
    Writes s (scanFound s x level) := by
  unfold scanFound
  split
  · exact setTuner_writes s (h.trans x.returnToStart_plain).tame
  · split
    · exact setTuner_writes s (h.trans x.advance_plain).tame
    · have found (y : Tuner) (hy : y.completions = s.tuner.completions) (hs : y.state = s.tuner.state) :
          Writes s ((setTuner s y).raise .presets) := by
        rw [setTuner_same_state s hs]
        exact (Write.presets s y (.inl hy)).run
      dsimp only
      split
      · exact found _ h.completions hx
      · exact found _ ((Tuner.advance_plain _).completions.trans h.completions) ((Tuner.advance_state _).trans hx)

theorem testVerdict_writes (s : State) {x : Tuner} (readings : List (Nat × Bool)) (level : Nat) (h : s.tuner.Plain x)
    (hx : x.state = s.tuner.state) : Writes s (testVerdict s x readings level) := by
  unfold testVerdict
  split
  · split
    · exact scanFound_writes s level h hx
    · exact setTuner_writes s (h.trans_tame ((x.complete_tame _).trans_plain ⟨rfl, rfl, rfl⟩))
  · exact setTuner_writes s (h.trans x.advance_plain).tame

theorem takeReading_writes (s : State) {x : Tuner} (level : Nat) (pilot : Bool) (h : s.tuner.Plain x)
    (hx : x.state = s.tuner.state) : Writes s (takeReading s x level pilot) := by
  have read : s.tuner.Plain { x with level := level, pilot := pilot } := h.trans ⟨rfl, rfl, rfl⟩
  unfold takeReading
  dsimp only
  split
  · split
    · exact testVerdict_writes s _ level (read.trans ⟨rfl, rfl, rfl⟩) hx
    · exact putTuner_writes s (read.trans (by exact ⟨rfl, rfl, rfl⟩)).tame
  · exact putTuner_writes s read.tame

theorem levelRise_writes (s : State) (period : Nat) (pilot : Bool) : Writes s (levelRise s period pilot) := by
  unfold levelRise
  split
  · exact takeReading_writes s _ pilot ⟨rfl, rfl, rfl⟩ rfl
  · exact putTuner_writes s (Tuner.Plain.tame ⟨rfl, rfl, rfl⟩)

theorem levelFall_writes (s : State) (high : Nat) : Writes s (levelFall s high) :=
  putTuner_writes s (Tuner.Plain.tame ⟨rfl, rfl, rfl⟩)

theorem levelTimeout_writes (s : State) (pilot : Bool) : Writes s (levelTimeout s pilot) :=
  .ite (takeReading_writes s _ pilot ⟨rfl, rfl, rfl⟩ rfl) (.refl s)

theorem thirdReading_writes (s : State) (period : Nat) (pilot : Bool) : Writes s (thirdReading s period pilot) :=
  .ite (levelRise_writes s period pilot) (.refl s)

theorem panelTune_writes (s : State) (n : Int) : Writes s (panelTune s n) := by
  have tuned (f : Nat) := setTuner_writes s (s.tuner.tuneTo_tame s.tuner.band f .step .panel)
  unfold panelTune
  exact .ite (.refl s) (.ite (tuned _) ((tuned _).trans (raise_writes _ _)))

/-! ## Panel encoders -/

theorem putEncoder_writes (s : State) (e : EncId) (r : Encoder) : Writes s (s.putEncoder e r) := (Write.encoder s e r).run

theorem panelSource_writes (s : State) (n : Int) : Writes s (panelSource s n) := by
  unfold panelSource
  dsimp only
  split
  · split
    · exact .refl s
    · exact .ite (.refl s) (selectSource_writes s 0 _ _)
  · exact .refl s

theorem handSteps_writes (s : State) (b : Binding) (n : Int) : Writes s (handSteps s b n) := by
  cases b with
  | volume z => exact .ite (panelVolume_writes s z n) (.refl s)
  | tune => exact panelTune_writes s n
  | source => exact panelSource_writes s n
  | none => exact .refl s

theorem makeDetent_writes (s : State) (e : EncId) (clockwise : Bool) : Writes s (makeDetent s e clockwise) :=
  (putEncoder_writes s e _).trans (handSteps_writes _ _ _)

theorem takeQuarter_writes (s : State) (e : EncId) (clockwise : Bool) : Writes s (takeQuarter s e clockwise) :=
  .ite (makeDetent_writes s e clockwise) (putEncoder_writes s e _)

theorem lineChange_writes (s : State) (e : EncId) (a b : Bool) : Writes s (lineChange s e a b) :=
  .ite (.refl s) (putEncoder_writes s e _)

theorem filterTakes_writes (s : State) (e : EncId) : Writes s (filterTakes s e) := by
  unfold filterTakes
  dsimp only
  split
  · exact putEncoder_writes s e _
  · split
    · exact .refl s
    · split
      · exact (putEncoder_writes s e _).trans (takeQuarter_writes _ e true)
      · exact (putEncoder_writes s e _).trans (takeQuarter_writes _ e false)
      · exact putEncoder_writes s e _

theorem filterSettled_writes (s : State) (e : EncId) : Writes s (filterSettled s e) :=
  .ite (filterTakes_writes s e) (.refl s)

/-! ## Activity monitors -/

theorem offerAutoOn_writes (s : State) (l : LinkId) : Writes s (offerAutoOn s l) := by
  unfold offerAutoOn
  split
  · split
    · exact (((updZone_writes s 0 _).trans (powerUpZone_writes _ 0)).trans (zoneOrigin_writes _ 0 _)).trans (raise_writes _ _)
    · exact .refl s
  · exact .refl s

theorem setMonitor_writes (s : State) (l : LinkId) (m : Monitor) : Writes s (setMonitor s l m) := by
  have announced (t : State) (b : Bool) (h : Writes s t) :
      Writes s (if b then t.forEach zoneIds (zoneOnActivity l) else t) :=
    h.trans (.ite (.forEach _ (zoneOnActivity_writes l) _ t) (.refl t))
  have offered (t : State) (b : Prop) [Decidable b] (h : Writes s t) : Writes s (if b then offerAutoOn t l else t) :=
    h.trans (.ite (offerAutoOn_writes t l) (.refl t))
  exact offered _ _ (announced _ _ (Write.monitor s l m).run)

theorem monitorOnLink_writes (s : State) (l : LinkId) : Writes s (monitorOnLink s l) :=
  .ite (setMonitor_writes s l _) (setMonitor_writes s l _)

theorem quietExpiry_writes (s : State) (l : LinkId) : Writes s (quietExpiry s l) := .ite (setMonitor_writes s l _) (.refl s)

theorem judgeBlock_writes (s : State) (l : LinkId) (loud : Bool) : Writes s (judgeBlock s l loud) :=
  .ite (.ite (setMonitor_writes s l _) (setMonitor_writes s l _)) (setMonitor_writes s l _)

theorem monitorFrame_writes (s : State) (l : LinkId) (first last loud : Bool) : Writes s (monitorFrame s l first last loud) := by
  unfold monitorFrame
  dsimp only
  split
  · exact .refl s
  · exact setMonitor_writes s l _
  · split
    · exact (setMonitor_writes s l _).trans (judgeBlock_writes _ l _)
    · exact setMonitor_writes s l _

theorem monitorBlock_writes (s : State) (l : LinkId) (loud : Bool) : Writes s (monitorBlock s l loud) := by
  unfold monitorBlock
  dsimp only
  split
  · exact .refl s
  · exact .ite (setMonitor_writes s l _) (.refl s)
  · exact judgeBlock_writes s l loud

theorem monitorReached_writes (s : State) (l : LinkId) : Writes s (monitorReached s l) :=
  .ite (setMonitor_writes s l _) (.refl s)

/-! ## Link receivers -/

theorem Link.countCode_inRange (n : Nat) (r : Link) (h : r.counters.inRange) : (r.countCode n).counters.inRange := by
  obtain ⟨hc, hd, hs, hb⟩ := h
  exact ⟨Counter.bump_inRange n hc, hd, hs, hb⟩

theorem Link.countDescriptor_inRange (r : Link) (h : r.counters.inRange) : r.countDescriptor.counters.inRange := by
  obtain ⟨hc, hd, hs, hb⟩ := h
  exact ⟨hc, Counter.bump_inRange 1 hd, hs, hb⟩

theorem Link.countSequence_inRange (d : Descriptor) (r : Link) (h : r.counters.inRange) :
    (r.countSequence d).counters.inRange := by
  unfold Link.countSequence
  split
  · exact h
  · obtain ⟨hc, hd, hs, hb⟩ := h
    exact ⟨hc, hd, Counter.bump_inRange 1 hs, hb⟩

theorem announceState_writes (s : State) (l : LinkId) : Writes s (announceState s l) :=
  ((monitorOnLink_writes s l).trans (arbiterLink_writes _ l)).trans (.forEach _ (zoneOnLink_writes l) _ _)

theorem announceFormat_writes (s : State) (l : LinkId) : Writes s (announceFormat s l) :=
  (arbiterLink_writes s l).trans (.forEach _ (zoneOnLink_writes l) _ _)

theorem enterMeasure_writes (s : State) (l : LinkId) : Writes s (enterMeasure s l) :=
  (updLink_writes s l _).trans (announceState_writes _ l)

theorem enterRecover_writes (s : State) (l : LinkId) : Writes s (enterRecover s l) := by
  have silenced (t : State) (h : Writes s t) : Writes s (announceState (match servingUnit t l with
      | some u => unitSilent t u false
      | none => t) l) := by
    split
    · exact (h.trans (unitSilent_writes t _ _)).trans (announceState_writes _ l)
    · exact h.trans (announceState_writes _ l)
  exact silenced _ (updLink_writes s l _)

theorem frameToZones_writes (s : State) (l : LinkId) (f : BufFrame) : Writes s (frameToZones s l f) :=
  .forEach _ (fun t z => .ite (writeFrame_writes t z f) (.refl t)) _ s

theorem deliverFrame_writes (s : State) (l : LinkId) : Writes s (deliverFrame s l) := by
  unfold deliverFrame
  dsimp only
  split
  · exact .refl s
  · split
    · exact updLink_writes s l _
    · exact ((updLink_writes s l _ (by exact fun r => Link.countCode_inRange _ r)).trans (frameToZones_writes _ l _)).trans
        (monitorFrame_writes _ l _ _ _)

theorem unitDelivers_writes (s : State) (l : LinkId) : Writes s (unitDelivers s l) := by
  unfold unitDelivers
  split
  · exact unitFrame_writes s _
  · exact .refl s

theorem recoverZero_writes (s : State) (l : LinkId) : Writes s (recoverZero s l) :=
  .ite (unitDelivers_writes s l) (frameToZones_writes s l _)

theorem releaseGood_writes (s : State) (l : LinkId) (d : Descriptor) (fs : List RawFrame) (announce : State → State)
    (h : ∀ t, Writes t (announce t)) : Writes s (releaseGood s l d fs announce) := by
  unfold releaseGood
  dsimp only
  split
  · have taken (t : State) (k : Writes s t) (m : List MantissaFrame) : Writes s (match servingUnit t l with
        | some u => unitTakesBlock t u l d m
        | none => t) := by
      split
      · exact k.trans (unitTakesBlock_writes t _ l d m)
      · exact k
    exact ((taken _ (updLink_writes s l _ (by exact fun r => Link.countCode_inRange _ _)) _).trans (h _)).trans
      (monitorBlock_writes _ l _)
  · exact ((updLink_writes s l _).trans (h _)).trans (updLink_writes _ l _)

theorem enterLocked_writes (s : State) (l : LinkId) (d : Descriptor) (fs : List RawFrame) : Writes s (enterLocked s l d fs) :=
  (updLink_writes s l _).trans (releaseGood_writes _ l d fs _ fun t => announceState_writes t l)

theorem releaseBad_writes (s : State) (l : LinkId) (fs : List RawFrame) : Writes s (releaseBad s l fs) := by
  unfold releaseBad
  split
  · exact .refl s
  · split
    · refine Writes.trans ?_ (monitorBlock_writes _ l _)
      split
      · exact unitSilent_writes s _ _
      · exact .refl s
    · exact updLink_writes s l _

theorem lockedBlockEnd_writes (s : State) (l : LinkId) : Writes s (lockedBlockEnd s l) := by
  unfold lockedBlockEnd
  dsimp only
  split
  · refine (updLink_writes s l _ (Link.countSequence_inRange _)).trans (.ite (enterMeasure_writes _ l) ?_)
    exact releaseGood_writes _ l _ _ _ fun t => .ite (.refl t) (announceFormat_writes t l)
  · refine (updLink_writes s l _ (by exact Link.countDescriptor_inRange)).trans (.ite (enterMeasure_writes _ l) ?_)
    exact .ite (enterRecover_writes _ l) (releaseBad_writes _ l _)

theorem recoverFrame_writes (s : State) (l : LinkId) (f : LinkFrame) : Writes s (recoverFrame s l f) := by
  have zero := recoverZero_writes s l
  unfold recoverFrame
  generalize recoverZero s l = t at zero ⊢
  dsimp only
  refine zero.trans (.ite (.ite (updLink_writes t l _) (.refl t)) (.ite (.ite (updLink_writes t l _) (updLink_writes t l _))
    (.ite (updLink_writes t l _) ?_)))
  have joined : Writes t (t.updLink l fun r => r.readFrame f) := updLink_writes t l _
  split
  · split
    · exact joined.trans (enterLocked_writes _ l _ _)
    · exact joined.trans (updLink_writes _ l _ Link.countDescriptor_inRange)
  · exact joined

theorem lockedFrame_writes (s : State) (l : LinkId) (f : LinkFrame) : Writes s (lockedFrame s l f) := by
  have arrived (r : Link) (h : r.counters.inRange) :
      ((if f.wellFormed then r else r.countCode 1).readFrame f).counters.inRange := by
    split
    · exact h
    · exact Link.countCode_inRange 1 r h
  unfold lockedFrame
  dsimp only
  exact .ite ((enterRecover_writes s l).trans (recoverZero_writes _ l)) (.trans (((deliverFrame_writes s l).trans
    (unitDelivers_writes _ l)).trans (updLink_writes _ l _ arrived)) (.ite (lockedBlockEnd_writes _ l) (.refl _)))

theorem alignFrame_writes (s : State) (l : LinkId) (f : LinkFrame) : Writes s (alignFrame s l f) := by
  unfold alignFrame
  dsimp only
  refine .ite (.ite (updLink_writes s l _) (.refl s)) (.ite (.ite ?_ (updLink_writes s l _))
    (.ite (updLink_writes s l _) (updLink_writes s l _)))
  split
  · exact .ite ((enterLocked_writes s l _ _).trans (lockedFrame_writes _ l f)) (updLink_writes s l _)
  · exact updLink_writes s l _

theorem closeMeasurement_writes (s : State) (l : LinkId) (ticks : Nat) (wf : Bool) :
    Writes s (closeMeasurement s l ticks wf) := by
  unfold closeMeasurement
  split
  · exact (updLink_writes s l _).trans (announceState_writes _ l)
  · exact updLink_writes s l _

theorem measureFrame_writes (s : State) (l : LinkId) (f : LinkFrame) : Writes s (measureFrame s l f) := by
  unfold measureFrame
  split
  · exact updLink_writes s l _
  · exact .ite (closeMeasurement_writes s l _ _) (updLink_writes s l _)

theorem detectFrame_writes (s : State) (l : LinkId) : Writes s (detectFrame s l) :=
  .ite (updLink_writes s l _) (.ite (enterMeasure_writes s l) (updLink_writes s l _))

theorem restartLoss_writes (s : State) (l : LinkId) : Writes s (restartLoss s l) := updLink_writes s l _

theorem linkFrame_writes (s : State) (l : LinkId) (f : LinkFrame) : Writes s (linkFrame s l f) := by
  have loss := restartLoss_writes s l
  unfold linkFrame
  split
  · exact .refl s
  · exact loss.trans (detectFrame_writes _ l)
  · exact loss.trans (detectFrame_writes _ l)
  · exact loss.trans (measureFrame_writes _ l f)
  · exact loss.trans (measureFrame_writes _ l f)
  · exact loss.trans (alignFrame_writes _ l f)
  · exact loss.trans (alignFrame_writes _ l f)
  · exact loss.trans (lockedFrame_writes _ l f)
  · exact loss.trans (recoverFrame_writes _ l f)
  · exact loss.trans (recoverFrame_writes _ l f)

theorem lossOfSignal_writes (s : State) (l : LinkId) : Writes s (lossOfSignal s l) :=
  .ite ((updLink_writes s l _).trans (announceState_writes _ l)) (.refl s)

theorem detectReached_writes (s : State) (l : LinkId) : Writes s (detectReached s l) :=
  .ite ((restartLoss_writes s l).trans (enterMeasure_writes _ l)) (.refl s)

theorem measurementEnds_writes (s : State) (l : LinkId) (ticks : Nat) (wf : Bool) :
    Writes s (measurementEnds s l ticks wf) :=
  .ite ((restartLoss_writes s l).trans (closeMeasurement_writes _ l ticks wf)) (.refl s)

theorem endBlock_writes (s : State) (l : LinkId) (f : LinkFrame) : Writes s (endBlock s l f) :=
  .ite (linkFrame_writes s l f) (.refl s)

theorem endErrorRun_writes (s : State) (l : LinkId) (f : LinkFrame) : Writes s (endErrorRun s l f) :=
  .ite (.ite (linkFrame_writes s l f) (.refl s)) (.refl s)

theorem alignmentExpiry_writes (s : State) (l : LinkId) : Writes s (alignmentExpiry s l) :=
  .ite (enterMeasure_writes s l) (.refl s)

theorem recoveryExpiry_writes (s : State) (l : LinkId) : Writes s (recoveryExpiry s l) :=
  .ite (enterMeasure_writes s l) (.refl s)

theorem enableLink_writes (s : State) (l : LinkId) : Writes s (enableLink s l) :=
  .ite ((updLink_writes s l _).trans (announceState_writes _ l)) (updLink_writes s l _)

theorem disableLink_writes (s : State) (l : LinkId) : Writes s (disableLink s l) :=
  .ite (updLink_writes s l _) ((updLink_writes s l _).trans (announceState_writes _ l))

theorem writeSource_writes (s : State) (i : SrcId) (e : SourceEntry) : Writes s (writeSource s i e) :=
  (Write.source s i e).run.trans (.forEach _ (zoneOnEdit_writes i) _ _)

end Sys2Proof.Machine
end

section
/-! The requests and the commands as runs of writes. -/

namespace Sys2Proof.Machine

/-! ## Transactions -/

@[simp] theorem State.reply_state (s : State) (r : Result) : (s.reply r).state = s := rfl

@[simp] theorem State.ok_state (s : State) (data : List Byte) : (s.ok data).state = s := rfl

@[simp] theorem State.okOrLimited_state (s : State) (b : Bool) (data : List Byte) : (s.okOrLimited b data).state = s := rfl

theorem putPort_writes (s : State) (p : Port) (r : PortState) (h : r.flags = (s.ports.get p).flags) :
    Writes s (s.putPort p r) := (Write.port s p r h).run

/-- A request is a run of writes where its owner's taking is one: the port keeps its flag copy (R192, R199). -/
theorem serve_writes (s : State) (p : Port) (tag : Byte) (payload : List Byte) (owner : State → Reply)
    (h : ∀ t, Writes t (owner t).state) : Writes s (serve s p tag payload owner) := by
  unfold serve
  dsimp only
  split
  · exact putPort_writes s p _ rfl
  · have ended := putPort_writes s p ((s.ports.get p).complete (decide (250 < payload.length))
      (List.replicate (2 + payload.length) 0)) rfl
    split
    · exact ended
    · exact (ended.trans (h _)).trans (putPort_writes _ p _ rfl)

theorem oneIndex_writes (n : Nat) (payload : List Byte) (s : State) (f : State → Fin n → Reply)
    (h : ∀ i, Writes s (f s i).state) : Writes s (oneIndex n payload s f).state := by
  unfold oneIndex
  split
  · split
    · exact h _
    · exact .refl s
  · exact .refl s

theorem noPayload_writes (payload : List Byte) (s : State) (f : State → Reply) (h : Writes s (f s).state) :
    Writes s (noPayload payload s f).state := by
  unfold noPayload
  split
  · exact h
  · exact .refl s

theorem pollPort_writes (s : State) (p : Port) : Writes s (pollPort s p) :=
  .ite (putPort_writes s p _ rfl) (putPort_writes s p _ rfl)

theorem fetchPort_writes (s : State) (p : Port) (n : Nat) : Writes s (fetchPort s p n) :=
  .ite (putPort_writes s p _ rfl) (putPort_writes s p _ rfl)

theorem malformedPort_writes (s : State) (p : Port) (mosi : List Byte) (bits : Nat) :
    Writes s (malformedPort s p mosi bits) :=
  .ite (.ite (putPort_writes s p _ rfl) (putPort_writes s p _ rfl)) (.refl s)

theorem selectPort_writes (s : State) (p : Port) : Writes s (selectPort s p) := by
  refine putPort_writes s p _ ?_
  dsimp only
  split <;> rfl

theorem reqSetEventMask_writes (p : Port) (payload : List Byte) (s : State) :
    Writes s (reqSetEventMask p payload s).state := by
  unfold reqSetEventMask
  split
  · exact putPort_writes s p _ rfl
  · exact .refl s

theorem reqGetEventMask_writes (p : Port) (payload : List Byte) (s : State) :
    Writes s (reqGetEventMask p payload s).state := noPayload_writes payload s _ (.refl s)

/-! ## Links, sources, zones -/

theorem reqSetLinkOptions_writes (payload : List Byte) (s : State) : Writes s (reqSetLinkOptions payload s).state := by
  unfold reqSetLinkOptions
  split
  · split
    · rw [State.okOrLimited_state]
      exact updLink_writes s _ _
    · exact .refl s
  · exact .refl s

theorem clearTotals_inRange {c : LinkCounters} (h : c.inRange) : (clearTotals c).inRange := by
  obtain ⟨hc, hd, hs, hb⟩ := h
  exact ⟨Counter.clearTotal_inRange hc, Counter.clearTotal_inRange hd, Counter.clearTotal_inRange hs,
    Counter.clearTotal_inRange hb⟩

theorem clearCounters_writes (s : State) (l : LinkId) :
    Writes s (s.updLink l fun r => { r with counters := clearTotals r.counters }) :=
  updLink_writes s l _ (by exact fun _ => clearTotals_inRange)

theorem reqSetSource_writes (payload : List Byte) (s : State) : Writes s (reqSetSource payload s).state := by
  unfold reqSetSource
  split
  · split
    · exact writeSource_writes s _ _
    · exact .refl s
  · exact .refl s

theorem clearZoneCounters_writes (s : State) (z : ZoneId) (o : Origin) :
    Writes s ((s.updZone z fun r => { r with repeats := 0, skips := 0, clips := 0 }).zoneOrigin z o) := by
  have cleared (r : Zone) : r.Tame { r with repeats := 0, skips := 0, clips := 0 } := by
    refine ⟨fun h => ?_, rfl, rfl, rfl⟩
    obtain ⟨hv, hq, hi, ha, hb, -, -, -, hm⟩ := h
    exact ⟨hv, hq, hi, ha, hb, Nat.zero_le _, Nat.zero_le _, Nat.zero_le _, hm⟩
  exact (updZone_writes s z _ cleared).trans (zoneOrigin_writes _ z o)

theorem reqPowerOn_writes (o : Origin) (payload : List Byte) (s : State) : Writes s (reqPowerOn o payload s).state :=
  oneIndex_writes 3 payload s _ fun z => powerOn_writes s z o

theorem reqPowerOff_writes (o : Origin) (payload : List Byte) (s : State) : Writes s (reqPowerOff o payload s).state :=
  oneIndex_writes 3 payload s _ fun z => powerOff_writes s z o

theorem reqSelectSource_writes (o : Origin) (payload : List Byte) (s : State) :
    Writes s (reqSelectSource o payload s).state := by
  unfold reqSelectSource
  split
  · split
    · exact selectSource_writes s _ _ o
    · exact .refl s
  · exact .refl s

theorem reqSetVolume_writes (o : Origin) (payload : List Byte) (s : State) : Writes s (reqSetVolume o payload s).state := by
  unfold reqSetVolume
  split
  · split
    · exact setVolume_writes s _ _ o
    · exact .refl s
  · exact .refl s

theorem reqStepVolume_writes (o : Origin) (payload : List Byte) (s : State) : Writes s (reqStepVolume o payload s).state := by
  unfold reqStepVolume
  split
  · split
    · exact setVolume_writes s _ _ o
    · exact .refl s
  · exact .refl s

theorem reqSetMute_writes (o : Origin) (payload : List Byte) (s : State) : Writes s (reqSetMute o payload s).state := by
  unfold reqSetMute
  split
  · split
    · exact (updZone_writes s _ _).trans (zoneOrigin_writes _ _ o)
    · exact .refl s
  · exact .refl s

theorem reqSetZoneOptions_writes (o : Origin) (payload : List Byte) (s : State) :
    Writes s (reqSetZoneOptions o payload s).state := by
  unfold reqSetZoneOptions
  split
  · split
    · exact setZoneOptions_writes s _ _ o (clampNat_range 1 64 _ (by decide)) (clampNat_range 0 120 _ (by decide)).2
    · exact .refl s
  · exact .refl s

/-! ## Speakers, modulators, protection, tones -/

theorem refreshPair_writes (old : Vector Speaker 12) (s : State) (q : PairId) : Writes s (refreshPair old s q) :=
  .ite (.refl s) (updPair_writes s q _)

theorem writeSpeaker_writes (s : State) (c : Chan) (e : Speaker) : Writes s (writeSpeaker s c e) :=
  (Write.speaker s c e).run.trans (refreshPair_writes s.speakers _ _)

theorem setSpeaker_writes (s : State) (c : Chan) (q : SpeakerRequest) : Writes s (setSpeaker s c q).state := by
  unfold setSpeaker
  split
  · exact .refl s
  · split
    · exact .refl s
    · split
      · exact .refl s
      · split
        · exact .refl s
        · exact writeSpeaker_writes s c _

theorem reqSetSpeaker_writes (payload : List Byte) (s : State) : Writes s (reqSetSpeaker payload s).state := by
  unfold reqSetSpeaker
  split
  · split
    · exact setSpeaker_writes s _ _
    · exact .refl s
  · exact .refl s

theorem reqSetModulator_writes (payload : List Byte) (s : State) : Writes s (reqSetModulator payload s).state := by
  unfold reqSetModulator
  split
  · split
    · rename_i wb _ _ _ z _ hw
      have w := of_decide_eq_true hw
      split
      · exact (Write.modulator s z wb.toNat _ (by omega) (clampNat_range 0 15 _ (by decide)).2).run
      · exact .refl s
    · exact .refl s
  · exact .refl s

theorem reqSetProtection_writes (payload : List Byte) (s : State) : Writes s (reqSetProtection payload s).state := by
  unfold reqSetProtection
  split
  · split
    · exact (Write.protection s _ _).run
    · exact .refl s
  · exact .refl s

theorem clearProtection_writes (s : State) (q : PairId) : Writes s (clearProtection s q) :=
  .ite (probePair_writes s q) (.refl s)

theorem faultCountTrip_writes (s : State) (q : PairId) : Writes s (faultCountTrip s q) :=
  .ite (faultTrip_writes s q) (.refl s)

theorem dcExpiry_writes (s : State) (c : Chan) : Writes s (dcExpiry s c) := by
  unfold dcExpiry
  split
  · exact .ite ((updChannel_writes s c _).trans (offerTrip_writes _ _ _)) (.refl s)
  · exact .refl s

theorem retryExpiry_writes (s : State) (q : PairId) : Writes s (retryExpiry s q) := .ite (probePair_writes s q) (.refl s)

theorem probeExpiry_writes (s : State) (q : PairId) : Writes s (probeExpiry s q) := .ite (updPair_writes s q _) (.refl s)

theorem seeFlt_writes (s : State) (flt : Vector Bool 6) : Writes s (seeFlt s flt) :=
  .forEach _ (fun t q => updPair_writes t q _) _ s

theorem reqToneStart_writes (o : Origin) (payload : List Byte) (s : State) : Writes s (reqToneStart o payload s).state := by
  unfold reqToneStart
  split
  · split
    · split
      · exact .refl s
      · exact ((updZone_writes s _ _).trans (zoneOrigin_writes _ _ o)).trans (raise_writes _ _)
    · exact .refl s
  · exact .refl s

theorem reqToneNext_writes (o : Origin) (payload : List Byte) (s : State) : Writes s (reqToneNext o payload s).state := by
  refine oneIndex_writes 3 payload s _ fun z => ?_
  split
  · exact (toneStep_writes s z).trans (zoneOrigin_writes _ z o)
  · exact .refl s

theorem reqToneStop_writes (o : Origin) (payload : List Byte) (s : State) : Writes s (reqToneStop o payload s).state := by
  refine oneIndex_writes 3 payload s _ fun z => ?_
  split
  · exact (endTone_writes s z).trans (zoneOrigin_writes _ z o)
  · exact .refl s

theorem dwellExpiry_writes (s : State) (z : ZoneId) : Writes s (dwellExpiry s z) := .ite (toneStep_writes s z) (.refl s)

/-! ## Tuner and encoders -/

theorem Tuner.withRecord_plain (x : Tuner) (b : Band) (r : BandRecord) : x.Plain (x.withRecord b r) := by
  cases b <;> exact ⟨rfl, rfl, rfl⟩

theorem Tuner.withCal_plain (x : Tuner) (b : Band) (ps : List CalPoint) : x.Plain (x.withCal b ps) := by
  cases b <;> exact ⟨rfl, rfl, rfl⟩

theorem loadCalibration_plain (x : Tuner) (b : Band) (ps : List CalPoint) (o : Origin) :
    x.Plain (loadCalibration x b ps o) := by
  unfold loadCalibration
  dsimp only
  split <;> exact (x.withCal_plain b ps).trans ⟨rfl, rfl, rfl⟩

theorem reqSetBand_writes (o : Origin) (payload : List Byte) (s : State) : Writes s (reqSetBand o payload s).state := by
  unfold reqSetBand
  split
  · split
    · exact .refl s
    · split
      · split
        · exact .refl s
        · exact setTuner_writes s ((Tuner.withRecord_plain _ _ _).trans (by exact ⟨rfl, rfl, rfl⟩)).tame
      · exact .refl s
  · exact .refl s

theorem reqLoadCalibration_writes (o : Origin) (payload : List Byte) (s : State) :
    Writes s (reqLoadCalibration o payload s).state := by
  unfold reqLoadCalibration
  split
  · split
    · split
      · split
        · exact .refl s
        · exact setTuner_writes s (loadCalibration_plain _ _ _ _).tame
      · exact .refl s
    · exact .refl s
  · exact .refl s

theorem reqGetCalibration_writes (payload : List Byte) (s : State) : Writes s (reqGetCalibration payload s).state := by
  unfold reqGetCalibration
  split
  · split <;> exact .refl s
  · exact .refl s

theorem tuneRequest_writes (s : State) (b : Band) (f : Nat) (op : TunerOp) (o : Origin) :
    Writes s (tuneRequest s b f op o).state := by
  unfold tuneRequest
  split
  · exact .refl s
  · exact setTuner_writes s (s.tuner.tuneTo_tame b _ op o)

theorem reqTune_writes (o : Origin) (payload : List Byte) (s : State) : Writes s (reqTune o payload s).state := by
  unfold reqTune
  split
  · split
    · exact tuneRequest_writes s _ _ _ o
    · exact .refl s
  · exact .refl s

theorem reqSeek_writes (o : Origin) (payload : List Byte) (s : State) : Writes s (reqSeek o payload s).state := by
  unfold reqSeek
  split
  · split
    · split
      · exact .refl s
      · exact setTuner_writes s (s.tuner.beginSeek_tame _ o)
    · exact .refl s
  · exact .refl s

theorem reqScan_writes (o : Origin) (payload : List Byte) (s : State) : Writes s (reqScan o payload s).state := by
  refine noPayload_writes payload s _ ?_
  split
  · exact .refl s
  · exact setTuner_writes s (s.tuner.beginScan_tame o)

theorem putPresets_writes (s : State) (ps : List Preset) (o : Origin) : Writes s (putPresets s ps o) :=
  (Write.presets s { s.tuner with presets := ps, lastChanged := o } (.inl rfl)).run

theorem reqStorePreset_writes (o : Origin) (payload : List Byte) (s : State) :
    Writes s (reqStorePreset o payload s).state := by
  unfold reqStorePreset
  split
  · dsimp only
    split
    · exact .refl s
    · split
      · exact .refl s
      · split
        · exact .refl s
        · exact putPresets_writes s _ o
  · exact .refl s

theorem reqRecallPreset_writes (o : Origin) (payload : List Byte) (s : State) :
    Writes s (reqRecallPreset o payload s).state := by
  unfold reqRecallPreset
  split
  · split
    · exact tuneRequest_writes s _ _ _ o
    · exact .refl s
  · exact .refl s

theorem reqErasePreset_writes (o : Origin) (payload : List Byte) (s : State) :
    Writes s (reqErasePreset o payload s).state := by
  unfold reqErasePreset
  split
  · split
    · exact putPresets_writes s _ o
    · exact .refl s
  · exact .refl s

theorem reqLoadPresets_writes (o : Origin) (payload : List Byte) (s : State) :
    Writes s (reqLoadPresets o payload s).state := by
  unfold reqLoadPresets
  split
  · split
    · split
      · split
        · split
          · exact putPresets_writes s _ o
          · exact .refl s
        · exact .refl s
      · exact .refl s
    · exact .refl s
  · exact .refl s

theorem reqSetBinding_writes (payload : List Byte) (s : State) : Writes s (reqSetBinding payload s).state := by
  unfold reqSetBinding
  split
  · split
    · exact putEncoder_writes s _ _
    · exact .refl s
  · exact .refl s

/-! ## Every command -/

/-- A command that READ_EVENTS does not make and that does not reset the part. -/
def plainCommand (c : Instr) : Prop :=
  (∀ p tag y, c ≠ .readEvents p tag y) ∧ (∀ p tag, c ≠ .deviceReset p tag []) ∧ ∀ pins, c ≠ .powerOnReset pins

/-- A DEVICE_RESET with a payload is refused (R204). -/
theorem reqDeviceReset_writes (payload : List Byte) (s : State) (h : payload ≠ []) :
    Writes s (reqDeviceReset payload s).state := by
  cases payload with
  | nil => exact absurd rfl h
  | cons b bs => exact .refl s

/-- What a command does: every command is a run of writes, but READ_EVENTS, which clears a flag copy, and the two resets. -/
theorem exec_writes {c : Instr} {s t : State} (h : exec c s = .next t) (hc : plainCommand c) : Writes s t := by
  obtain ⟨noRead, noReset, noPower⟩ := hc
  cases c <;> cases h
  case readEvents p tag y => exact absurd rfl (noRead p tag y)
  case powerOnReset pins => exact absurd rfl (noPower pins)
  case deviceReset p tag y =>
    exact serve_writes s p tag y _ fun t => reqDeviceReset_writes y t fun e => noReset p tag (by rw [e])
  case poll p => exact pollPort_writes s p
  case fetch p n => exact fetchPort_writes s p n
  case setEventMask p tag y => exact serve_writes s p tag y _ (reqSetEventMask_writes p y)
  case getEventMask p tag y => exact serve_writes s p tag y _ (reqGetEventMask_writes p y)
  case unknownCommand p code tag y => exact .ite (.refl s) (serve_writes s p tag y _ .refl)
  case malformedTransaction p mosi bits => exact malformedPort_writes s p mosi bits
  case enableLink p tag y => exact serve_writes s p tag y _ fun t => oneIndex_writes 9 y t _ (enableLink_writes t)
  case disableLink p tag y => exact serve_writes s p tag y _ fun t => oneIndex_writes 9 y t _ (disableLink_writes t)
  case setLinkOptions p tag y => exact serve_writes s p tag y _ (reqSetLinkOptions_writes y)
  case getLinkStatus p tag y => exact serve_writes s p tag y _ fun t => oneIndex_writes 9 y t _ fun _ => .refl t
  case getLinkCounters p tag y => exact serve_writes s p tag y _ fun t => oneIndex_writes 9 y t _ fun _ => .refl t
  case clearCounters p tag y =>
    exact serve_writes s p tag y _ fun t => oneIndex_writes 9 y t _ (clearCounters_writes t)
  case setSource p tag y => exact serve_writes s p tag y _ (reqSetSource_writes y)
  case getSource p tag y => exact serve_writes s p tag y _ fun t => oneIndex_writes 16 y t _ fun _ => .refl t
  case getActivity p tag y => exact serve_writes s p tag y _ fun t => oneIndex_writes 9 y t _ fun _ => .refl t
  case getDecodeStatus p tag y => exact serve_writes s p tag y _ fun t => noPayload_writes y t _ (.refl t)
  case powerOn p tag y => exact serve_writes s p tag y _ (reqPowerOn_writes _ y)
  case powerOff p tag y => exact serve_writes s p tag y _ (reqPowerOff_writes _ y)
  case selectSource p tag y => exact serve_writes s p tag y _ (reqSelectSource_writes _ y)
  case setVolume p tag y => exact serve_writes s p tag y _ (reqSetVolume_writes _ y)
  case stepVolume p tag y => exact serve_writes s p tag y _ (reqStepVolume_writes _ y)
  case setMute p tag y => exact serve_writes s p tag y _ (reqSetMute_writes _ y)
  case setZoneOptions p tag y => exact serve_writes s p tag y _ (reqSetZoneOptions_writes _ y)
  case getZoneStatus p tag y => exact serve_writes s p tag y _ fun t => oneIndex_writes 3 y t _ fun _ => .refl t
  case clearZoneCounters p tag y =>
    exact serve_writes s p tag y _ fun t => oneIndex_writes 3 y t _ fun z => clearZoneCounters_writes t z _
  case getMixMatrix p tag y => exact serve_writes s p tag y _ fun t => oneIndex_writes 3 y t _ fun _ => .refl t
  case getDelayStatus p tag y => exact serve_writes s p tag y _ fun t => noPayload_writes y t _ (.refl t)
  case setSpeaker p tag y => exact serve_writes s p tag y _ (reqSetSpeaker_writes y)
  case getSpeaker p tag y => exact serve_writes s p tag y _ fun t => oneIndex_writes 12 y t _ fun _ => .refl t
  case setModulator p tag y => exact serve_writes s p tag y _ (reqSetModulator_writes y)
  case getModulator p tag y => exact serve_writes s p tag y _ fun t => oneIndex_writes 3 y t _ fun _ => .refl t
  case getOutputStatus p tag y => exact serve_writes s p tag y _ fun t => noPayload_writes y t _ (.refl t)
  case setProtection p tag y => exact serve_writes s p tag y _ (reqSetProtection_writes y)
  case getProtection p tag y => exact serve_writes s p tag y _ fun t => oneIndex_writes 6 y t _ fun _ => .refl t
  case clearProtection p tag y => exact serve_writes s p tag y _ fun t => oneIndex_writes 6 y t _ (clearProtection_writes t)
  case getProtectionStatus p tag y flt =>
    exact serve_writes s p tag y _ fun t => noPayload_writes y t _ (seeFlt_writes t flt)
  case toneStart p tag y => exact serve_writes s p tag y _ (reqToneStart_writes _ y)
  case toneNext p tag y => exact serve_writes s p tag y _ (reqToneNext_writes _ y)
  case toneStop p tag y => exact serve_writes s p tag y _ (reqToneStop_writes _ y)
  case setBand p tag y => exact serve_writes s p tag y _ (reqSetBand_writes _ y)
  case getBandTable p tag y => exact serve_writes s p tag y _ fun t => noPayload_writes y t _ (.refl t)
  case loadCalibration p tag y => exact serve_writes s p tag y _ (reqLoadCalibration_writes _ y)
  case getCalibration p tag y => exact serve_writes s p tag y _ (reqGetCalibration_writes y)
  case tune p tag y => exact serve_writes s p tag y _ (reqTune_writes _ y)
  case seek p tag y => exact serve_writes s p tag y _ (reqSeek_writes _ y)
  case scan p tag y => exact serve_writes s p tag y _ (reqScan_writes _ y)
  case getTunerStatus p tag y pilot =>
    exact serve_writes s p tag y _ fun t => noPayload_writes y t _ (putTuner_writes t (Tuner.Plain.tame ⟨rfl, rfl, rfl⟩))
  case storePreset p tag y => exact serve_writes s p tag y _ (reqStorePreset_writes _ y)
  case recallPreset p tag y => exact serve_writes s p tag y _ (reqRecallPreset_writes _ y)
  case erasePreset p tag y => exact serve_writes s p tag y _ (reqErasePreset_writes _ y)
  case loadPresets p tag y => exact serve_writes s p tag y _ (reqLoadPresets_writes _ y)
  case getPresets p tag y => exact serve_writes s p tag y _ fun t => noPayload_writes y t _ (.refl t)
  case setBinding p tag y => exact serve_writes s p tag y _ (reqSetBinding_writes y)
  case getEncoderStatus p tag y => exact serve_writes s p tag y _ fun t => oneIndex_writes 2 y t _ fun _ => .refl t
  case linkFrame l f => exact linkFrame_writes s l f
  case detectCountReached l => exact detectReached_writes s l
  case rateMeasurement l ticks wf => exact measurementEnds_writes s l ticks wf
  case blockEnd l f => exact endBlock_writes s l f
  case descriptorErrorRun l f => exact endErrorRun_writes s l f
  case alignmentTimerExpiry l => exact alignmentExpiry_writes s l
  case recoveryTimerExpiry l => exact recoveryExpiry_writes s l
  case lossOfSignal l => exact lossOfSignal_writes s l
  case counterSnapshot => exact takeSnapshot_writes s
  case monitorActive l => exact monitorReached_writes s l
  case quietTimerExpiry l => exact quietExpiry_writes s l
  case startTimerExpiry z => exact startExpiry_writes s z
  case drainTimerExpiry z => exact drainExpiry_writes s z
  case rampStep z => exact rampStep_writes s z
  case bufferFilled z x => exact bufferFills_writes s z x
  case zoneOutputFrame z => exact outputFrame_writes s z
  case autoStandbyExpiry z => exact autoStandbyExpiry_writes s z
  case carrierPeriodBoundary z flt => exact carrierBoundary_writes s z flt
  case faultCountTrip q => exact faultCountTrip_writes s q
  case dcTimerExpiry c => exact dcExpiry_writes s c
  case retryTimerExpiry q => exact retryExpiry_writes s q
  case probeWindowExpiry q => exact probeExpiry_writes s q
  case dwellTimerExpiry z => exact dwellExpiry_writes s z
  case dacTransfer => exact transferDac_writes s
  case settleTimeExpiry => exact settleExpiry_writes s
  case gateComplete ticks => exact endGate_writes s _
  case gateAbandoned => exact abandonGate_writes s
  case afcTimerExpiry => exact afcExpiry_writes s
  case levelReading period pilot => exact levelRise_writes s period pilot
  case levelTimeout pilot => exact levelTimeout_writes s pilot
  case stationTest period pilot => exact thirdReading_writes s period pilot
  case encoderLineChange e a b => exact lineChange_writes s e a b
  case filterSettled e => exact filterSettled_writes s e
  case detent e clockwise => exact makeDetent_writes s e clockwise
  case chipSelectFallingEdge p => exact selectPort_writes s p
  case freqRisingEdge ticks => exact freqEdge_writes s ticks
  case lvlFallingEdge high => exact levelFall_writes s high

end Sys2Proof.Machine
end

section
/-! What every step keeps, from the writes: counts and volumes in range, and the flags of changes (R199). -/

namespace Sys2Proof.Machine

/-! ## Commands that are no run of writes -/

/-- READ_EVENTS changes nothing but ports (R200). -/
theorem readEvents_ports {s t : State} {p : Port} {tag : Byte} {y : List Byte} (h : exec (.readEvents p tag y) s = .next t) :
    t = { s with ports := t.ports } := by
  have kept : ∀ u : State, u = { s with ports := u.ports } →
      (reqReadEvents p y u).state = { s with ports := (reqReadEvents p y u).state.ports } := by
    intro u hu
    cases y with
    | nil => rw [hu]; rfl
    | cons b bs => exact hu
  cases h
  exact serve_keeps (fun u => u = { s with ports := u.ports }) (fun u q r hu => by rw [hu]; rfl) s p tag y _ kept rfl

/-- A property that every write keeps, and that neither ports nor a reset can break, holds after every command. -/
theorem exec_keeps {P : State → Prop} (write : ∀ s t, Write s t → P s → P t)
    (ports : ∀ (s : State) (ps : Ports), P s → P { s with ports := ps })
    (soft : ∀ s, P s → P (softReset s)) (power : ∀ s pins, P (powerOnReset s pins))
    {c : Instr} {s t : State} (h : exec c s = .next t) (hs : P s) : P t := by
  by_cases hc : plainCommand c
  · exact (exec_writes h hc).keeps write hs
  · simp only [plainCommand, not_and_or, not_forall, not_not] at hc
    rcases hc with ⟨p, tag, y, rfl⟩ | ⟨p, tag, rfl⟩ | ⟨pins, rfl⟩
    · rw [readEvents_ports h]
      exact ports s _ hs
    · cases h
      exact serve_keeps P (fun u q r hu => ports u _ hu) s p tag [] _ soft hs
    · cases h
      exact power s pins

/-- What every command keeps, and the queue cannot break, every step keeps. -/
theorem step_keeps {P : State → Prop} (command : ∀ c s t, exec c s = .next t → P s → P t)
    (queue : ∀ (s : State) (q : List Instr), P s → P { s with pending := q })
    {s t : State} (h : step s = .next t) (hs : P s) : P t := by
  unfold step at h
  split at h
  · cases h; exact hs
  · exact command _ _ _ h (queue s _ hs)

/-! ## Decode positions -/

@[simp] theorem raiseAttached_zones (s : State) (pos : DecodePos) : (raiseAttached s pos).zones = s.zones := by
  cases pos <;> rfl

@[simp] theorem raiseAttached_units (s : State) (pos : DecodePos) : (raiseAttached s pos).units = s.units := by
  cases pos <;> rfl

theorem setDecode_units (s : State) (z : ZoneId) (pos : DecodePos) : (setDecode s z pos).units = s.units := by
  unfold setDecode
  dsimp only
  split
  · rfl
  · rw [raiseAttached_units, raiseAttached_units]
    rfl

/-- The record of a zone that is told its decode position. -/
def Zone.withDecode (r : Zone) (pos : DecodePos) (muted : Bool) : Zone :=
  { r with decode := pos, mutes := { r.mutes with decode := muted }
           owed := if r.decode = pos then r.owed else decide (pos ≠ .none ∧ pos ≠ .waiting) }

/-- A zone is told its decode position as an operation on its record, with the DU flags of the units it leaves and joins. -/
theorem setDecode_zones (s : State) (z : ZoneId) (pos : DecodePos) :
    (setDecode s z pos).zones = (s.autoZone z fun r => r.withDecode pos (decodeMuted s pos)).zones := by
  have old : (s.autoZone z fun r => r.withDecode pos (decodeMuted s pos)).zones = (s.autoZone z fun r =>
      { r with decode := pos, mutes := { r.mutes with decode := decodeMuted s pos },
               owed := if (s.zones.get z).decode = pos then r.owed else decide (pos ≠ .none ∧ pos ≠ .waiting) }).zones := rfl
  rw [old]
  unfold setDecode
  dsimp only
  split
  · rfl
  · rw [raiseAttached_zones, raiseAttached_zones]

/-! ## Ranges -/

theorem Zone.inRange_withDecode {r : Zone} (pos : DecodePos) (muted : Bool) (h : r.inRange) :
    (r.withDecode pos muted).inRange := h

/-- A table in which one record is replaced by a lawful one stays lawful. -/
theorem setAt_forall {α : Type} {n : Nat} {P : α → Prop} {v : Vector α n} (i : Fin n) {x : α} (h : ∀ j, P (v.get j))
    (hx : P x) (j : Fin n) : P ((setAt v i x).get j) := by
  rw [setAt_get]
  split
  · exact hx
  · exact h j

/-- The zones of a state lie in their ranges after an operation on one of them that keeps its ranges. -/
theorem autoZone_inRange {s : State} (z : ZoneId) (f : Zone → Zone) (hf : ∀ r, Zone.inRange r → (f r).inRange)
    (h : ∀ y, (s.zones.get y).inRange) : ∀ y, ((s.autoZone z f).zones.get y).inRange := by
  refine setAt_forall (P := Zone.inRange) z h ?_
  dsimp only
  split
  · exact hf _ (h z)
  · exact hf _ (h z)

theorem raiseZone_keeps_countsInRange {s : State} (z : Option ZoneId) (h : countsInRange s) : countsInRange (raiseZone s z) := by
  cases z <;> exact h

theorem Write.keeps_countsInRange (s t : State) (w : Write s t) (h : countsInRange s) : countsInRange t := by
  obtain ⟨due, zones, links, units⟩ := h
  cases w with
  | link l r hr => exact ⟨due, zones, setAt_forall (P := fun r : Link => r.counters.inRange) l links (hr (links l)), units⟩
  | unit u d hd =>
    exact ⟨due, zones, links, setAt_forall (P := fun d : DecodeUnit => d.concealed ≤ 65535 ∧ d.silenced ≤ 65535) u units
      (hd (units u))⟩
  | zone z r hr => exact ⟨due, setAt_forall (P := Zone.inRange) z zones (hr.inRange (zones z)), links, units⟩
  | decode z pos =>
    obtain ⟨hlinks, -, -, -, -, -, hms, hdue⟩ := setDecode_frame s z pos
    have hunits : (setDecode s z pos).units = s.units := setDecode_units s z pos
    refine ⟨by rw [hms, hdue]; exact due, ?_, by rw [hlinks]; exact links, by rw [hunits]; exact units⟩
    rw [setDecode_zones]
    exact autoZone_inRange z _ (fun r => Zone.inRange_withDecode pos _) zones
  | modulator z w m hw hm =>
    refine ⟨due, setAt_forall (P := Zone.inRange) z zones ?_, links, units⟩
    obtain ⟨hv, hq, hi, ha, hb, hr, hs, hc, -, -⟩ := zones z
    exact ⟨hv, hq, hi, ha, hb, hr, hs, hc, hw, hm⟩
  | speaker c e => exact raiseZone_keeps_countsInRange _ (raiseZone_keeps_countsInRange _ ⟨due, zones, links, units⟩)
  | snapshotTaken => exact ⟨nofun, zones, links, units⟩
  | millisecond d g => exact ⟨(wholeSecond_iff _).1, zones, links, units⟩
  | _ => exact ⟨due, zones, links, units⟩

theorem Zone.reset_inRange (selected : Option SrcId) {w m : Nat} (hw : 7 ≤ w ∧ w ≤ 9) (hm : m ≤ 15) :
    (Zone.reset selected w m).inRange :=
  ⟨show -160 ≤ (-60 : Int) ∧ (-60 : Int) ≤ 24 by decide, nofun, show 1 ≤ 16 ∧ 16 ≤ 64 by decide, Nat.zero_le _,
    Nat.zero_le _, Nat.zero_le _, Nat.zero_le _, Nat.zero_le _, hw, hm⟩

theorem LinkCounters.zero_inRange : LinkCounters.zero.inRange := by
  unfold LinkCounters.inRange Counter.inRange
  decide

@[simp] theorem ofFn_get {α : Type} {n : Nat} (f : Fin n → α) (i : Fin n) : (Vector.ofFn f).get i = f i := by
  show (Vector.ofFn f)[i.1] = f i
  simp

@[simp] theorem replicate_get {α : Type} {n : Nat} (x : α) (i : Fin n) : (Vector.replicate n x).get i = x := by
  show (Vector.replicate n x)[i.1] = x
  simp

theorem softReset_countsInRange (s : State) (h : countsInRange s) : countsInRange (softReset s) := by
  obtain ⟨-, zones, -, -⟩ := h
  refine ⟨nofun, fun z => ?_, fun l => ?_, fun u => ?_⟩
  · obtain ⟨-, -, -, -, -, -, -, -, hw, hm⟩ := zones z
    simpa [softReset, softBlocks] using Zone.reset_inRange _ hw hm
  · simpa [softReset, softBlocks, Link.softReset, Link.reset] using LinkCounters.zero_inRange
  · simp [softReset, softBlocks, DecodeUnit.reset]

/-- Every zone after a power-on reset (R87, R123). -/
theorem powerUp_zone (pins : Pins) (z : ZoneId) : ∃ i, (State.powerUp pins).zones.get z = Zone.reset i 9 2 := by
  fin_cases z <;> exact ⟨_, rfl⟩

theorem powerOnReset_countsInRange (s : State) (pins : Pins) : countsInRange (powerOnReset s pins) := by
  refine ⟨nofun, fun z => ?_, fun l => ?_, fun u => ?_⟩
  · obtain ⟨i, hz⟩ := powerUp_zone pins z
    show ((State.powerUp pins).zones.get z).inRange
    rw [hz]
    exact Zone.reset_inRange i (by decide) (by decide)
  · simpa [powerOnReset, State.powerUp, Link.reset] using LinkCounters.zero_inRange
  · simp [powerOnReset, State.powerUp, DecodeUnit.reset]

/-- Settles O53: every write of a meaning keeps the ranges, and both resets meet them. -/
theorem countsInRangeKept : Obligations.CountsInRangeKept := by
  intro s t hs h
  refine step_keeps (fun c s t => ?_) (fun _ _ => id) h hs
  exact exec_keeps Write.keeps_countsInRange (fun _ _ => id) softReset_countsInRange powerOnReset_countsInRange

end Sys2Proof.Machine
end

section
/-! Changes set their flags: a relation between two states that composes, kept by every write. -/

namespace Sys2Proof.Machine

/-! ## What a flag reports -/

/-- What LINK reports of a link and its monitor (R23, R34). -/
def linkReport (s : State) (l : LinkId) :=
  (((s.links.get l).enabled, (s.links.get l).state, (s.links.get l).rate, (s.links.get l).lossWindow),
    (s.links.get l).lastGood.map (fun d => ((d.format, d.map), (d.pref, d.lfe, d.stream))), (s.monitors.get l).state)

/-- What ZONE reports of a zone record (R86, R133, R157). -/
def Zone.report (r : Zone) :=
  (((r.power, r.path, r.restart, r.selected, r.bound), (r.qv, r.mutes, r.mode, r.night, r.clockMode)),
    ((r.rampInterval, r.autoStandby, r.clockState, r.rate), (r.decode, r.alloc, r.effMode)),
    ((r.vals.map (·.map), r.vals.map (·.stream)), r.lastChanged, r.tone.speaker), r.resolution, r.minPulse)

/-- The speaker entries of a zone by their channels (R133). -/
def speakersOf (spk : Vector Speaker 12) (z : ZoneId) (c : Chan) : Option Speaker :=
  if (spk.get c).zone = some z then some (spk.get c) else none

/-- What DU reports of a unit: state, bound link, attached set and the wait list (R57). -/
def unitReport (s : State) (u : UnitId) :=
  (((s.units.get u).state, (s.units.get u).link, s.waitList), { z : ZoneId | (s.zones.get z).decode = .attached u })

/-- What PAIR reports of a pair (R147). -/
def Pair.report (p : Pair) := ((p.state, p.retries, p.cause), p.dcTime, p.retryLimit)

/-- Two states do not differ in what a flag reports. -/
def sameReport (s t : State) : Flag → Prop
  | .link l => linkReport s l = linkReport t l
  | .zone z => (s.zones.get z).report = (t.zones.get z).report ∧ speakersOf s.speakers z = speakersOf t.speakers z
  | .du u => unitReport s u = unitReport t u
  | .tunerDone => s.tuner.completions = t.tuner.completions
  | .tunerLock => s.tuner.state = t.tuner.state ∧ s.tuner.band = t.tuner.band
  | .presets => s.tuner.presets = t.tuner.presets
  | .pair q => (s.pairs.get q).report = (t.pairs.get q).report
  | .signal | .limited | .reset => True

theorem sameReport.refl (s : State) (f : Flag) : sameReport s s f := by cases f <;> simp [sameReport]

theorem sameReport.trans {s t u : State} {f : Flag} (h : sameReport s t f) (k : sameReport t u f) : sameReport s u f := by
  cases f <;> simp_all [sameReport]

/-- No flag is cleared, and where a copy lacks a flag, nothing that the flag reports has changed (R199). -/
structure Flagged (s t : State) : Prop where
  cleared : ∀ p f, t.lacks p f → s.lacks p f
  same : ∀ p f, t.lacks p f → sameReport s t f

theorem Flagged.refl (s : State) : Flagged s s := ⟨fun _ _ h => h, fun _ _ _ => .refl s _⟩

theorem Flagged.trans {s t u : State} (h : Flagged s t) (k : Flagged t u) : Flagged s u :=
  ⟨fun p f l => h.cleared p f (k.cleared p f l), fun p f l => (h.same p f (k.cleared p f l)).trans (k.same p f l)⟩

/-! ## Flags of a write -/

/-- A copy that lacks a flag after another was set lacked it before, and the other is another. -/
theorem lacks_raiseIf {s t : State} {b : Bool} {g : Flag} (h : t.ports = s.ports.raiseIf b g) {p : Port} {f : Flag}
    (l : t.lacks p f) : s.lacks p f ∧ (g = f → b = false) := by
  unfold State.lacks at l ⊢
  rw [h, Ports.raiseIf_flag, Bool.or_eq_false_iff] at l
  refine ⟨l.1, ?_⟩
  rintro rfl
  simpa using l.2

theorem lacks_raise {s t : State} {g : Flag} (h : t.ports = s.ports.raise g) {p : Port} {f : Flag} (l : t.lacks p f) :
    s.lacks p f ∧ g ≠ f := by
  obtain ⟨before, other⟩ := lacks_raiseIf (b := true) h l
  exact ⟨before, fun e => Bool.noConfusion (other e)⟩

/-- A write that sets at most one flag answers for what the others report. -/
theorem Flagged.of_raiseIf {s t : State} {b : Bool} {g : Flag} (h : t.ports = s.ports.raiseIf b g)
    (k : ∀ f, (g = f → b = false) → sameReport s t f) : Flagged s t :=
  ⟨fun _ _ l => (lacks_raiseIf h l).1, fun _ f l => k f (lacks_raiseIf h l).2⟩

/-- A write that sets no flag changes nothing that is reported. -/
theorem Flagged.of_ports {s t : State} (h : t.ports = s.ports) (k : ∀ f, sameReport s t f) : Flagged s t := by
  refine ⟨fun p f l => ?_, fun _ f _ => k f⟩
  unfold State.lacks at l ⊢
  rwa [h] at l

/-- A flag is set after a write. -/
theorem Flagged.raised {s t : State} (g : Flag) (cleared : ∀ p f, t.lacks p f → s.lacks p f)
    (same : ∀ p f, t.lacks p f → g ≠ f → sameReport s t f) : Flagged s (t.raise g) := by
  refine ⟨fun p f l => cleared p f (lacks_raise rfl l).1, fun p f l => ?_⟩
  obtain ⟨before, other⟩ := lacks_raise (s := t) rfl l
  have h := same p f before other
  cases f <;> exact h

theorem reportedChange_false_link {a b : Link} (h : a.reportedChange b = false) :
    a.enabled = b.enabled ∧ a.state = b.state ∧ a.rate = b.rate ∧ a.lossWindow = b.lossWindow ∧
    a.lastGood.map (fun d => ((d.format, d.map), (d.pref, d.lfe, d.stream))) =
      b.lastGood.map (fun d => ((d.format, d.map), (d.pref, d.lfe, d.stream))) := by
  simpa [Link.reportedChange, and_assoc] using h

/-- What R86 lists of a zone, and its modulator settings, is what ZONE reports of it. -/
theorem Zone.report_eq {a b : Zone} (h : a.reportedChange b = false) (hw : b.resolution = a.resolution)
    (hm : b.minPulse = a.minPulse) : a.report = b.report := by
  simp only [Zone.reportedChange, Bool.or_eq_false_iff, bne_eq_false_iff_eq] at h
  simp [Zone.report, h, hw, hm]

theorem Pair.report_eq {a b : Pair} (h : a.reportedChange b = false) (hd : b.dcTime = a.dcTime)
    (hl : b.retryLimit = a.retryLimit) : a.report = b.report := by
  simp only [Pair.reportedChange, Bool.or_eq_false_iff, bne_eq_false_iff_eq] at h
  simp [Pair.report, h, hd, hl]

end Sys2Proof.Machine
end

section
/-! Every write sets the flags of what it changes, and so does every command (R199). -/

namespace Sys2Proof.Machine

theorem putLink_flagged (s : State) (l : LinkId) (r : Link) : Flagged s (s.putLink l r) := by
  refine .of_raiseIf (State.putLink_ports s l r) fun f hf => ?_
  cases f with
  | link k =>
    show linkReport s k = linkReport (s.putLink l r) k
    by_cases e : l = k
    · subst e
      obtain ⟨he, hs, hr, hw, hg⟩ := reportedChange_false_link (hf rfl)
      simp [linkReport, he, hs, hr, hw, hg]
    · simp [linkReport, setAt_get_of_ne _ _ e]
  | _ => simp [sameReport, unitReport]

theorem putMonitor_flagged (s : State) (l : LinkId) (m : Monitor) : Flagged s (s.putMonitor l m) := by
  refine .of_raiseIf (State.putMonitor_ports s l m) fun f hf => ?_
  cases f with
  | link k =>
    show linkReport s k = linkReport (s.putMonitor l m) k
    by_cases e : l = k
    · subst e
      simpa [linkReport] using hf rfl
    · simp [linkReport, setAt_get_of_ne _ _ e]
  | _ => simp [sameReport, unitReport]

theorem putUnit_flagged (s : State) (u : UnitId) (d : DecodeUnit) : Flagged s (s.putUnit u d) := by
  refine .of_raiseIf (State.putUnit_ports s u d) fun f hf => ?_
  cases f with
  | du v =>
    show unitReport s v = unitReport (s.putUnit u d) v
    by_cases e : u = v
    · subst e
      have same := hf rfl
      simp only [DecodeUnit.reportedChange, Bool.or_eq_false_iff, bne_eq_false_iff_eq] at same
      simp [unitReport, same]
    · simp [unitReport, setAt_get_of_ne _ _ e]
  | _ => simp [sameReport, linkReport]

theorem putPair_flagged (s : State) (q : PairId) (r : Pair) (hd : r.dcTime = (s.pairs.get q).dcTime)
    (hl : r.retryLimit = (s.pairs.get q).retryLimit) : Flagged s (s.putPair q r) := by
  refine .of_raiseIf (State.putPair_ports s q r) fun f hf => ?_
  cases f with
  | pair k =>
    show (s.pairs.get k).report = ((s.putPair q r).pairs.get k).report
    rw [State.putPair_pairs]
    by_cases e : q = k
    · subst e
      rw [setAt_get_self]
      exact Pair.report_eq (hf rfl) hd hl
    · rw [setAt_get_of_ne _ _ e]
  | _ => simp [sameReport, linkReport, unitReport]

theorem protection_flagged (s : State) (q : PairId) (r : Pair) : Flagged s ((s.putPair q r).raise (.pair q)) := by
  refine .raised (.pair q) (fun p f l => (lacks_raiseIf (State.putPair_ports s q r) l).1) fun p f l hf => ?_
  cases f with
  | pair k =>
    show (s.pairs.get k).report = ((s.putPair q r).pairs.get k).report
    rw [State.putPair_pairs, setAt_get_of_ne _ _ fun e => hf (by rw [e])]
  | _ => simp [sameReport, linkReport, unitReport]

theorem putWaitList_flagged (s : State) (w : List ZoneId) : Flagged s (s.putWaitList w) := by
  have both : ∀ p f, (s.putWaitList w).lacks p f → s.lacks p f ∧ Flag.du 0 ≠ f ∧ Flag.du 1 ≠ f := by
    intro p f l
    obtain ⟨before, other⟩ := lacks_raise (s := s.raise (.du 0)) (State.putWaitList_ports s w) l
    obtain ⟨first, another⟩ := lacks_raise (s := s) rfl before
    exact ⟨first, another, other⟩
  refine ⟨fun p f l => (both p f l).1, fun p f l => ?_⟩
  cases f with
  | du u =>
    obtain ⟨-, h0, h1⟩ := both p _ l
    have hu : ∀ u : UnitId, u = 0 ∨ u = 1 := by decide
    rcases hu u with rfl | rfl
    · exact absurd rfl h0
    · exact absurd rfl h1
  | _ => simp [sameReport, linkReport]

/-- A unit's attached set stays where a zone keeps its decode position. -/
theorem unitReport_setAt (s t : State) (z : ZoneId) (r : Zone) (u : UnitId) (hu : t.units = s.units)
    (hw : t.waitList = s.waitList) (hz : t.zones = setAt s.zones z r)
    (h : (s.zones.get z).decode = .attached u ↔ r.decode = .attached u) : unitReport s u = unitReport t u := by
  have attached : ∀ y, (s.zones.get y).decode = .attached u ↔ (t.zones.get y).decode = .attached u := by
    intro y
    rw [hz, setAt_get]
    split
    · subst_vars
      exact h
    · rfl
  simp [unitReport, hu, hw, attached]

/-- What the other flags report does not see a zone record. -/
theorem putZone_sameReport (s : State) (z : ZoneId) (r : Zone) (f : Flag)
    (hz : .zone z = f → (s.zones.get z).report = r.report)
    (hu : ∀ u, .du u = f → ((s.zones.get z).decode = .attached u ↔ r.decode = .attached u)) :
    sameReport s (s.putZone z r) f := by
  cases f with
  | zone y =>
    refine ⟨?_, rfl⟩
    rw [State.putZone_zones, setAt_get]
    split
    · subst_vars
      exact hz rfl
    · rfl
  | du u => exact unitReport_setAt s _ z r u rfl rfl rfl (hu u rfl)
  | _ => simp [sameReport, linkReport]

theorem putZone_flagged (s : State) (z : ZoneId) (r : Zone) (h : (s.zones.get z).Tame r) : Flagged s (s.putZone z r) := by
  refine .of_raiseIf (State.putZone_ports s z r) fun f hf => putZone_sameReport s z r f (fun e => ?_) fun u _ => ?_
  · exact Zone.report_eq (hf e) h.resolution h.minPulse
  · rw [h.decode]

theorem modulator_flagged (s : State) (z : ZoneId) (w m : Nat) :
    Flagged s ((s.updZone z fun r => { r with resolution := w, minPulse := m }).raise (.zone z)) := by
  refine .raised (.zone z) (fun p f l => (lacks_raiseIf (State.putZone_ports s z _) l).1) fun p f l hf => ?_
  exact putZone_sameReport s z _ f (fun e => absurd e hf) fun u _ => .rfl

/-- Where a copy lacks a flag after a zone joins or leaves a unit, the unit is another. -/
theorem lacks_raiseAttached {s : State} {pos : DecodePos} {p : Port} {f : Flag} (l : (raiseAttached s pos).lacks p f) :
    s.lacks p f ∧ ∀ u, pos = .attached u → .du u ≠ f := by
  cases pos with
  | attached u =>
    obtain ⟨before, other⟩ := lacks_raise (s := s) rfl l
    exact ⟨before, fun v e => by cases e; exact other⟩
  | _ => exact ⟨l, nofun⟩

/-- What is reported of two states that differ in their ports alone is the same. -/
theorem sameReport_ports {s t : State} (f : Flag) (u : State) (h : sameReport s t f) (hu : u = { t with ports := u.ports }) :
    sameReport s u f := by
  rw [hu]
  cases f <;> exact h

theorem raiseAttached_ports_only (s : State) (pos : DecodePos) :
    raiseAttached s pos = { s with ports := (raiseAttached s pos).ports } := by cases pos <;> rfl

/-- A zone told its decode position, with the DU flag of the unit it leaves and of the one it joins (R57). -/
theorem setDecode_eq (s : State) (z : ZoneId) (pos : DecodePos) : setDecode s z pos =
    let t := s.autoZone z fun r => r.withDecode pos (decodeMuted s pos)
    if (s.zones.get z).decode = pos then t else raiseAttached (raiseAttached t (s.zones.get z).decode) pos := rfl

theorem setDecode_flagged (s : State) (z : ZoneId) (pos : DecodePos) : Flagged s (setDecode s z pos) := by
  obtain ⟨r, hr, hdec, hwid, hmin⟩ : ∃ r : Zone, (s.autoZone z fun r => r.withDecode pos (decodeMuted s pos)) = s.putZone z r ∧
      r.decode = pos ∧ r.resolution = (s.zones.get z).resolution ∧ r.minPulse = (s.zones.get z).minPulse := by
    refine ⟨_, rfl, ?_⟩
    dsimp only
    split <;> exact ⟨rfl, rfl, rfl⟩
  have written (p : Port) (f : Flag) (l : (s.putZone z r).lacks p f)
      (hu : ∀ u, .du u = f → ((s.zones.get z).decode = .attached u ↔ pos = .attached u)) :
      s.lacks p f ∧ sameReport s (s.putZone z r) f := by
    obtain ⟨before, other⟩ := lacks_raiseIf (State.putZone_ports s z r) l
    exact ⟨before, putZone_sameReport s z r f (fun e => Zone.report_eq (other e) hwid hmin) (hdec ▸ hu)⟩
  have both (p : Port) (f : Flag) (l : (setDecode s z pos).lacks p f) : s.lacks p f ∧ sameReport s (setDecode s z pos) f := by
    rw [setDecode_eq, hr] at l ⊢
    by_cases e : (s.zones.get z).decode = pos
    · simp only [e, if_true] at l ⊢
      exact written p f l fun u _ => by rw [e]
    · simp only [e, if_false] at l ⊢
      obtain ⟨l, joins⟩ := lacks_raiseAttached l
      obtain ⟨l, leaves⟩ := lacks_raiseAttached l
      obtain ⟨before, same⟩ := written p f l fun u hu =>
        ⟨fun h => absurd hu (leaves u h), fun h => absurd hu (joins u h)⟩
      exact ⟨before, sameReport_ports f _ (sameReport_ports f _ same (raiseAttached_ports_only _ _))
        (raiseAttached_ports_only _ _)⟩
  exact ⟨fun p f l => (both p f l).1, fun p f l => (both p f l).2⟩

/-- Where a copy lacks a flag after the ZONE flag of a zone, or of none, was set, the flag is not that zone's. -/
theorem lacks_raiseZone {s : State} {z : Option ZoneId} {p : Port} {f : Flag} (l : (raiseZone s z).lacks p f) :
    s.lacks p f ∧ ∀ y, z = some y → .zone y ≠ f := by
  cases z with
  | none => exact ⟨l, nofun⟩
  | some y =>
    obtain ⟨before, other⟩ := lacks_raise (s := s) rfl l
    exact ⟨before, fun v e => by cases e; exact other⟩

theorem raiseZone_ports_only (s : State) (z : Option ZoneId) :
    raiseZone s z = { s with ports := (raiseZone s z).ports } := by cases z <;> rfl

theorem speaker_flagged (s : State) (c : Chan) (e : Speaker) :
    Flagged s (raiseZone (raiseZone (s.putSpeaker c e) (s.speakers.get c).zone) e.zone) := by
  have both (p : Port) (f : Flag) (l : (raiseZone (raiseZone (s.putSpeaker c e) (s.speakers.get c).zone) e.zone).lacks p f) :
      s.lacks p f ∧ sameReport s (s.putSpeaker c e) f := by
    obtain ⟨l, after⟩ := lacks_raiseZone l
    obtain ⟨l, before⟩ := lacks_raiseZone l
    refine ⟨l, ?_⟩
    cases f with
    | zone y =>
      refine ⟨rfl, funext fun k => ?_⟩
      show speakersOf s.speakers y k = speakersOf (setAt s.speakers c e) y k
      unfold speakersOf
      by_cases hk : c = k
      · subst hk
        rw [setAt_get_self, if_neg fun h => before y h rfl, if_neg fun h => after y h rfl]
      · rw [setAt_get_of_ne _ _ hk]
    | _ => simp [sameReport, linkReport, unitReport]
  exact ⟨fun p f l => (both p f l).1, fun p f l => sameReport_ports f _ (sameReport_ports f _ (both p f l).2
    (raiseZone_ports_only _ _)) (raiseZone_ports_only _ _)⟩

/-- Where a copy lacks a flag after the tuner's record is written, what it reports of the tuner stays, but for PRESETS. -/
theorem putTuner_lacks {s : State} {x : Tuner} (hc : s.tuner.Numbered x) {p : Port} {f : Flag} (l : (s.putTuner x).lacks p f)
    (hp : .presets = f → x.presets = s.tuner.presets) : s.lacks p f ∧ sameReport s (s.putTuner x) f := by
  obtain ⟨l, done⟩ := lacks_raiseIf (s := { s with ports := s.ports.raiseIf (s.tuner.lockChange x) .tunerLock })
    (State.putTuner_ports s x) l
  obtain ⟨before, lock⟩ := lacks_raiseIf (s := s) rfl l
  refine ⟨before, ?_⟩
  cases f with
  | tunerDone =>
    have number := done rfl
    rw [bne_eq_false_iff_eq] at number
    rcases hc with e | e
    · exact e.symm
    · exact absurd number.symm e
  | tunerLock => simpa [sameReport, Tuner.lockChange] using lock rfl
  | presets => exact (hp rfl).symm
  | _ => simp [sameReport, linkReport, unitReport]

theorem putTuner_flagged (s : State) (x : Tuner) (hp : x.presets = s.tuner.presets) (hc : s.tuner.Numbered x) :
    Flagged s (s.putTuner x) :=
  ⟨fun _ _ l => (putTuner_lacks hc l fun _ => hp).1, fun _ _ l => (putTuner_lacks hc l fun _ => hp).2⟩

theorem presets_flagged (s : State) (x : Tuner) (hc : s.tuner.Numbered x) : Flagged s ((s.putTuner x).raise .presets) := by
  have both (p : Port) (f : Flag) (l : ((s.putTuner x).raise .presets).lacks p f) :
      s.lacks p f ∧ sameReport s (s.putTuner x) f := by
    obtain ⟨l, other⟩ := lacks_raise (s := s.putTuner x) rfl l
    exact putTuner_lacks hc l fun e => absurd e other
  exact ⟨fun p f l => (both p f l).1, fun p f l => sameReport_ports f _ (both p f l).2 rfl⟩

theorem putPort_flagged (s : State) (p : Port) (r : PortState) (h : r.flags = (s.ports.get p).flags) :
    Flagged s (s.putPort p r) := by
  have flags (q : Port) : ((s.ports.put p r).get q).flags = (s.ports.get q).flags := by
    cases p <;> cases q <;> simp_all [Ports.put, Ports.get]
  refine ⟨fun q f l => ?_, fun q f _ => sameReport_ports f _ (.refl s f) rfl⟩
  unfold State.lacks at l ⊢
  rwa [State.putPort_ports, flags] at l

/-- Every write sets the flags of what it changes. -/
theorem Write.flagged {s t : State} (w : Write s t) : Flagged s t := by
  cases w with
  | link l r => exact putLink_flagged s l r
  | monitor l m => exact putMonitor_flagged s l m
  | unit u d => exact putUnit_flagged s u d
  | waitList w => exact putWaitList_flagged s w
  | raise f => exact .raised f (fun _ _ l => l) fun _ g _ _ => .refl s g
  | zone z r h => exact putZone_flagged s z r h
  | decode z pos => exact setDecode_flagged s z pos
  | modulator z w m => exact modulator_flagged s z w m
  | speaker c e => exact speaker_flagged s c e
  | pair q r hd hl => exact putPair_flagged s q r hd hl
  | protection q r => exact protection_flagged s q r
  | tuner x hp hc => exact putTuner_flagged s x hp hc
  | presets x hc => exact presets_flagged s x hc
  | port p r h => exact putPort_flagged s p r h
  | _ => exact .of_ports rfl fun f => by cases f <;> simp [sameReport, linkReport, unitReport]

theorem Writes.flagged {s t : State} (h : Writes s t) : Flagged s t :=
  h.keeps (P := Flagged s) (fun _ _ w k => k.trans w.flagged) (.refl s)

/-! ## The statement -/

theorem Link.unlisted_of_report {s t : State} {l : LinkId} (h : linkReport s l = linkReport t l) :
    (s.links.get l).unlisted (t.links.get l) ∧ (s.monitors.get l).state = (t.monitors.get l).state := by
  simp only [linkReport, Prod.mk.injEq] at h
  obtain ⟨⟨he, hs, hr, hw⟩, hg, hm⟩ := h
  refine ⟨⟨he, hw, hs, hr, fun d e hd hE => ?_⟩, hm⟩
  rw [hd, hE] at hg
  simpa [and_assoc] using hg

theorem Zone.unlisted_of_report {a b : Zone} (h : a.report = b.report) : a.unlisted b := by
  simp only [Zone.report, Prod.mk.injEq] at h
  obtain ⟨⟨⟨h1, h2, h3, h4, h5⟩, h6, h7, h8, h9, h10⟩, ⟨⟨h11, h12, h13, h14⟩, h15, h16, h17⟩,
    ⟨⟨h18, h19⟩, h20, h21⟩, h22, h23⟩ := h
  exact ⟨⟨h1, h2, h3, h4, h5⟩, ⟨h6, h7, h8, h9, h10, h11, h12, h13, h14⟩, ⟨h15, h16, h17, h18, h19⟩, h20, h22, h23, h21⟩

/-- The entries of a zone's speakers, before and after, are the same where the zone's entries by channel are. -/
theorem speakers_eq_of_speakersOf {a b : Vector Speaker 12} {z : ZoneId} (h : speakersOf a z = speakersOf b z) (c : Chan)
    (hc : (a.get c).zone = some z ∨ (b.get c).zone = some z) : a.get c = b.get c := by
  have hcc : speakersOf a z c = speakersOf b z c := congrFun h c
  unfold speakersOf at hcc
  rcases hc with hc | hc
  · rw [if_pos hc] at hcc
    split at hcc
    · exact Option.some.inj hcc
    · cases hcc
  · rw [if_pos hc] at hcc
    split at hcc
    · exact Option.some.inj hcc
    · cases hcc

theorem changesFlagged_of_sameReport {s t : State} (h : ∀ p f, t.lacks p f → sameReport s t f) : changesFlagged s t := by
  refine fun p => ⟨fun l k => Link.unlisted_of_report (h p _ k), fun z k => ?_, fun u k => ?_, fun q k => ?_,
    fun k => h p _ k, fun k => h p _ k, fun k => h p _ k⟩
  · obtain ⟨zone, speakers⟩ := h p _ k
    exact ⟨Zone.unlisted_of_report zone, speakers_eq_of_speakersOf speakers⟩
  · have unit : unitReport s u = unitReport t u := h p _ k
    simp only [unitReport, Prod.mk.injEq] at unit
    obtain ⟨⟨hs, hl, hw⟩, attached⟩ := unit
    exact ⟨hs, hl, hw, fun z => Set.ext_iff.1 attached z⟩
  · have pair : (s.pairs.get q).report = (t.pairs.get q).report := h p _ k
    simp only [Pair.report, Prod.mk.injEq] at pair
    obtain ⟨⟨hs, hr, hc⟩, hd, hl⟩ := pair
    exact ⟨hs, hr, hc, hd, hl⟩

/-- Settles O51: a command is a run of writes each of which sets its flags, and READ_EVENTS, which clears a copy, changes nothing
that a flag reports. -/
theorem changesSetFlags : Obligations.ChangesSetFlags := by
  intro c s t h noReset noPower
  apply changesFlagged_of_sameReport
  by_cases read : ∃ p tag y, c = .readEvents p tag y
  · obtain ⟨p, tag, y, rfl⟩ := read
    exact fun _ f _ => sameReport_ports f t (.refl s f) (readEvents_ports h)
  · push Not at read
    exact (exec_writes h ⟨read, noReset, noPower⟩).flagged.same

end Sys2Proof.Machine
end

section
/-! Requests that are taken, as the state they leave, and the requests and events of a link's options, counters and reports. -/

namespace Sys2Proof.Machine

/-! ## Requests that are taken -/

theorem indexOf_of_toNat {n : Nat} {b : Byte} {i : Fin n} (h : b.toNat = i.1) : indexOf n b = some i := by
  unfold indexOf
  rw [dif_pos (h ▸ i.2)]
  exact congrArg some (Fin.ext h)

theorem indexOf_eq_none {n : Nat} {b : Byte} (h : n ≤ b.toNat) : indexOf n b = none := dif_neg (by omega)

theorem oneIndex_in_range {n : Nat} {b : Byte} {i : Fin n} (s : State) (f : State → Fin n → Reply) (h : b.toNat = i.1) :
    oneIndex n [b] s f = f s i := by simp [oneIndex, indexOf_of_toNat h]

theorem oneIndex_out_of_range {n : Nat} {b : Byte} (s : State) (f : State → Fin n → Reply) (h : n ≤ b.toNat) :
    oneIndex n [b] s f = s.reply .range := by simp [oneIndex, indexOf_eq_none h]

theorem oneIndex_wrong_length {n : Nat} {payload : List Byte} (s : State) (f : State → Fin n → Reply)
    (h : payload.length ≠ 1) : oneIndex n payload s f = s.reply .length := by
  match payload with
  | [] => rfl
  | [_] => exact absurd rfl h
  | _ :: _ :: _ => rfl

/-- One payload byte is within a port's limit (R192). -/
theorem one_le {b : Byte} : [b].length ≤ 250 := Nat.le_of_ble_eq_true rfl

/-- Two payload bytes are within a port's limit (R192). -/
theorem two_le {a b : Byte} : [a, b].length ≤ 250 := Nat.le_of_ble_eq_true rfl

/-- The port of a request that is taken, while the owner takes it (R192, R194). -/
def State.taking (s : State) (p : Port) (n : Nat) : State :=
  s.putPort p ((s.ports.get p).complete false (List.replicate (2 + n) 0))

/-- The flags a taking sets are set before the response stands in the slot, or after it: the port is the same (R194, R199). -/
theorem Ports.raiseIf_answered (ps : Ports) (b : Bool) (f : Flag) (p : Port) (r : PortState) (x : Option Response) :
    ((ps.put p { r with flags := (ps.get p).flags }).raiseIf b f).put p
      { ((ps.put p { r with flags := (ps.get p).flags }).raiseIf b f).get p with slot := x } =
    (ps.raiseIf b f).put p { { r with flags := ((ps.raiseIf b f).get p).flags } with slot := x } := by
  cases p <;> cases b <;> rfl

/-- A request that is taken and of which the owner leaves `t`. -/
theorem serve_eq {s t : State} {p : Port} {tag : Byte} {payload : List Byte} {owner : State → Reply} {r : Result}
    {data : List Byte} (h : Ready s p) (hl : payload.length ≤ 250)
    (ho : owner (s.taking p payload.length) = { state := t, result := r, data := data }) :
    serve s p tag payload owner = t.updPort p fun x => { x with slot := some { tag := tag, result := r, data := data } } := by
  rw [serve_taken s p tag payload owner h.1 hl h.2]
  unfold State.taking at ho
  simp only [ho]

/-- A request whose owner changes nothing (R194). -/
theorem serve_unchanged {s : State} {p : Port} {tag : Byte} {payload : List Byte} {owner : State → Reply} {r : Result}
    {data : List Byte} (h : Ready s p) (hl : payload.length ≤ 250)
    (ho : owner (s.taking p payload.length) = { state := s.taking p payload.length, result := r, data := data }) :
    serve s p tag payload owner = s.answered p (s.status p) tag payload.length r data := by
  rw [serve_eq h hl ho]
  unfold State.updPort State.taking State.answered
  rw [State.putPort_ports, Ports.put_get_self]
  show ({ s with ports := (s.ports.put p _).put p _ } : State) = _
  rw [Ports.put_put]
  rfl

/-- A request whose owner changes one link and sets LINK as R23 lists (R199). -/
theorem serve_updLink {s : State} {p : Port} {tag : Byte} {payload : List Byte} {owner : State → Reply} {r : Result}
    {data : List Byte} {l : LinkId} {f : Link → Link} (h : Ready s p) (hl : payload.length ≤ 250)
    (ho : owner (s.taking p payload.length) =
      { state := (s.taking p payload.length).updLink l f, result := r, data := data }) :
    serve s p tag payload owner =
      State.answered { s with links := setAt s.links l (f (s.links.get l))
                              ports := s.ports.raiseIf ((s.links.get l).reportedChange (f (s.links.get l))) (.link l) }
        p (s.status p) tag payload.length r data := by
  rw [serve_eq h hl ho]
  unfold State.updPort State.answered State.updLink State.putPort
  rw [State.putLink_ports]
  have ports := Ports.raiseIf_answered s.ports ((s.links.get l).reportedChange (f (s.links.get l))) (.link l) p
    ((s.ports.get p).complete false (List.replicate (2 + payload.length) 0)) (some { tag := tag, result := r, data := data })
  have flags := Ports.raiseIf_port s.ports ((s.links.get l).reportedChange (f (s.links.get l))) (.link l) p
  show ({ s with links := _, ports := _ } : State) = { s with links := _, ports := _ }
  congr 1
  refine ports.trans ?_
  dsimp only
  rw [flags]
  rfl

/-! ## Reports -/

/-- Settles O13: the owner of each report answers with the record and leaves the state. -/
theorem linkReports : Obligations.LinkReports := by
  refine ⟨fun s p tag lb l h hl => ⟨congrArg Host.Outcome.next ?_, congrArg Host.Outcome.next ?_⟩,
    fun s p tag h => congrArg Host.Outcome.next ?_⟩
  · exact serve_unchanged h one_le (oneIndex_in_range _ _ hl)
  · exact serve_unchanged h one_le (oneIndex_in_range _ _ hl)
  · exact serve_unchanged h (Nat.zero_le _) rfl

/-! ## Counters and options -/

/-- Settles O16. -/
theorem counterRequests : Obligations.CounterRequests := by
  refine ⟨fun s p tag lb l h hl => congrArg Host.Outcome.next ?_,
    fun s p tag lb l c h hl hc => congrArg Host.Outcome.next ?_, fun s p tag lb h hl => ?_,
    fun s p tag payload h hn hl => ?_⟩
  · rw [serve_updLink h one_le (oneIndex_in_range _ _ hl)]
    simp [Link.reportedChange, clearTotals, Counter.clearTotal]
  · subst hc
    rw [serve_unchanged h one_le (oneIndex_in_range _ _ hl)]
    rfl
  · exact ⟨congrArg Host.Outcome.next (serve_unchanged h one_le (oneIndex_out_of_range _ _ hl)),
      congrArg Host.Outcome.next (serve_unchanged h one_le (oneIndex_out_of_range _ _ hl))⟩
  · exact ⟨congrArg Host.Outcome.next (serve_unchanged h hl (oneIndex_wrong_length _ _ hn)),
      congrArg Host.Outcome.next (serve_unchanged h hl (oneIndex_wrong_length _ _ hn))⟩

end Sys2Proof.Machine
end

section
/-! The options of a link, the whole-second snapshot, the events of an iteration, and the slots of a frame. -/

namespace Sys2Proof.Machine

/-! ## Link writes that set no flag -/

/-- A link write that changes nothing R23 lists sets no flag. -/
theorem State.updLink_unreported {s : State} {l : LinkId} {f : Link → Link}
    (h : (s.links.get l).reportedChange (f (s.links.get l)) = false) :
    s.updLink l f = { s with links := setAt s.links l (f (s.links.get l)) } := by
  simp [State.updLink, State.putLink, h]

/-- A link with the counters of a whole second taken (R19). -/
def Link.snapped (r : Link) : Link := { r with counters := r.counters.snap }

theorem Link.snapped_unreported (r : Link) : r.reportedChange r.snapped = false := by simp [Link.reportedChange, Link.snapped]

/-- A loop of snapshots takes the counters of its links and touches nothing else (R19). -/
theorem forEach_snapped (xs : List LinkId) (h : xs.Nodup) (s : State) :
    ∃ links, (s.forEach xs fun s l => s.updLink l Link.snapped) = { s with links := links } ∧
      ∀ k, links.get k = if k ∈ xs then (s.links.get k).snapped else s.links.get k := by
  induction xs generalizing s with
  | nil => exact ⟨s.links, rfl, fun k => by simp⟩
  | cons x xs ih =>
    obtain ⟨hx, hxs⟩ := List.nodup_cons.mp h
    obtain ⟨links, eq, get⟩ := ih hxs (s.updLink x Link.snapped)
    rw [State.updLink_unreported (Link.snapped_unreported _)] at eq get
    refine ⟨links, ?_, fun k => ?_⟩
    · rw [State.forEach_cons, State.updLink_unreported (Link.snapped_unreported _), eq]
    · rw [get k]
      by_cases hk : x = k
      · subst hk; simp [hx]
      · have hk' : k ≠ x := fun e => hk e.symm
        simp [setAt_get, hk, hk']

theorem takeSnapshot_due {s : State} (h : s.snapshotDue = true) :
    takeSnapshot s = { s with links := (takeSnapshot s).links, snapshotDue := false } ∧
      ∀ l, (takeSnapshot s).links.get l = (s.links.get l).snapped := by
  obtain ⟨links, eq, get⟩ := forEach_snapped linkIds (by decide) s
  have snap : takeSnapshot s = { s with links := links, snapshotDue := false } := by
    rw [takeSnapshot, if_pos h]
    exact congrArg (fun t : State => { t with snapshotDue := false }) eq
  rw [snap]
  refine ⟨rfl, fun l => (get l).trans (if_pos ?_)⟩
  fin_cases l <;> decide

/-! ## SET_LINK_OPTIONS and the snapshot -/

theorem reqSetLinkOptions_eq {s : State} {lb wb : Byte} {l : LinkId} (hl : lb.toNat = l.1) :
    reqSetLinkOptions [lb, wb] s =
      (s.updLink l fun r => { r with lossWindow := clampNat 1 32 wb.toNat }).okOrLimited (clampNat 1 32 wb.toNat != wb.toNat)
        (u8 (clampNat 1 32 wb.toNat)) := by
  simp [reqSetLinkOptions, indexOf_of_toNat hl]

/-- Settles O17. -/
theorem linkOptionsAndSnapshot : Obligations.LinkOptionsAndSnapshot := by
  refine ⟨fun s p tag lb wb l w h hl hw => congrArg Host.Outcome.next ?_,
    fun s h => congrArg Host.Outcome.next (takeSnapshot_none h), fun s h => ?_⟩
  · have clamp : clampNat 1 32 wb.toNat = w := by rw [hw, clampNat_eq _ _ _ (by decide)]
    refine (serve_updLink h two_le (reqSetLinkOptions_eq hl)).trans ?_
    rw [clamp]
    have changed : (s.links.get l).reportedChange { s.links.get l with lossWindow := w } =
        decide ((s.links.get l).lossWindow ≠ w) := by
      simp [Link.reportedChange, bne, beq_eq_decide]
    have result : (if (w != wb.toNat) = true then Result.limited else .ok) = okIf (decide (w = wb.toNat)) := by
      by_cases e : w = wb.toNat <;> simp [okIf, e]
    rw [changed, result]
    rfl
  · obtain ⟨kept, get⟩ := takeSnapshot_due h
    exact ⟨takeSnapshot s, rfl, kept, get⟩

/-! ## The events of an iteration -/

/-- The timer has run out, as the statements say it (log 4). -/
theorem ranOut_iff_timeUp (t : Option Timer) (now : Millis) : ranOut t now ↔ timeUp t now = true := by
  cases t with
  | none => simp [ranOut, timeUp]
  | some w => simp [ranOut, timeUp, Timer.remaining, Timer.elapsed, Nat.sub_eq_zero_iff_le]

theorem timeUp_of_not_ranOut {t : Option Timer} {now : Millis} (h : ¬ranOut t now) : timeUp t now = false :=
  Bool.eq_false_iff.mpr fun e => h ((ranOut_iff_timeUp t now).mpr e)

/-- A tuner write that changes neither state, band nor completions sets no flag (R182). -/
theorem State.putTuner_unreported {s : State} {t : Tuner} (state : t.state = s.tuner.state) (band : t.band = s.tuner.band)
    (number : t.nextNumber = s.tuner.nextNumber) : s.putTuner t = { s with tuner := t } := by
  simp [State.putTuner, Tuner.lockChange, state, band, number]

/-- A gate of the tuner's record is written alone: no flag (R166, R182). -/
theorem State.putTuner_gate (s : State) (g : Gate) :
    s.putTuner { s.tuner with gate := g } = { s with tuner := { s.tuner with gate := g } } :=
  State.putTuner_unreported rfl rfl rfl

theorem transferDac_takeSnapshot (s : State) : transferDac (takeSnapshot s) = transferDac s := by
  unfold transferDac
  rw [takeSnapshot_none (takeSnapshot_snapshotDue s)]

theorem transferDac_of_not_due {s : State} (h : s.snapshotDue = false) :
    transferDac s = { s with
      ms := s.ms + 1
      snapshotDue := wholeSecond (s.ms + 1)
      tuner := { s.tuner with
        transferred := s.tuner.dac
        gate := if s.tuner.gate = .transfer then .settling (newTimer (s.ms + 1) s.tuner.band.settle) else s.tuner.gate } } := by
  unfold transferDac
  rw [takeSnapshot_none h]

theorem settleExpiry_settling {s : State} {w : Timer} (h : s.tuner.gate = .settling w) :
    settleExpiry s =
      if timeUp (some w) s.ms = true then { s with tuner := { s.tuner with gate := gateOpens s.ms } } else s := by
  unfold settleExpiry
  simp only [h, State.putTuner_gate]

theorem freqEdge_waiting {s : State} {w : Timer} (ticks : Nat) (h : s.tuner.gate = .waiting w) :
    freqEdge s ticks = { s with tuner := { s.tuner with gate := .counting 0 0 (newTimer s.ms 20) } } := by
  unfold freqEdge
  simp only [h, State.putTuner_gate]

theorem freqEdge_counting {s : State} {n t : Nat} {w : Timer} (ticks : Nat) (h : s.tuner.gate = .counting n t w) :
    freqEdge s ticks =
      if s.tuner.band.gateCount ≤ n + 1 then endGate s (some (measuredLO s.tuner.band (t + ticks)))
      else { s with tuner := { s.tuner with gate := .counting (n + 1) (t + ticks) (newTimer s.ms 20) } } := by
  unfold freqEdge
  simp only [h, State.putTuner_gate]

/-- Settles O46. -/
theorem iterationEvents : Obligations.IterationEvents := by
  refine ⟨fun s u h => ?_, fun s h => congrArg Host.Outcome.next ?_, fun s w h => ?_,
    fun s w ticks h => congrArg Host.Outcome.next (freqEdge_waiting ticks h),
    fun s n t ticks w h hn => congrArg Host.Outcome.next ?_, fun s n t ticks w h hn => congrArg Host.Outcome.next ?_,
    fun s h => congrArg Host.Outcome.next ?_, fun s h => congrArg Host.Outcome.next ?_,
    fun s hs h => congrArg Host.Outcome.next ?_⟩
  · have taken : takeSnapshot s = u := Host.Outcome.next.inj h
    exact congrArg Host.Outcome.next (taken ▸ transferDac_takeSnapshot s).symm
  · rw [transferDac_of_not_due h, wholeSecond, beq_eq_decide]
    rfl
  · refine (congrArg Host.Outcome.next (settleExpiry_settling h)).trans ?_
    by_cases up : ranOut (some w) s.ms
    · rw [if_pos ((ranOut_iff_timeUp _ _).mp up), if_pos up]
      rfl
    · rw [if_neg fun e => up ((ranOut_iff_timeUp _ _).mpr e), if_neg up]
  · rw [freqEdge_counting ticks h, if_neg (Nat.not_le.mpr hn)]
    rfl
  · exact (freqEdge_counting ticks h).trans (if_pos hn.ge)
  · exact if_neg (Bool.eq_false_iff.mp (timeUp_of_not_ranOut h))
  · exact if_neg fun e => Bool.eq_false_iff.mp (timeUp_of_not_ranOut h) e.2
  · exact (if_pos ⟨hs, (ranOut_iff_timeUp _ _).mp h⟩).trans (State.putTuner_unreported rfl rfl rfl)

/-! ## The slots of a frame -/

/-- An exclusive or along a list says whether an odd number of its elements hold (R3). -/
theorem foldl_xor_eq_odd {α : Type} (f : α → Bool) (xs : List α) (a : Bool) :
    xs.foldl (fun a i => a != f i) a = (a != decide ((xs.filter f).length % 2 = 1)) := by
  induction xs generalizing a with
  | nil => simp
  | cons x xs ih =>
    rw [List.foldl_cons, ih]
    have flip : decide (((xs.filter f).length + 1) % 2 = 1) = !decide ((xs.filter f).length % 2 = 1) := by
      by_cases e : (xs.filter f).length % 2 = 1
      · simp [e]; omega
      · simp [e]; omega
    cases h : f x <;> simp [h, flip]

theorem parityError_eq (w : Slot) :
    parityError w = decide (((List.range 32).filter fun i => w.getLsbD i).length % 2 = 1) := by
  rw [parityError, foldl_xor_eq_odd, Bool.false_bne]

theorem parityError_of_odd {w : Slot} (h : ((List.range 32).filter fun i => w.getLsbD i).length % 2 = 1) :
    parityError w = true := (parityError_eq w).trans (decide_eq_true h)

theorem parityError_of_even {w : Slot} (h : ((List.range 32).filter fun i => w.getLsbD i).length % 2 = 0) :
    parityError w = false := (parityError_eq w).trans (decide_eq_false (by omega))

theorem pcmSlot_malformed {f : RawFrame} {n : Fin 8} {h : Hold} (w : f.wellFormed = false) :
    pcmSlot f n h = ((h.asSample, h), false) := if_pos w

theorem pcmSlot_parityError {f : RawFrame} {n : Fin 8} {h : Hold} (w : f.wellFormed = true)
    (e : parityError (f.slots.get n) = true) : pcmSlot f n h = ((h.asSample, h), true) := by simp [pcmSlot, w, e]

theorem pcmSlot_good {f : RawFrame} {n : Fin 8} {h : Hold} (w : f.wellFormed = true)
    (e : parityError (f.slots.get n) = false) :
    pcmSlot f n h = ((pcmValue (f.slots.get n), .sample (pcmValue (f.slots.get n))), false) := by simp [pcmSlot, w, e]

/-- Settles O18. -/
theorem pcmSlotRule : Obligations.PcmSlotRule := fun _ _ _ =>
  ⟨rfl, fun _ => rfl, pcmSlot_malformed, fun w e => pcmSlot_parityError w (parityError_of_odd e),
    fun w e => pcmSlot_good w (parityError_of_even e)⟩

end Sys2Proof.Machine
end

section
/-! The two resets of the whole part (R203, R204), and the state the machine starts in. -/

namespace Sys2Proof.Machine

/-! ## Ports -/

theorem resetFlags_get (i : Fin 26) : resetFlags.get i = decide (i = resetFlagIndex) := by
  fin_cases i <;> rfl

theorem otherPort_ne (p : Port) : p ≠ otherPort p := by cases p <;> decide

/-- The ports of a soft reset, each by itself (R204). -/
theorem softReset_port (s : State) (p : Port) :
    (softReset s).ports.get p = (s.ports.get p).softReset (Config.clockedAtReset s.fresh) := by cases p <;> rfl

theorem PortState.softReset_line (r : PortState) (n : Nat) :
    (r.softReset n).line = if r.line = .idle then .idle else .ignoring := by
  unfold PortState.softReset
  cases r.line <;> rfl

theorem PortState.softReset_cut {r : PortState} {st : Byte} (n : Nat) (h : r.line = .selected st) :
    (r.softReset n).cut = some { status := st, record := r.record, clocked := n } := by
  unfold PortState.softReset
  rw [h]

/-- The record that a FETCH shifts out, field by field (R196, R197). -/
theorem PortState.record_eq (r : PortState) : r.record = match r.slot with
    | some x => [x.tag, BitVec.ofNat 8 x.result.code, BitVec.ofNat 8 x.data.length] ++ x.data
    | none => [0, 255, 0] := by
  unfold PortState.record
  cases r.slot <;> rfl

/-! ## Blocks -/

theorem pairQuiet_reset (dcTime retryLimit : Nat) (flt : Bool) : (Pair.reset dcTime retryLimit flt).quiet :=
  ⟨rfl, rfl, rfl, rfl, rfl, rfl⟩

theorem channelReset_off : Channel.reset.isOff ∧ Channel.reset.delay = none ∧ Channel.reset.line = [] ∧
    Channel.reset.lipSection = [] ∧ Channel.reset.watch = .clear := ⟨⟨rfl, rfl⟩, rfl, rfl, rfl, rfl⟩

theorem linkSoftReset_cleared (r : Link) : r.softReset.cleared ∧ r.softReset.counters = LinkCounters.zero :=
  ⟨⟨rfl, rfl, rfl, rfl, rfl, rfl⟩, rfl⟩

/-- A soft reset leaves every block as R204 says, whatever the ports then hold. -/
theorem softReset_blocksReset (s : State) : blocksReset (softReset s) := by
  refine ⟨fun l => ?_, fun l => ?_, fun u => ?_, rfl, fun z => ?_, fun c => ?_, fun q => ?_, ?_, fun e => ?_⟩
  · simpa [softReset, softBlocks] using linkSoftReset_cleared (s.links.get l)
  · simp [softReset, softBlocks, Monitor.reset]
  · simp [softReset, softBlocks]
  · simp [softReset, softBlocks, Zone.reset]
  · simpa [softReset, softBlocks] using channelReset_off
  · simpa [softReset, softBlocks] using pairQuiet_reset _ _ _
  · exact ⟨rfl, rfl, rfl, rfl, rfl, rfl, rfl, rfl, rfl, rfl, rfl, rfl⟩
  · simp [softReset, softBlocks, Encoder.reset]

/-- The configuration that a soft reset keeps (R204). -/
theorem softReset_link (s : State) (l : LinkId) : (softReset s).links.get l = (s.links.get l).softReset := by
  simp [softReset, softBlocks]

theorem softReset_zone (s : State) (z : ZoneId) : (softReset s).zones.get z =
    Zone.reset (s.zones.get z).selected (s.zones.get z).resolution (s.zones.get z).minPulse := by
  simp [softReset, softBlocks]

theorem softReset_pair (s : State) (q : PairId) : (softReset s).pairs.get q =
    Pair.reset (s.pairs.get q).dcTime (s.pairs.get q).retryLimit (s.pairs.get q).flt := by
  simp [softReset, softBlocks]

theorem softReset_encoder (s : State) (e : EncId) : (softReset s).encoders.get e =
    Encoder.reset (s.encoders.get e).raw s.ms (s.encoders.get e).binding := by
  simp [softReset, softBlocks]

theorem coarse_nil (f : Nat) : coarse [] f = none := rfl

/-- What the blocks hold does not depend on the ports. -/
theorem blocksReset_updPort {t : State} (p : Port) (f : PortState → PortState) (h : blocksReset t) :
    blocksReset (t.updPort p f) := h

/-- Settles O8. -/
theorem deviceResetEffect : Obligations.DeviceResetEffect := by
  intro s p tag h
  have served : exec (.deviceReset p tag []) s = .next ((softReset (s.taking p 0)).updPort p fun x =>
      { x with slot := some { tag := tag, result := .ok, data := [] } }) :=
    congrArg Host.Outcome.next (serve_eq h (Nat.zero_le _) rfl)
  refine ⟨_, served, blocksReset_updPort _ _ (softReset_blocksReset _), ?_, ?_, fun q => ?_, ?_, ?_, fun st hst => ?_, rfl, rfl, rfl, rfl,
    fun l => ?_, fun z => ?_, fun q => ?_, ⟨rfl, rfl, rfl, rfl, rfl, rfl, rfl⟩, rfl, fun he => ?_, fun d hd => ?_, fun e => ?_⟩
  · cases p <;> rfl
  · cases p <;> rfl
  · cases p <;> cases q <;> exact ⟨rfl, rfl, resetFlags_get⟩
  · cases p <;> rfl
  · have other : ∀ n, ((s.ports.get (otherPort p)).softReset n).line =
        if (s.ports.get (otherPort p)).line = .idle then .idle else .ignoring := PortState.softReset_line _
    cases p <;> exact other _
  · have other : ∀ n, ((s.ports.get (otherPort p)).softReset n).cut = _ := fun n => PortState.softReset_cut n hst
    rw [PortState.record_eq] at other
    cases p <;> exact ⟨_, other _⟩
  · rw [State.updPort, State.putPort_links, softReset_link]
    exact ⟨rfl, rfl, rfl⟩
  · rw [State.updPort, State.putPort_zones, softReset_zone]
    exact ⟨rfl, rfl, rfl⟩
  · rw [State.updPort, State.putPort_pairs, softReset_pair]
    exact ⟨rfl, rfl⟩
  · show (coarse (s.tuner.cal s.tuner.band) s.tuner.target).getD s.tuner.dac = _
    rw [List.isEmpty_iff.mp he, coarse_nil, Option.getD_none]
  · show (coarse (s.tuner.cal s.tuner.band) s.tuner.target).getD s.tuner.dac = _
    rw [hd, Option.getD_some]
  · rw [State.updPort, State.putPort_encoders, softReset_encoder]
    exact ⟨rfl, rfl⟩

/-! ## Power-on reset -/

theorem powerUp_pair (pins : Pins) (q : PairId) : ∃ flt, (State.powerUp pins).pairs.get q = Pair.reset 100 4 flt := by
  fin_cases q <;> exact ⟨_, rfl⟩

theorem powerUp_encoder (pins : Pins) (e : EncId) : ∃ raw b, (State.powerUp pins).encoders.get e = Encoder.reset raw 0 b := by
  fin_cases e <;> exact ⟨_, _, rfl⟩

theorem powerUp_link (pins : Pins) (l : LinkId) : (State.powerUp pins).links.get l = Link.reset := replicate_get _ _

theorem powerUp_monitor (pins : Pins) (l : LinkId) : (State.powerUp pins).monitors.get l = Monitor.reset := replicate_get _ _

theorem powerUp_unit (pins : Pins) (u : UnitId) : (State.powerUp pins).units.get u = DecodeUnit.reset := replicate_get _ _

theorem powerUp_channel (pins : Pins) (c : Chan) : (State.powerUp pins).channels.get c = Channel.reset := replicate_get _ _

theorem powerUp_speaker (pins : Pins) (c : Chan) : (State.powerUp pins).speakers.get c = Speaker.reset := replicate_get _ _

theorem powerUp_blocksReset (pins : Pins) : blocksReset (State.powerUp pins) := by
  refine ⟨fun l => ?_, fun l => ?_, powerUp_unit pins, rfl, fun z => ?_, fun c => ?_, fun q => ?_, ?_, fun e => ?_⟩
  · rw [powerUp_link]
    exact ⟨⟨rfl, rfl, rfl, rfl, rfl, rfl⟩, rfl⟩
  · rw [powerUp_monitor]
    exact ⟨rfl, rfl, rfl, rfl⟩
  · obtain ⟨i, hz⟩ := powerUp_zone pins z
    rw [hz]
    rfl
  · rw [powerUp_channel]
    exact channelReset_off
  · obtain ⟨flt, hq⟩ := powerUp_pair pins q
    rw [hq]
    exact pairQuiet_reset _ _ _
  · exact ⟨rfl, rfl, rfl, rfl, rfl, rfl, rfl, rfl, rfl, rfl, rfl, rfl⟩
  · obtain ⟨raw, b, he⟩ := powerUp_encoder pins e
    rw [he]
    exact ⟨rfl, rfl, rfl⟩

/-- Settles O9. -/
theorem powerOnResetEffect : Obligations.PowerOnResetEffect := by
  intro s pins
  refine ⟨powerOnReset s pins, rfl, powerUp_blocksReset pins, rfl, rfl, fun q => ?_, rfl, rfl, fun l => ?_, fun i => ?_,
    ⟨rfl, rfl, rfl⟩, fun z => ?_, powerUp_speaker pins, fun q => ?_, rfl, rfl, rfl, rfl, rfl, rfl, rfl, rfl, rfl, rfl, rfl⟩
  · cases q <;> exact ⟨rfl, rfl, rfl, resetFlags_get⟩
  · have hl : (powerOnReset s pins).links.get l = Link.reset := powerUp_link pins l
    rw [hl]
    exact ⟨rfl, rfl, rfl⟩
  · fin_cases i <;> rfl
  · obtain ⟨i, hz⟩ : ∃ i, (powerOnReset s pins).zones.get z = Zone.reset i 9 2 := powerUp_zone pins z
    rw [hz]
    exact ⟨rfl, rfl⟩
  · obtain ⟨flt, hq⟩ : ∃ flt, (powerOnReset s pins).pairs.get q = Pair.reset 100 4 flt := powerUp_pair pins q
    rw [hq]
    exact ⟨rfl, rfl⟩

/-! ## The reset state -/

theorem reset_zone (z : ZoneId) : ∃ i, State.reset.zones.get z = Zone.reset i 9 2 := powerUp_zone Pins.quiet z

/-- A power-on reset ranges every count (R203). -/
theorem reset_countsInRange : countsInRange State.reset := powerOnReset_countsInRange State.reset Pins.quiet

theorem reset_tableLawful : tableLawful State.reset.speakers := by
  have free : ∀ c, State.reset.speakers.get c = Speaker.reset := powerUp_speaker Pins.quiet
  refine ⟨fun c d _ h => ?_, fun c => ?_⟩
  · simp [free, Speaker.reset] at h
  · simp [free, Speaker.reset]

theorem reset_countdownsFollow : countdownsFollow State.reset := by
  intro z
  obtain ⟨i, hz⟩ := reset_zone z
  simp [hz, Zone.reset]

theorem reset_arbiterLawful : arbiterLawful State.reset := by
  have free : ∀ u, State.reset.units.get u = DecodeUnit.reset := powerUp_unit Pins.quiet
  refine ⟨fun z => ?_, fun _ _ => rfl, nofun, fun u h => absurd ?_ h, fun u v _ _ => ?_⟩
  · obtain ⟨i, hz⟩ := reset_zone z
    simp [hz, Zone.reset, Zone.link]
  · rw [free]
    rfl
  · rw [free]
    rfl

theorem reset_unitsLawful : unitsLawful State.reset := by
  have free : ∀ u, State.reset.units.get u = DecodeUnit.reset := powerUp_unit Pins.quiet
  refine ⟨fun u => ?_, fun z u h => ?_⟩
  · simp [free, DecodeUnit.reset]
  · obtain ⟨i, hz⟩ := reset_zone z
    simp [hz, Zone.reset] at h

theorem reset_waitListLawful : waitListLawful State.reset := by
  refine ⟨List.nodup_nil, fun z => ⟨fun h => absurd h List.not_mem_nil, fun h => ?_⟩⟩
  obtain ⟨i, hz⟩ := reset_zone z
  simp [hz, Zone.reset] at h

theorem reset_linkMutesFollow : linkMutesFollow State.reset := by
  intro z
  obtain ⟨i, hz⟩ := reset_zone z
  simp [hz, Zone.reset, Zone.link, Mutes.clear]

theorem reset_pairsLawful : pairsLawful State.reset := by
  intro q
  obtain ⟨flt, hq⟩ := powerUp_pair Pins.quiet q
  have quiet : State.reset.pairs.get q = Pair.reset 100 4 flt := hq
  simp [Pair.timersLawful, quiet, Pair.reset, PairState.holds]

/-- Settles O60. -/
theorem resetIsPowerOn : Obligations.ResetIsPowerOn := by
  refine ⟨rfl, rfl, fun p => ?_, reset_tableLawful, reset_countsInRange, fun z => ?_, reset_countdownsFollow, ?_,
    ⟨Nat.zero_le _, List.Pairwise.nil, Nat.zero_le _⟩, reset_unitsLawful, reset_waitListLawful, reset_arbiterLawful,
    fun z => ?_, fun z => ?_, reset_linkMutesFollow, reset_pairsLawful⟩
  · cases p <;> decide
  · obtain ⟨i, hz⟩ := reset_zone z
    rw [hz]
    exact ⟨rfl, nofun⟩
  · exact Nat.zero_le _
  · obtain ⟨i, hz⟩ := reset_zone z
    rw [hz]
    rfl
  · obtain ⟨i, hz⟩ := reset_zone z
    rw [hz]
    exact fun _ => ⟨rfl, rfl, rfl, rfl, rfl, rfl, rfl⟩

end Sys2Proof.Machine
end

section
/-! The delivery of frames in LOCKED: the statement on it fails at a count out of range. -/

namespace Sys2Proof.Machine

/-! ## A BSF link whose CODE count is out of range

The model bumps the CODE count of an arriving frame only where the frame is not well formed, so that of a well formed frame it
leaves a count above 65,535 as it is, and the statement bumps it by 0, which brings it to 65,535. `countsInRangeKept` says that no
run gets there from reset. -/

/-- A CODE total above the range of R19, and no other count. -/
def overflownCounters : LinkCounters := { LinkCounters.zero with code := { Counter.zero with total := 65536 } }

/-- MAIN is ON, FILLING on LA, and attached to DU1, which is SYNCING on LA; LA is LOCKED, and its CODE total is above the range. -/
def overflown : State :=
  { State.reset with
    links := setAt State.reset.links 0 { Link.reset with state := .locked, counters := overflownCounters }
    units := setAt State.reset.units 0 { DecodeUnit.reset with state := .syncing, link := some 0 }
    zones := setAt State.reset.zones 0 { Zone.reset (some 0) 9 2 with
      power := .on, path := .filling, decode := .attached 0
      copy := some { input := some 0, trim := 0, lipSync := 0, mode := .auto } } }

/-- A well formed frame of zeros. -/
def silentFrame : LinkFrame := { data := List.replicate 256 false, fsHigh := 1, ticks := 512 }

theorem linkFrame_overflown : ((linkFrame overflown 0 silentFrame).links.get 0).counters.code.total = 65536 := by decide +kernel

theorem bump_overflown (n : Nat) : (overflownCounters.code.bump n).total ≤ 65535 := satAdd_le _ _

/-- Refutes O20: a well formed frame that arrives on a BSF link leaves a CODE total above 65,535 as it is. -/
theorem not_lockedDeliversPcm : ¬ Obligations.LockedDeliversPcm := by
  rintro ⟨-, handsOut, -⟩
  obtain ⟨t, ht, -, -, -, -, -, -, -, -, counts⟩ := handsOut overflown 0 silentFrame 0 _ 0 [] rfl rfl (Nat.zero_le _)
    (fun _ => rfl) (by decide +kernel) rfl (by decide +kernel) rfl rfl rfl (by decide +kernel) (.inl ⟨by decide +kernel, rfl⟩)
    (fun h => absurd h (by decide +kernel))
  have after : linkFrame overflown 0 silentFrame = t := Host.Outcome.next.inj ht
  have code := counts 0 (fun _ => rfl) fun h => absurd h (by decide +kernel)
  have kept := linkFrame_overflown
  rw [after, code] at kept
  exact absurd kept (Nat.ne_of_lt (Nat.lt_succ_of_le (bump_overflown _)))

end Sys2Proof.Machine
end

section
/-! What the decode arbiter and a binding of one zone leave as it is, each said by one equation between what two states hold apart
from what the operation writes. -/

namespace Sys2Proof.Machine

/-! ## Zones and states apart from what the arbiter writes -/

/-- A zone's record apart from what the decode arbiter and the recorded origin write of it. -/
def Zone.sansArbiter (r : Zone) : Zone :=
  { r with decode := .none, owed := false, lastChanged := .auto, mutes := { r.mutes with decode := false } }

/-- The state apart from what the decode arbiter writes: units, wait list, decode positions, flags and free values. -/
def State.sansArbiter (s : State) : State :=
  { s with units := State.reset.units, waitList := [], ports := State.reset.ports, fresh := 0
           zones := Vector.ofFn fun z => (s.zones.get z).sansArbiter }

theorem sansArbiter_zone {s t : State} (h : t.sansArbiter = s.sansArbiter) (z : ZoneId) :
    (t.zones.get z).sansArbiter = (s.zones.get z).sansArbiter := by
  have same := congrArg (fun u : State => u.zones.get z) h
  simpa [State.sansArbiter] using same

/-- A zone's link is not the arbiter's. -/
theorem sansArbiter_link {r x : Zone} (h : x.sansArbiter = r.sansArbiter) : x.link = r.link := (congrArg Zone.link h :)

/-- A zone operation that writes nothing but the arbiter's part. -/
theorem autoZone_sansArbiter (s : State) (z : ZoneId) {f : Zone → Zone}
    (h : (f (s.zones.get z)).sansArbiter = (s.zones.get z).sansArbiter) : (s.autoZone z f).sansArbiter = s.sansArbiter := by
  have zone (y : ZoneId) : ((s.autoZone z f).zones.get y).sansArbiter = (s.zones.get y).sansArbiter := by
    by_cases e : z = y
    · subst e
      rw [State.autoZone_get_self]
      split
      · exact h
      · exact h
    · rw [State.autoZone_get_of_ne s f e]
  have zones : (s.autoZone z f).sansArbiter.zones = s.sansArbiter.zones := congrArg Vector.ofFn (funext zone)
  unfold State.sansArbiter at zones ⊢
  rw [show (s.autoZone z f) = { s with zones := (s.autoZone z f).zones, ports := (s.autoZone z f).ports } from rfl]
  exact congrArg (fun zs => ({ s with units := State.reset.units, waitList := [], ports := State.reset.ports, fresh := 0
                                      zones := zs } : State)) zones

theorem raiseAttached_sansArbiter (s : State) (pos : DecodePos) : (raiseAttached s pos).sansArbiter = s.sansArbiter := by
  cases pos <;> rfl

theorem setDecode_sansArbiter (s : State) (z : ZoneId) (pos : DecodePos) : (setDecode s z pos).sansArbiter = s.sansArbiter := by
  have told : (s.autoZone z fun r => r.withDecode pos (decodeMuted s pos)).sansArbiter = s.sansArbiter :=
    autoZone_sansArbiter s z rfl
  rw [setDecode_eq]
  dsimp only
  split
  · exact told
  · rw [raiseAttached_sansArbiter, raiseAttached_sansArbiter, told]

theorem bindUnit_sansArbiter (s : State) (u : UnitId) (l : LinkId) : (bindUnit s u l).sansArbiter = s.sansArbiter := rfl

theorem updUnit_sansArbiter (s : State) (u : UnitId) (f : DecodeUnit → DecodeUnit) :
    (s.updUnit u f).sansArbiter = s.sansArbiter := rfl

theorem putWaitList_sansArbiter (s : State) (w : List ZoneId) : (s.putWaitList w).sansArbiter = s.sansArbiter := rfl

theorem raise_sansArbiter (s : State) (f : Flag) : (s.raise f).sansArbiter = s.sansArbiter := rfl

theorem grantUnit_sansArbiter (s : State) (u : UnitId) : (grantUnit s u).sansArbiter = s.sansArbiter := by
  unfold grantUnit
  split
  · rfl
  · split
    · rfl
    · exact State.forEach_field State.sansArbiter _ (fun t y => setDecode_sansArbiter t y _) _ _

theorem freeIfEmpty_sansArbiter (s : State) (u : UnitId) : (freeIfEmpty s u).sansArbiter = s.sansArbiter := by
  unfold freeIfEmpty
  split
  · exact (grantUnit_sansArbiter _ u).trans (updUnit_sansArbiter s u _)
  · rfl

theorem releaseDecode_sansArbiter (s : State) (z : ZoneId) : (releaseDecode s z).sansArbiter = s.sansArbiter := by
  unfold releaseDecode
  split
  · rfl
  · exact setDecode_sansArbiter _ _ _
  · exact (freeIfEmpty_sansArbiter _ _).trans (setDecode_sansArbiter _ _ _)

theorem placeDecode_sansArbiter (s : State) (z : ZoneId) (l : LinkId) : (placeDecode s z l).sansArbiter = s.sansArbiter := by
  unfold placeDecode
  split
  · exact setDecode_sansArbiter _ _ _
  · split
    · exact setDecode_sansArbiter _ _ _
    · exact setDecode_sansArbiter _ _ _

theorem rebindDecode_sansArbiter (s : State) (z : ZoneId) (old new : Option LinkId) :
    (rebindDecode s z old new).sansArbiter = s.sansArbiter := by
  unfold rebindDecode
  split
  · exact releaseDecode_sansArbiter s z
  · split
    · split
      · exact setDecode_sansArbiter _ _ _
      · exact (placeDecode_sansArbiter _ _ _).trans (releaseDecode_sansArbiter s z)
    · exact releaseDecode_sansArbiter s z

theorem placeIfNone_sansArbiter (l : LinkId) (s : State) (z : ZoneId) : (placeIfNone l s z).sansArbiter = s.sansArbiter := by
  unfold placeIfNone
  split
  · exact placeDecode_sansArbiter s z l
  · rfl

theorem dropNeed_sansArbiter (l : LinkId) (s : State) (z : ZoneId) : (dropNeed l s z).sansArbiter = s.sansArbiter := by
  unfold dropNeed
  split
  · split
    · exact setDecode_sansArbiter _ _ _
    · exact setDecode_sansArbiter _ _ _
  · rfl

/-- The arbiter at a change of a link writes its own part of the state alone (R54). -/
theorem arbiterLink_sansArbiter (s : State) (l : LinkId) : (arbiterLink s l).sansArbiter = s.sansArbiter := by
  have dropped : (s.forEach zoneIds (dropNeed l)).sansArbiter = s.sansArbiter :=
    State.forEach_field State.sansArbiter _ (dropNeed_sansArbiter l) _ s
  unfold arbiterLink
  split
  · exact State.forEach_field State.sansArbiter _ (placeIfNone_sansArbiter l) _ s
  · dsimp only
    split
    · exact (freeIfEmpty_sansArbiter _ _).trans dropped
    · exact dropped

/-! ## One zone and the frame around the zones -/

/-- The state as one zone sees it when other zones are operated on: its own record apart from the arbiter's part, and links,
monitors, tables, tuner, encoders and time. -/
def State.about (z : ZoneId) (s : State) : State :=
  { s with units := State.reset.units, waitList := [], ports := State.reset.ports, fresh := 0
           channels := State.reset.channels, pairs := State.reset.pairs
           zones := Vector.replicate 3 (s.zones.get z).sansArbiter }

theorem about_of_sansArbiter {s t : State} (h : t.sansArbiter = s.sansArbiter) (z : ZoneId) : t.about z = s.about z := by
  have same := congrArg (State.about z) h
  simpa [State.about, State.sansArbiter, Zone.sansArbiter] using same

theorem about_zone {s t : State} {z : ZoneId} (h : t.about z = s.about z) :
    (t.zones.get z).sansArbiter = (s.zones.get z).sansArbiter := by
  have same := congrArg (fun u : State => u.zones.get z) h
  simpa [State.about] using same

theorem about_frame {s t : State} {z : ZoneId} (h : t.about z = s.about z) : zoneFrameKept s t :=
  ⟨(congrArg State.links h :), (congrArg State.monitors h :), (congrArg State.sources h :), (congrArg State.speakers h :),
    (congrArg State.tuner h :), (congrArg State.encoders h :), (congrArg State.ms h :), (congrArg State.snapshotDue h :)⟩

/-- An operation that writes zone records, channels and pairs in a frame, and not the record of zone `z`. -/
theorem about_of_zones {s t : State} {z : ZoneId} (frame : zoneFrameKept s t) (pending : t.pending = s.pending)
    (zone : t.zones.get z = s.zones.get z) : t.about z = s.about z := by
  obtain ⟨links, monitors, sources, speakers, tuner, encoders, ms, due⟩ := frame
  simp only [State.about, links, monitors, sources, speakers, tuner, encoders, ms, due, pending, zone]

theorem updZone_about (s : State) {y z : ZoneId} (h : y ≠ z) (f : Zone → Zone) : (s.updZone y f).about z = s.about z :=
  about_of_zones (updZone_frame s y f) rfl (State.updZone_get_of_ne s f h)

theorem autoZone_about (s : State) {y z : ZoneId} (h : y ≠ z) (f : Zone → Zone) : (s.autoZone y f).about z = s.about z :=
  updZone_about s h _

/-- The record of one zone after a loop over the zones whose turns for the others do not touch it. -/
theorem forEach_zone_turn {α : Type} (g : State → α) (op : State → ZoneId → State) (z : ZoneId)
    (h : ∀ s y, y ≠ z → g (op s y) = g s) (s : State) :
    ∃ u, g u = g s ∧ g (s.forEach zoneIds op) = g (op u z) := by
  show ∃ u, g u = g s ∧ g (op (op (op s 0) 1) 2) = g (op u z)
  fin_cases z
  · exact ⟨s, rfl, (h _ 2 (by decide)).trans (h _ 1 (by decide))⟩
  · exact ⟨op s 0, h s 0 (by decide), h _ 2 (by decide)⟩
  · exact ⟨op (op s 0) 1, (h _ 1 (by decide)).trans (h s 0 (by decide)), rfl⟩

/-! ## The output stage and the zones -/

theorem updChannel_about (s : State) (c : Chan) (f : Channel → Channel) (z : ZoneId) : (s.updChannel c f).about z = s.about z := rfl

theorem updPair_about (s : State) (q : PairId) (f : Pair → Pair) (z : ZoneId) : (s.updPair q f).about z = s.about z := rfl

theorem raise_about (s : State) (f : Flag) (z : ZoneId) : (s.raise f).about z = s.about z := rfl

theorem presentChannel_zones (z : ZoneId) (s : State) (c : Chan) : (presentChannel z s c).zones = s.zones := by
  unfold presentChannel
  split
  · split <;> rfl
  · split <;> rfl

theorem beginPairPeriod_zones (z : ZoneId) (s : State) (q : PairId) : (beginPairPeriod z s q).zones = s.zones := by
  unfold beginPairPeriod
  split <;> rfl

theorem beginPeriod_zones (s : State) (z : ZoneId) : (beginPeriod s z).zones = s.zones :=
  (State.forEach_field State.zones _ (beginPairPeriod_zones z) _ _).trans
    (State.forEach_field State.zones _ (presentChannel_zones z) _ s)

theorem presentChannel_pending (z : ZoneId) (s : State) (c : Chan) : (presentChannel z s c).pending = s.pending := by
  unfold presentChannel
  split
  · split <;> rfl
  · split <;> rfl

theorem beginPairPeriod_pending (z : ZoneId) (s : State) (q : PairId) : (beginPairPeriod z s q).pending = s.pending := by
  unfold beginPairPeriod
  split <;> rfl

theorem beginPeriod_pending (s : State) (z : ZoneId) : (beginPeriod s z).pending = s.pending :=
  (State.forEach_field State.pending _ (beginPairPeriod_pending z) _ _).trans
    (State.forEach_field State.pending _ (presentChannel_pending z) _ s)

theorem beginFrame_zones (s : State) (z : ZoneId) (m : DriveMode) :
    (beginFrame s z m).zones = (s.updZone z fun r => { r with driveNow := m, period := 0 }).zones := beginPeriod_zones _ z

theorem beginFrame_about (s : State) {y z : ZoneId} (h : y ≠ z) (m : DriveMode) : (beginFrame s y m).about z = s.about z :=
  about_of_zones (beginFrame_frame s y m) (beginPeriod_pending _ y)
    ((congrArg (fun zs => zs.get z) (beginFrame_zones s y m)).trans (State.updZone_get_of_ne s _ h))

theorem handDrive_about (s : State) {y z : ZoneId} (h : y ≠ z) (m : DriveMode) : (handDrive s y m).about z = s.about z := by
  have handed : (s.updZone y fun r => { r with drive := m }).about z = s.about z := updZone_about s h _
  unfold handDrive
  dsimp only
  split
  · exact (beginFrame_about _ h m).trans handed
  · exact handed

theorem zeroDuties_zones (s : State) (z : ZoneId) : (zeroDuties s z).zones = s.zones :=
  State.forEach_field State.zones _ (by exact fun _ _ => rfl) _ s

theorem zeroDuties_pending (s : State) (z : ZoneId) : (zeroDuties s z).pending = s.pending :=
  State.forEach_field State.pending _ (by exact fun _ _ => rfl) _ s

theorem zeroDuties_about (s : State) (y z : ZoneId) : (zeroDuties s y).about z = s.about z :=
  about_of_zones (zeroDuties_frame s y) (zeroDuties_pending s y) (by rw [zeroDuties_zones])

theorem restartCarrier_about (s : State) {y z : ZoneId} (h : y ≠ z) : (restartCarrier s y).about z = s.about z := by
  unfold restartCarrier
  dsimp only
  split
  · rfl
  · exact beginFrame_about s h _

theorem bindCarrier_about (s : State) {y z : ZoneId} (h : y ≠ z) (old : Rate) : (bindCarrier s y old).about z = s.about z := by
  unfold bindCarrier
  split
  · split
    · rfl
    · exact zeroDuties_about s y z
  · exact (restartCarrier_about _ h).trans (zeroDuties_about s y z)

theorem primeDelays_zones (s : State) (z : ZoneId) : (primeDelays s z).zones = s.zones :=
  State.forEach_field State.zones _ (by exact fun _ _ => rfl) _ s

theorem primeDelays_about (s : State) (y z : ZoneId) : (primeDelays s y).about z = s.about z :=
  about_of_zones (primeDelays_frame s y) (State.forEach_field State.pending _ (by exact fun _ _ => rfl) _ s) (by rw [primeDelays_zones])

/-! ## A binding -/

/-- Steps 1 to 5 of R66: what a zone gives up of the old source, and what it takes of the new one. -/
def bindingTaken (s : State) (z : ZoneId) (rebind : Bool) : State :=
  let s := s.autoZone z fun r =>
    let r := { r with qr := none, rampCount := 0 }
    if rebind then r.letGo else r
  s.autoZone z (bindRecord s)

/-- Step 6 of R66: the arbiter takes the binding. -/
def bindingPlaced (s : State) (z : ZoneId) (rebind : Bool) : State :=
  rebindDecode (bindingTaken s z rebind) z (s.zones.get z).link ((bindingTaken s z rebind).zones.get z).link

/-- Steps 7 to 9 of R66: allocation, values, active set, empty buffer and path. -/
def bindingEntered (s : State) (z : ZoneId) : State :=
  let s := allocateZone s z
  s.autoZone z fun r => r.enterPath s.speakers z (bindVals s r)

theorem bindZone_eq (s : State) (z : ZoneId) (rebind : Bool) : bindZone s z rebind =
    (bindCountdown (bindCarrier (primeDelays (bindingEntered (bindingPlaced s z rebind) z) z) z (s.zones.get z).rate) z).raise
      (.zone z) := rfl

theorem bindingTaken_about (s : State) {y z : ZoneId} (h : y ≠ z) (rebind : Bool) :
    (bindingTaken s y rebind).about z = s.about z := (autoZone_about _ h _).trans (autoZone_about s h _)

theorem allocateZone_about (s : State) {y z : ZoneId} (h : y ≠ z) : (allocateZone s y).about z = s.about z := by
  have limited (b : Bool) (t : State) (e : t.about z = s.about z) : (if b then t.raise .limited else t).about z = s.about z := by
    cases b <;> exact e
  exact limited _ _ (updZone_about s h _)

theorem bindingEntered_about (s : State) {y z : ZoneId} (h : y ≠ z) : (bindingEntered s y).about z = s.about z :=
  (autoZone_about _ h _).trans (allocateZone_about s h)

/-- A binding of another zone is seen by a zone at its decode position alone (R66). -/
theorem bindZone_about (s : State) {y z : ZoneId} (h : y ≠ z) (rebind : Bool) : (bindZone s y rebind).about z = s.about z := by
  have placed : (bindingPlaced s y rebind).about z = s.about z :=
    (about_of_sansArbiter (rebindDecode_sansArbiter _ y _ _) z).trans (bindingTaken_about s h rebind)
  have primed : (primeDelays (bindingEntered (bindingPlaced s y rebind) y) y).about z = s.about z :=
    (primeDelays_about _ y z).trans ((bindingEntered_about _ h).trans placed)
  have counted (t : State) (e : t.about z = s.about z) : (bindCountdown t y).about z = s.about z :=
    ((updZone_about _ h _).trans (updZone_about t h _)).trans e
  rw [bindZone_eq, raise_about]
  exact counted _ ((bindCarrier_about _ h _).trans primed)

/-- A rebind cause of another zone likewise (R68). -/
theorem rebindCause_about (s : State) {y z : ZoneId} (h : y ≠ z) : (rebindCause s y).about z = s.about z := by
  unfold rebindCause
  dsimp only
  split
  · exact bindZone_about s h true
  · rfl
  · rfl
  · split
    · exact bindZone_about s h true
    · exact autoZone_about s h _
  · split
    · exact bindZone_about s h true
    · exact autoZone_about s h _
  · exact bindZone_about s h true
  · exact bindZone_about s h true
  · rfl

theorem powerUpZone_about (s : State) {y z : ZoneId} (h : y ≠ z) : (powerUpZone s y).about z = s.about z :=
  (autoZone_about _ h _).trans ((bindZone_about _ h false).trans (handDrive_about s h _))

end Sys2Proof.Machine
end

section
/-! What a change of a link's state or of its monitor does to the zones on the link, and ENABLE_LINK and DISABLE_LINK. -/

namespace Sys2Proof.Machine

/-! ## Zone writes that set no flag -/

theorem Zone.reportedChange_self (r : Zone) : r.reportedChange r = false := by simp [Zone.reportedChange]

/-- A zone write that changes nothing R86 lists sets no flag. -/
theorem State.updZone_unreported {s : State} {z : ZoneId} {f : Zone → Zone}
    (h : (s.zones.get z).reportedChange (f (s.zones.get z)) = false) :
    s.updZone z f = { s with zones := setAt s.zones z (f (s.zones.get z)) } := by
  simp [State.updZone, State.putZone, h]

/-- A loop over the zones that rewrites each record by itself, with what no zone holds at hand. -/
theorem forEach_setAt {op : State → ZoneId → State} {f : State → Zone → Zone}
    (h : ∀ s z, op s z = { s with zones := setAt s.zones z (f s (s.zones.get z)) })
    (hf : ∀ s zs, f { s with zones := zs } = f s) (s : State) :
    s.forEach zoneIds op = { s with zones := Vector.ofFn fun z => f s (s.zones.get z) } := by
  have loop : s.forEach zoneIds op = op (op (op s 0) 1) 2 := rfl
  rw [loop, h s 0, h _ 1, h _ 2]
  have zones : setAt (setAt (setAt s.zones 0 (f s (s.zones.get 0))) 1 (f s (s.zones.get 1))) 2 (f s (s.zones.get 2)) =
      Vector.ofFn fun z => f s (s.zones.get z) := by
    apply table_ext
    intro z
    fin_cases z <;> simp [setAt_get]
  simp only [hf, setAt_get, Fin.isValue, Fin.reduceEq, if_false, ← zones]

/-! ## A monitor -/

/-- The record of a zone when the monitor of link `l` has come to activity state `a` (R82). -/
def Zone.onActivity (l : LinkId) (a : Activity) (now : Millis) (r : Zone) : Zone :=
  if r.link = some l then
    { r with countdown := if a = .active then none else
               if r.power = .on ∧ 0 < r.autoStandby then some (newTimer now (r.autoStandby * 60000)) else r.countdown }
  else r

theorem Zone.onActivity_unreported (l : LinkId) (a : Activity) (now : Millis) (r : Zone) :
    r.reportedChange (r.onActivity l a now) = false := by
  unfold Zone.onActivity
  split
  · exact r.reportedChange_self
  · exact r.reportedChange_self

theorem zoneOnActivity_eq (l : LinkId) (s : State) (z : ZoneId) : zoneOnActivity l s z =
    { s with zones := setAt s.zones z ((s.zones.get z).onActivity l (s.monitors.get l).state s.ms) } := by
  rw [← State.updZone_unreported (Zone.onActivity_unreported l _ _ _)]
  by_cases hl : (s.zones.get z).link = some l
  · by_cases ha : (s.monitors.get l).state = .active
    · simp [zoneOnActivity, hl, ha, State.updZone, Zone.onActivity]
    · have quiet : zoneQuiet s z = true := by simp [zoneQuiet, hl, ha]
      simp only [zoneOnActivity, hl, ha, startCountdown, State.updZone, Zone.onActivity, quiet, if_true, if_false, true_and]
      congr 1
      split <;> rfl
  · have same : setAt s.zones z (s.zones.get z) = s.zones := setAt_self _ _
    rw [State.updZone_unreported (Zone.onActivity_unreported l _ _ _)]
    simp only [zoneOnActivity, Zone.onActivity, hl, if_false, same]

/-- A monitor written, its change announced to the zones on the link, and nothing offered (R34, R82). -/
def State.sense (s : State) (l : LinkId) (m : Monitor) : State :=
  { s with
    monitors := setAt s.monitors l m
    ports := s.ports.raiseIf ((s.monitors.get l).state != m.state) (.link l)
    zones := if decide ((s.monitors.get l).state = .active) != decide (m.state = .active) then
        Vector.ofFn fun z => (s.zones.get z).onActivity l m.state s.ms
      else s.zones }

theorem setMonitor_eq (s : State) (l : LinkId) (m : Monitor) : setMonitor s l m =
    if (s.monitors.get l).state ≠ .active ∧ m.state = .active then offerAutoOn (s.sense l m) l else s.sense l m := by
  have told : (if decide ((s.monitors.get l).state = .active) != decide (m.state = .active) then
      (s.putMonitor l m).forEach zoneIds (zoneOnActivity l) else s.putMonitor l m) = s.sense l m := by
    rw [forEach_setAt (zoneOnActivity_eq l) (fun _ _ => rfl)]
    unfold State.sense
    split
    · simp only [State.putMonitor_monitors, setAt_get_self]
      rfl
    · rfl
  rw [setMonitor, told]

/-- A monitor that does not come to ACTIVE offers nothing (R35). -/
theorem setMonitor_unoffered (s : State) (l : LinkId) {m : Monitor} (h : (s.monitors.get l).state = .active ∨ m.state ≠ .active) :
    setMonitor s l m = s.sense l m := by
  rw [setMonitor_eq, if_neg (by tauto)]

/-- The monitor of a link that has come to another state (R30). -/
def Monitor.onLink (x : Link) (now : Millis) (m : Monitor) : Monitor :=
  if x.state = .locked then m.toSilent
  else { m.toSilent with state := .noLink, quietSince := if m.state = .active then some now else m.quietSince }

theorem Monitor.onLink_not_active (x : Link) (now : Millis) (m : Monitor) : (m.onLink x now).state ≠ .active := by
  unfold Monitor.onLink
  split <;> simp [Monitor.toSilent]

theorem monitorOnLink_eq (s : State) (l : LinkId) :
    monitorOnLink s l = s.sense l ((s.monitors.get l).onLink (s.links.get l) s.ms) := by
  rw [← setMonitor_unoffered s l (.inr (Monitor.onLink_not_active _ _ _))]
  unfold monitorOnLink Monitor.onLink
  dsimp only
  split <;> rfl

/-- A zone's record when a monitor has been written. -/
theorem sense_zone (s : State) (l : LinkId) (m : Monitor) (z : ZoneId) : (s.sense l m).zones.get z =
    if decide ((s.monitors.get l).state = .active) != decide (m.state = .active) then (s.zones.get z).onActivity l m.state s.ms
    else s.zones.get z := by
  unfold State.sense
  dsimp only
  split
  · rw [ofFn_get]
  · rfl

/-! ## A zone takes a change of its link -/

/-- The record of a zone on a link that has come to another state or format, before a rebind cause (R71, R78, R79). -/
def Zone.onLink (x : Link) (r : Zone) : Zone := followClock x { r with mutes := linkMutes x r }

/-- A zone's record with the clock and the mute reasons that its link sets given as values. -/
theorem Zone.onLink_eq (x : Link) (r : Zone) : r.onLink x =
    { r with mutes := linkMutes x r
             clockState := if r.clockInEffect = .follow then
                 (if x.state = .locked ∧ x.rate = some r.rate then .lockedToSource else .holdover)
               else r.clockState } := by
  unfold Zone.onLink followClock
  dsimp only
  split <;> rfl

theorem Zone.onLink_sansArbiter {r y : Zone} (x : Link) (h : y.sansArbiter = r.sansArbiter) :
    (y.onLink x).sansArbiter = (r.onLink x).sansArbiter := by
  have apart (r : Zone) : (r.onLink x).sansArbiter = (r.sansArbiter.onLink x).sansArbiter := by
    rw [Zone.onLink_eq, Zone.onLink_eq]
    rfl
  rw [apart y, apart r, h]

/-- The record a zone operation leaves, apart from the recorded origin. -/
theorem autoZone_zone_sansArbiter (s : State) (z : ZoneId) (f : Zone → Zone) :
    ((s.autoZone z f).zones.get z).sansArbiter = (f (s.zones.get z)).sansArbiter := by
  rw [State.autoZone_get_self]
  split <;> rfl

/-- Whether a zone's rate is to change does not depend on what the announcement writes (R78). -/
theorem rateChanged_onLink (s : State) (z : ZoneId) (x : Link) :
    rateChanged x ((s.autoZone z (Zone.onLink x)).zones.get z) = rateChanged x (s.zones.get z) := by
  have same := autoZone_zone_sansArbiter s z (Zone.onLink x)
  rw [Zone.onLink_eq] at same
  have clock : ((s.autoZone z (Zone.onLink x)).zones.get z).clockInEffect = (s.zones.get z).clockInEffect :=
    (congrArg Zone.clockInEffect same :)
  have rate : ((s.autoZone z (Zone.onLink x)).zones.get z).rate = (s.zones.get z).rate := (congrArg Zone.rate same :)
  rw [rateChanged, rateChanged, clock, rate]

theorem zoneOnLink_of_ne {l : LinkId} {s : State} {z : ZoneId} (h : (s.zones.get z).link ≠ some l) : zoneOnLink l s z = s :=
  if_neg h

theorem zoneOnLink_on {l : LinkId} {s : State} {z : ZoneId} (h : (s.zones.get z).link = some l) : zoneOnLink l s z =
    if rateChanged (s.links.get l) (s.zones.get z) then rebindCause (s.autoZone z (Zone.onLink (s.links.get l))) z
    else s.autoZone z (Zone.onLink (s.links.get l)) := by
  rw [← rateChanged_onLink s z (s.links.get l)]
  exact if_pos h

theorem zoneOnLink_about (l : LinkId) (s : State) {y z : ZoneId} (h : y ≠ z) : (zoneOnLink l s y).about z = s.about z := by
  by_cases hl : (s.zones.get y).link = some l
  · rw [zoneOnLink_on hl]
    split
    · exact (rebindCause_about _ h).trans (autoZone_about s h _)
    · exact autoZone_about s h _
  · rw [zoneOnLink_of_ne hl]

/-- A change of a format as a zone meets it: the announcement reaches it in a state it sees like the one before (R18, R54, R71). -/
theorem announceFormat_turn (s : State) (l : LinkId) (z : ZoneId) :
    ∃ u, u.about z = s.about z ∧ (announceFormat s l).about z = (zoneOnLink l u z).about z := by
  obtain ⟨u, before, after⟩ := forEach_zone_turn (State.about z) (zoneOnLink l) z (fun s y h => zoneOnLink_about l s h)
    (arbiterLink s l)
  exact ⟨u, before.trans (about_of_sansArbiter (arbiterLink_sansArbiter s l) z), after⟩

/-- A change of a link's state as a zone meets it, the monitor having followed the link (R18, R30, R54, R71). -/
theorem announceState_turn (s : State) (l : LinkId) (z : ZoneId) :
    ∃ u, u.about z = (monitorOnLink s l).about z ∧ (announceState s l).about z = (zoneOnLink l u z).about z :=
  announceFormat_turn (monitorOnLink s l) l z

/-! ## A link that is not LOCKED -/

theorem rateChanged_offLock {x : Link} (h : x.state ≠ .locked) (r : Zone) : rateChanged x r = false :=
  decide_eq_false fun c => h c.2.1

theorem zoneOnLink_offLock {l : LinkId} {s : State} (h : (s.links.get l).state ≠ .locked) (z : ZoneId) :
    zoneOnLink l s z = if (s.zones.get z).link = some l then s.autoZone z (Zone.onLink (s.links.get l)) else s := by
  by_cases hl : (s.zones.get z).link = some l
  · rw [zoneOnLink_on hl, rateChanged_offLock h, if_pos hl]
    rfl
  · rw [zoneOnLink_of_ne hl, if_neg hl]

/-- The record of a zone on a link that comes to a state other than LOCKED. -/
theorem announceState_zone_offLock {s : State} {l : LinkId} {z : ZoneId} (h : (s.links.get l).state ≠ .locked)
    (hl : ((monitorOnLink s l).zones.get z).link = some l) : ((announceState s l).zones.get z).sansArbiter =
      (((monitorOnLink s l).zones.get z).onLink (s.links.get l)).sansArbiter := by
  obtain ⟨u, before, after⟩ := announceState_turn s l z
  have links : u.links = s.links := by
    have same : u.links = (monitorOnLink s l).links := (congrArg State.links before :)
    rw [same, monitorOnLink_eq]
    rfl
  have link : (u.zones.get z).link = some l := (sansArbiter_link (about_zone before)).trans hl
  rw [about_zone after, zoneOnLink_offLock (by rwa [links]), if_pos link, autoZone_zone_sansArbiter, links]
  exact Zone.onLink_sansArbiter _ (about_zone before)

/-- Channels and pairs as a link leaves them that comes to a state other than LOCKED: no zone rebinds for it. -/
theorem announceState_output_offLock {s : State} {l : LinkId} (h : (s.links.get l).state ≠ .locked) :
    (announceState s l).channels = s.channels ∧ (announceState s l).pairs = s.pairs := by
  have arbiter := arbiterLink_sansArbiter (monitorOnLink s l) l
  rw [monitorOnLink_eq] at arbiter
  have start : (arbiterLink (monitorOnLink s l) l).links = s.links ∧ (arbiterLink (monitorOnLink s l) l).channels = s.channels ∧
      (arbiterLink (monitorOnLink s l) l).pairs = s.pairs := by
    rw [monitorOnLink_eq]
    exact ⟨(congrArg State.links arbiter :), (congrArg State.channels arbiter :), (congrArg State.pairs arbiter :)⟩
  have loop := State.forEach_keeps (fun t => t.links = s.links ∧ t.channels = s.channels ∧ t.pairs = s.pairs) (zoneOnLink l)
    (fun t z kept => by
      obtain ⟨links, channels, pairs⟩ := kept
      rw [zoneOnLink_offLock (by rwa [links])]
      split
      · exact ⟨links, channels, pairs⟩
      · exact ⟨links, channels, pairs⟩) zoneIds _ start
  exact loop.2

theorem zoneOnLink_frame (l : LinkId) (s : State) (z : ZoneId) : zoneFrameKept s (zoneOnLink l s z) := by
  by_cases hl : (s.zones.get z).link = some l
  · rw [zoneOnLink_on hl]
    split
    · exact (autoZone_frame s z _).trans (rebindCause_frame _ z)
    · exact autoZone_frame s z _
  · rw [zoneOnLink_of_ne hl]
    exact .refl s

theorem announceFormat_frame (s : State) (l : LinkId) : zoneFrameKept s (announceFormat s l) :=
  (about_frame (about_of_sansArbiter (arbiterLink_sansArbiter s l) 0)).trans (.forEach _ (zoneOnLink_frame l) zoneIds _)

/-- An announcement of a link's state leaves everything around the zones but the link's monitor (R18, R30). -/
theorem announceState_frame (s : State) (l : LinkId) : zoneFrameKept (monitorOnLink s l) (announceState s l) :=
  announceFormat_frame (monitorOnLink s l) l

theorem announceState_links (s : State) (l : LinkId) : (announceState s l).links = s.links := by
  obtain ⟨links, -⟩ := announceState_frame s l
  rw [links, monitorOnLink_eq]
  rfl

theorem announceState_monitors (s : State) (l : LinkId) :
    (announceState s l).monitors = setAt s.monitors l ((s.monitors.get l).onLink (s.links.get l) s.ms) := by
  obtain ⟨-, monitors, -⟩ := announceState_frame s l
  rw [monitors, monitorOnLink_eq]
  rfl

/-- What a link that comes to a state other than LOCKED leaves alone. -/
theorem announceState_linkFrameKept {s : State} {l : LinkId} (h : (s.links.get l).state ≠ .locked) :
    linkFrameKept s (announceState s l) l := by
  obtain ⟨-, -, sources, speakers, tuner, encoders, ms, due⟩ := announceState_frame s l
  obtain ⟨channels, pairs⟩ := announceState_output_offLock h
  rw [monitorOnLink_eq] at sources speakers tuner encoders ms due
  refine ⟨fun k hk => ?_, sources, speakers, channels, pairs, tuner, encoders, ms, due⟩
  rw [announceState_links, announceState_monitors]
  exact ⟨rfl, setAt_get_of_ne _ _ (Ne.symm hk)⟩

theorem announceState_monitor_offLock {s : State} {l : LinkId} (h : (s.links.get l).state ≠ .locked) :
    ((announceState s l).monitors.get l).state = .noLink := by
  rw [announceState_monitors, setAt_get_self]
  simp [Monitor.onLink, h]

/-! ## Zones on a link that is not LOCKED -/

/-- A zone's record apart from what a frame or the arbiter writes of it. -/
def Zone.sansFrames (r : Zone) : Zone :=
  { r.sansArbiter with buffer := [], skips := 0, path := .idle, refilling := false }

theorem sansFrames_of_sansArbiter {r x : Zone} (h : x.sansArbiter = r.sansArbiter) : x.sansFrames = r.sansFrames :=
  (congrArg Zone.sansFrames h :)

/-- What a link that comes to another state announces to the zones on it: in `t` a zone that was bound on the link stands as in
`s` but for frames it took and for its countdown, which stands too unless a block waits for the judgement of a SILENT monitor. -/
def zonesAttend (s t : State) (l : LinkId) : Prop :=
  t.ms = s.ms ∧
  ((s.monitors.get l).state = .active → (t.monitors.get l).state = .active) ∧
  ((s.monitors.get l).state = .noLink ∨ ((s.monitors.get l).state = .silent ∧ (s.links.get l).delivery = none) →
    (t.monitors.get l).state ≠ .active) ∧
  ∀ z, (s.zones.get z).link = some l → (s.zones.get z).power.isBound = true →
    ∃ c, (t.zones.get z).sansFrames = { s.zones.get z with countdown := c }.sansFrames ∧
      ((s.monitors.get l).state ≠ .silent ∨ (s.links.get l).delivery = none → c = (s.zones.get z).countdown)

/-- A write of the link's own record leaves the zones as they are. -/
theorem zonesAttend_of_link {s t : State} {l : LinkId} (ms : t.ms = s.ms) (monitors : t.monitors = s.monitors)
    (zones : t.zones = s.zones) : zonesAttend s t l :=
  ⟨ms, fun h => by rwa [monitors], fun h => by
    rw [monitors]
    rcases h with h | h <;> simp [h], fun z _ _ => ⟨(s.zones.get z).countdown, by rw [zones], fun _ => rfl⟩⟩

theorem linkMutes_format (x : Link) (r : Zone) : (linkMutes x r).format = x.unplayable := by
  unfold linkMutes Link.unplayable
  cases x.lastGood with
  | none => rfl
  | some d => cases h : d.format <;> simp [Format.unsupported, Format.isUnplayable, h]

/-- A local clock mode and its rate, as the statements name them (R79). -/
theorem localRate_of {m : ClockMode} {k : Rate} (h : (m = .local48 ∧ k = .r48) ∨ (m = .local44 ∧ k = .r44)) :
    m.localRate = some k ∧ m ≠ .follow := by
  rcases h with ⟨rfl, rfl⟩ | ⟨rfl, rfl⟩ <;> exact ⟨rfl, by decide⟩

/-- A zone's record after its link has come to a state other than LOCKED (R71, R78, R79). -/
theorem onLink_offLock {x : Link} {r y : Zone} (h : x.state ≠ .locked) (e : y.sansArbiter = (r.onLink x).sansArbiter) :
    r.bindingKept y ∧ y.mutes.noSignal = true ∧ y.mutes.format = x.unplayable ∧ y.countdown = r.countdown ∧
      (r.clockInEffect = .follow → y.clockState = .holdover ∧ y.mutes.rateMismatch = false) ∧
      ∀ k, ((r.clockInEffect = .local48 ∧ k = .r48) ∨ (r.clockInEffect = .local44 ∧ k = .r44)) →
        y.clockState = r.clockState ∧ y.mutes.rateMismatch = decide (x.state.carries = true ∧ x.rate ≠ some k) := by
  rw [Zone.onLink_eq] at e
  have clock : y.clockState = if r.clockInEffect = .follow then
      (if x.state = .locked ∧ x.rate = some r.rate then .lockedToSource else .holdover) else r.clockState :=
    (congrArg Zone.clockState e :)
  have mismatch : y.mutes.rateMismatch = rateMismatch x r := (congrArg (fun r : Zone => r.mutes.rateMismatch) e :)
  have signal : y.mutes.noSignal = decide (x.state ≠ .locked) := (congrArg (fun r : Zone => r.mutes.noSignal) e :)
  have format : y.mutes.format = (linkMutes x r).format := (congrArg (fun r : Zone => r.mutes.format) e :)
  refine ⟨⟨(congrArg Zone.bound e :), (congrArg Zone.copy e :), (congrArg Zone.clockInEffect e :), (congrArg Zone.rate e :)⟩,
    signal.trans (decide_eq_true h), format.trans (linkMutes_format _ _), (congrArg Zone.countdown e :), fun hf => ?_,
    fun k hk => ?_⟩
  · rw [clock, mismatch, if_pos hf, if_neg fun e => h e.1]
    exact ⟨rfl, by simp [rateMismatch, hf, ClockMode.localRate]⟩
  · obtain ⟨localRate, notFollow⟩ := localRate_of hk
    rw [clock, mismatch, if_neg notFollow]
    exact ⟨rfl, by simp [rateMismatch, localRate]⟩

/-- A zone's record when the monitor of its link, which is not LOCKED, has gone to NO_LINK (R30, R82). -/
theorem monitorOnLink_zone {t : State} {l : LinkId} {z : ZoneId} (h : (t.links.get l).state ≠ .locked)
    (link : (t.zones.get z).link = some l) : (monitorOnLink t l).zones.get z = { t.zones.get z with
      countdown := if (t.monitors.get l).state = .active ∧ (t.zones.get z).power = .on ∧ 0 < (t.zones.get z).autoStandby then
          some (newTimer t.ms ((t.zones.get z).autoStandby * 60000))
        else (t.zones.get z).countdown } := by
  have noLink : ((t.monitors.get l).onLink (t.links.get l) t.ms).state = .noLink := by simp [Monitor.onLink, h]
  rw [monitorOnLink_eq, sense_zone, noLink]
  by_cases ha : (t.monitors.get l).state = .active
  · simp [ha, Zone.onActivity, link]
  · simp [ha]

/-- What a zone that attended keeps of what the statements name. -/
theorem sansFrames_bindingKept {r x : Zone} (h : x.sansFrames = r.sansFrames) : r.bindingKept x :=
  ⟨(congrArg Zone.bound h :), (congrArg Zone.copy h :), (congrArg Zone.clockInEffect h :), (congrArg Zone.rate h :)⟩

/-- The zones on a link that leaves LOCKED, or moves between other states, keep what they are bound to (R71, R78, R79, R82). -/
theorem announceState_zonesOffLock {s t : State} {l : LinkId} (h : (t.links.get l).state ≠ .locked) (attend : zonesAttend s t l) :
    zonesOffLock s (announceState t l) l := by
  obtain ⟨ms, active, quiet, zones⟩ := attend
  intro z link bound
  obtain ⟨c, record, count⟩ := zones z link bound
  have kept : (s.zones.get z).bindingKept (t.zones.get z) := (sansFrames_bindingKept record :)
  have power : (t.zones.get z).power = (s.zones.get z).power := (congrArg Zone.power record :)
  have standby : (t.zones.get z).autoStandby = (s.zones.get z).autoStandby := (congrArg Zone.autoStandby record :)
  have counts : (t.zones.get z).countdown = c := (congrArg Zone.countdown record :)
  have state : (t.zones.get z).clockState = (s.zones.get z).clockState := (congrArg Zone.clockState record :)
  have linkThen : (t.zones.get z).link = some l := (congrArg Zone.link record :).trans link
  have hears := monitorOnLink_zone h linkThen
  have final := announceState_zone_offLock h (z := z) (by rw [hears]; exact linkThen)
  rw [hears] at final
  obtain ⟨binding, signal, format, countdown, follow, locals⟩ := onLink_offLock h final
  dsimp only at countdown follow locals
  rw [kept.2.2.1] at follow
  rw [kept.2.2.1, state] at locals
  rw [power, standby, counts, ms] at countdown
  rw [announceState_links]
  refine ⟨kept.trans binding, signal, format, fun hs => ?_, fun hs => ?_, follow, locals⟩
  · rw [countdown, active hs, count (.inl (by rw [hs]; decide))]
    simp [Zone.fullCountdown, newTimer]
  · rw [countdown, if_neg fun e => quiet hs e.1]
    refine count (hs.imp (fun hs => by rw [hs]; decide) And.right)

end Sys2Proof.Machine
end

section
/-! ENABLE_LINK and DISABLE_LINK, and the events that take a link out of what it received. -/

namespace Sys2Proof.Machine

/-! ## Flags of a step -/

/-- A step that changes a link's state or its monitor's sets LINK in both copies (R23, R34). -/
theorem link_flag_of_step {c : Instr} {s t : State} {l : LinkId} (h : exec c s = .next t)
    (noReset : ∀ p tag, c ≠ .deviceReset p tag []) (noPower : ∀ pins, c ≠ .powerOnReset pins)
    (changed : (s.links.get l).state ≠ (t.links.get l).state ∨ (s.monitors.get l).state ≠ (t.monitors.get l).state)
    (p : Port) : (t.ports.get p).flags.get (Flag.link l).index = true := by
  by_contra missing
  obtain ⟨links, -⟩ := changesSetFlags c s t h noReset noPower p
  obtain ⟨unlisted, monitor⟩ := links l (Bool.eq_false_iff.mpr missing)
  obtain ⟨-, -, state, -⟩ := unlisted
  rcases changed with changed | changed
  · exact changed state
  · exact changed monitor

/-- A step that changes a zone's power state sets its ZONE flag in both copies (R86). -/
theorem zone_flag_of_step {c : Instr} {s t : State} {z : ZoneId} (h : exec c s = .next t)
    (noReset : ∀ p tag, c ≠ .deviceReset p tag []) (noPower : ∀ pins, c ≠ .powerOnReset pins)
    (changed : (s.zones.get z).power ≠ (t.zones.get z).power) (p : Port) :
    (t.ports.get p).flags.get (Flag.zone z).index = true := by
  by_contra missing
  obtain ⟨-, zones, -⟩ := changesSetFlags c s t h noReset noPower p
  obtain ⟨⟨⟨power, -⟩, -⟩, -⟩ := zones z (Bool.eq_false_iff.mpr missing)
  exact changed power

/-! ## What a write of a link leaves alone -/

theorem linkFrameKept.refl (s : State) (l : LinkId) : linkFrameKept s s l :=
  ⟨fun _ _ => ⟨rfl, rfl⟩, rfl, rfl, rfl, rfl, rfl, rfl, rfl, rfl⟩

theorem linkFrameKept.trans {s t u : State} {l : LinkId} (h : linkFrameKept s t l) (k : linkFrameKept t u l) :
    linkFrameKept s u l := by
  obtain ⟨others, a, b, c, d, e, f, g, i⟩ := h
  obtain ⟨others', a', b', c', d', e', f', g', i'⟩ := k
  exact ⟨fun n hn => ⟨(others' n hn).1.trans (others n hn).1, (others' n hn).2.trans (others n hn).2⟩, a'.trans a, b'.trans b,
    c'.trans c, d'.trans d, e'.trans e, f'.trans f, g'.trans g, i'.trans i⟩

theorem updLink_linkFrameKept (s : State) (l : LinkId) (f : Link → Link) : linkFrameKept s (s.updLink l f) l :=
  ⟨fun _ hk => ⟨setAt_get_of_ne _ _ (Ne.symm hk), rfl⟩, rfl, rfl, rfl, rfl, rfl, rfl, rfl, rfl⟩

@[simp] theorem State.updLink_get_self (s : State) (l : LinkId) (f : Link → Link) :
    (s.updLink l f).links.get l = f (s.links.get l) := setAt_get_self _ _ _

/-! ## A link that takes another state than LOCKED -/

/-- A link is written and comes to a state other than LOCKED, and that is announced. -/
def State.announced (s : State) (l : LinkId) (f : Link → Link) : State := announceState (s.updLink l f) l

theorem announced_link (s : State) (l : LinkId) (f : Link → Link) :
    (s.announced l f).links.get l = f (s.links.get l) := by
  rw [State.announced, announceState_links, State.updLink_get_self]

theorem announced_monitor {s : State} {l : LinkId} {f : Link → Link} (h : (f (s.links.get l)).state ≠ .locked) :
    ((s.announced l f).monitors.get l).state = .noLink := announceState_monitor_offLock (by rwa [State.updLink_get_self])

theorem announced_linkFrameKept {s : State} {l : LinkId} {f : Link → Link} (h : (f (s.links.get l)).state ≠ .locked) :
    linkFrameKept s (s.announced l f) l :=
  (updLink_linkFrameKept s l f).trans (announceState_linkFrameKept (by rwa [State.updLink_get_self]))

theorem announced_zonesOffLock {s t : State} {l : LinkId} {f : Link → Link} (h : (f (t.links.get l)).state ≠ .locked)
    (attend : zonesAttend s t l) : zonesOffLock s (t.announced l f) l :=
  announceState_zonesOffLock (by rwa [State.updLink_get_self]) attend

/-- Before anything else has happened the zones on a link stand as they do. -/
theorem zonesAttend.refl (s : State) (l : LinkId) : zonesAttend s s l := zonesAttend_of_link rfl rfl rfl

theorem taking_linkFrameKept (s : State) (p : Port) (n : Nat) (l : LinkId) : linkFrameKept s (s.taking p n) l := .refl s l

/-- A request that takes a link to a state other than LOCKED, and answers OK. -/
theorem serve_announced {s : State} {p : Port} {tag : Byte} {payload : List Byte} {owner : State → Reply} {l : LinkId}
    {f : Link → Link} (h : Ready s p) (hl : payload.length ≤ 250)
    (ho : owner (s.taking p payload.length) = { state := (s.taking p payload.length).announced l f, result := .ok, data := [] })
    (off : (f (s.links.get l)).state ≠ .locked) :
    ∃ t, serve s p tag payload owner = t ∧ t.slot p = some { tag := tag, result := .ok, data := [] } ∧
      t.links.get l = f (s.links.get l) ∧ (t.monitors.get l).state = .noLink ∧ zonesOffLock s t l ∧ linkFrameKept s t l := by
  have link : ((s.taking p payload.length).announced l f).links.get l = f (s.links.get l) := announced_link _ l f
  have monitor := announced_monitor (s := s.taking p payload.length) off
  have zones : zonesOffLock s ((s.taking p payload.length).announced l f) l :=
    announced_zonesOffLock off (zonesAttend_of_link rfl rfl rfl)
  have kept : linkFrameKept s ((s.taking p payload.length).announced l f) l :=
    (taking_linkFrameKept s p _ l).trans (announced_linkFrameKept off)
  have served := serve_eq (tag := tag) h hl ho
  generalize (s.taking p payload.length).announced l f = t at served link monitor zones kept
  refine ⟨_, served, ?_, link, monitor, zones, kept⟩
  rw [State.updPort, State.slot, State.putPort_ports, Ports.put_get_self]

/-! ## ENABLE_LINK and DISABLE_LINK -/

/-- A link that DISABLE_LINK takes to DISABLED (R11). -/
def Link.disable (r : Link) : Link := { r.giveUp .disabled with enabled := false, lossTimer := none }

/-- A link that ENABLE_LINK takes to DETECT.QUIET (R11). -/
def Link.enable (r : Link) : Link := { r with enabled := true, state := .detectQuiet }

theorem disableLink_taken {s : State} {l : LinkId} (h : (s.links.get l).state ≠ .disabled) :
    disableLink s l = s.announced l Link.disable := if_neg h

theorem disableLink_disabled {s : State} {l : LinkId} (h : (s.links.get l).state = .disabled) :
    disableLink s l = s.updLink l fun r => { r with enabled := false } := if_pos h

theorem enableLink_taken {s : State} {l : LinkId} (h : (s.links.get l).state = .disabled) :
    enableLink s l = s.announced l Link.enable := if_pos h

theorem enableLink_enabled {s : State} {l : LinkId} (h : (s.links.get l).state ≠ .disabled) :
    enableLink s l = s.updLink l fun r => { r with enabled := true } := if_neg h

theorem reportedChange_enabled (r : Link) (b : Bool) : r.reportedChange { r with enabled := b } = (r.enabled != b) := by
  simp [Link.reportedChange]

theorem giveUp_cleared (r : Link) (st : LinkState) : (r.giveUp st).cleared := ⟨rfl, rfl, rfl, rfl, rfl, rfl⟩

/-- Settles O14: both requests announce a link that is not LOCKED, or write the enable setting alone. -/
theorem enableDisableLink : Obligations.EnableDisableLink := by
  refine ⟨⟨fun s p tag lb l h hl hs => ?_, fun s p tag lb l h hl hs => congrArg Host.Outcome.next ?_⟩,
    fun s p tag lb l h hl hs => ?_, fun s p tag lb l h hl hs => congrArg Host.Outcome.next ?_⟩
  · obtain ⟨t, served, slot, link, monitor, zones, kept⟩ := serve_announced (tag := tag)
      (owner := fun s => oneIndex 9 [lb] s fun s l => (disableLink s l).ok []) h one_le
      ((oneIndex_in_range _ _ hl).trans (congrArg (fun s => State.ok s []) (disableLink_taken (s := s.taking p 1) hs))) nofun
    have done : exec (.disableLink p tag [lb]) s = .next t := congrArg Host.Outcome.next served
    refine ⟨t, done, slot, ?_, ?_, ?_, ?_, fun n => ?_, monitor, ?_, ?_, ?_, zones, kept⟩
    · rw [link]; rfl
    · rw [link]; rfl
    · rw [link]; exact giveUp_cleared (s.links.get l) .disabled
    · rw [link]; rfl
    · rw [link]; exact replicate_get _ _
    · rw [link]; rfl
    · rw [link]; rfl
    · exact link_flag_of_step done nofun nofun (.inl (by rw [link]; exact hs))
  · rw [serve_updLink h one_le
      ((oneIndex_in_range _ _ hl).trans (congrArg (fun s => State.ok s []) (disableLink_disabled (s := s.taking p 1) hs))),
      reportedChange_enabled, Bool.bne_false]
    rfl
  · obtain ⟨t, served, slot, link, monitor, zones, kept⟩ := serve_announced (tag := tag)
      (owner := fun s => oneIndex 9 [lb] s fun s l => (enableLink s l).ok []) h one_le
      ((oneIndex_in_range _ _ hl).trans (congrArg (fun s => State.ok s []) (enableLink_taken (s := s.taking p 1) hs))) nofun
    have done : exec (.enableLink p tag [lb]) s = .next t := congrArg Host.Outcome.next served
    refine ⟨t, done, slot, link, monitor, ?_, zones, kept⟩
    exact link_flag_of_step done nofun nofun (.inl (by rw [link, hs]; exact (by decide : LinkState.disabled ≠ .detectQuiet)))
  · rw [serve_updLink h one_le
      ((oneIndex_in_range _ _ hl).trans (congrArg (fun s => State.ok s []) (enableLink_enabled (s := s.taking p 1) hs))),
      reportedChange_enabled, Bool.bne_true]
    rfl

end Sys2Proof.Machine
end

section
/-! A link from rest to ALIGN: the frames that do not lock it, its timers, and the measurement of its rate. -/

namespace Sys2Proof.Machine

/-! ## The loss window, and a link write after it -/

/-- A link whose loss window has restarted (R17). -/
def Link.restarted (now : Millis) (r : Link) : Link := { r with lossTimer := some (newTimer now r.lossWindow) }

theorem Link.reportedChange_self (r : Link) : r.reportedChange r = false := by simp [Link.reportedChange]

theorem restartLoss_eq (s : State) (l : LinkId) :
    restartLoss s l = { s with links := setAt s.links l ((s.links.get l).restarted s.ms) } :=
  State.updLink_unreported (f := Link.restarted s.ms) (Link.reportedChange_self _)

@[simp] theorem restartLoss_get (s : State) (l : LinkId) :
    (restartLoss s l).links.get l = (s.links.get l).restarted s.ms := by
  rw [restartLoss_eq]
  exact setAt_get_self _ _ _

theorem restartLoss_linkFrameKept (s : State) (l : LinkId) : linkFrameKept s (restartLoss s l) l :=
  updLink_linkFrameKept s l _

/-- A frame that does nothing but write its link's record, the loss window restarted. -/
def State.frameTo (s : State) (l : LinkId) (f : Link → Link) : State := (restartLoss s l).updLink l f

theorem frameTo_eq (s : State) (l : LinkId) (f : Link → Link) : s.frameTo l f =
    { s with links := setAt s.links l (f ((s.links.get l).restarted s.ms))
             ports := s.ports.raiseIf (((s.links.get l).restarted s.ms).reportedChange (f ((s.links.get l).restarted s.ms)))
               (.link l) } := by
  rw [State.frameTo, restartLoss_eq]
  unfold State.updLink State.putLink
  simp only [setAt_get_self, setAt_setAt]

theorem frameTo_unreported {s : State} {l : LinkId} {f : Link → Link}
    (h : ((s.links.get l).restarted s.ms).reportedChange (f ((s.links.get l).restarted s.ms)) = false) :
    s.frameTo l f = { s with links := setAt s.links l (f ((s.links.get l).restarted s.ms)) } := by
  rw [frameTo_eq, h, Ports.raiseIf_false]

theorem frameTo_link (s : State) (l : LinkId) (f : Link → Link) :
    (s.frameTo l f).links.get l = f ((s.links.get l).restarted s.ms) := by
  rw [State.frameTo, State.updLink_get_self, restartLoss_get]

theorem frameTo_linkFrameKept (s : State) (l : LinkId) (f : Link → Link) : linkFrameKept s (s.frameTo l f) l :=
  (restartLoss_linkFrameKept s l).trans (updLink_linkFrameKept _ l f)

/-! ## A frame by the state of its link -/

theorem linkFrame_disabled {s : State} {l : LinkId} (f : LinkFrame) (h : (s.links.get l).state = .disabled) :
    linkFrame s l f = s := by simp [linkFrame, h]

theorem linkFrame_detect {s : State} {l : LinkId} (f : LinkFrame)
    (h : (s.links.get l).state = .detectQuiet ∨ (s.links.get l).state = .detectActive) :
    linkFrame s l f = detectFrame (restartLoss s l) l := by
  rcases h with h | h <;> simp [linkFrame, h]

theorem linkFrame_measure {s : State} {l : LinkId} (f : LinkFrame) (h : (s.links.get l).state.isMeasure = true) :
    linkFrame s l f = measureFrame (restartLoss s l) l f := by
  unfold linkFrame
  cases e : (s.links.get l).state <;> simp_all [LinkState.isMeasure]

theorem linkFrame_align {s : State} {l : LinkId} (f : LinkFrame)
    (h : (s.links.get l).state = .alignSeek ∨ (s.links.get l).state = .alignRead) :
    linkFrame s l f = alignFrame (restartLoss s l) l f := by
  rcases h with h | h <;> simp [linkFrame, h]

theorem linkFrame_locked {s : State} {l : LinkId} (f : LinkFrame) (h : (s.links.get l).state = .locked) :
    linkFrame s l f = lockedFrame (restartLoss s l) l f := by simp [linkFrame, h]

theorem linkFrame_recover {s : State} {l : LinkId} (f : LinkFrame)
    (h : (s.links.get l).state = .recoverSeek ∨ (s.links.get l).state = .recoverRead) :
    linkFrame s l f = recoverFrame (restartLoss s l) l f := by
  rcases h with h | h <;> simp [linkFrame, h]

/-! ## DETECT -/

theorem detectFrame_quiet {s : State} {l : LinkId} (h : (s.links.get l).state = .detectQuiet) :
    detectFrame (restartLoss s l) l = s.frameTo l fun r => { r with state := .detectActive, detectCount := 1 } := by
  have state : ((restartLoss s l).links.get l).state = .detectQuiet := by rw [restartLoss_get]; exact h
  rw [detectFrame, if_pos state]
  rfl

theorem detectFrame_counts {s : State} {l : LinkId} (h : (s.links.get l).state = .detectActive)
    (few : (s.links.get l).detectCount < 15) :
    detectFrame (restartLoss s l) l =
      s.frameTo l fun r => { r with detectCount := (s.links.get l).detectCount + 1 } := by
  have state : ((restartLoss s l).links.get l).state ≠ .detectQuiet := by rw [restartLoss_get]; exact h.symm ▸ by decide
  have count : ((restartLoss s l).links.get l).detectCount = (s.links.get l).detectCount := by rw [restartLoss_get]; rfl
  rw [detectFrame, if_neg state, if_neg (by rw [count]; omega), count]
  rfl

theorem detectFrame_sixteenth {s : State} {l : LinkId} (h : (s.links.get l).state = .detectActive)
    (many : 15 ≤ (s.links.get l).detectCount) : detectFrame (restartLoss s l) l = enterMeasure (restartLoss s l) l := by
  have state : ((restartLoss s l).links.get l).state ≠ .detectQuiet := by rw [restartLoss_get]; exact h.symm ▸ by decide
  have count : ((restartLoss s l).links.get l).detectCount = (s.links.get l).detectCount := by rw [restartLoss_get]; rfl
  rw [detectFrame, if_neg state, if_pos (by rw [count]; omega)]

/-! ## MEASURE -/

/-- The measurement that begins at an FS rising edge (R13). -/
def Measurement.begun : Measurement := { edges := 0, ticks := 0, allWellFormed := true }

theorem measureFrame_first {s : State} {l : LinkId} (f : LinkFrame) (h : (s.links.get l).measurement = none) :
    measureFrame (restartLoss s l) l f = s.frameTo l fun r => { r with measurement := some .begun } := by
  have none : ((restartLoss s l).links.get l).measurement = none := by rw [restartLoss_get]; exact h
  rw [measureFrame, none]
  rfl

theorem measureFrame_counts {s : State} {l : LinkId} {m : Measurement} (f : LinkFrame)
    (h : (s.links.get l).measurement = some m) (few : m.edges < 63) :
    measureFrame (restartLoss s l) l f = s.frameTo l fun r => { r with
      measurement := some { edges := m.edges + 1, ticks := m.ticks + f.ticks
                            allWellFormed := m.allWellFormed && f.wellFormed } } := by
  have some : ((restartLoss s l).links.get l).measurement = some m := by rw [restartLoss_get]; exact h
  rw [measureFrame, some]
  exact if_neg (show ¬64 ≤ m.edges + 1 by omega)

theorem measureFrame_last {s : State} {l : LinkId} {m : Measurement} (f : LinkFrame)
    (h : (s.links.get l).measurement = some m) (many : 63 ≤ m.edges) :
    measureFrame (restartLoss s l) l f =
      closeMeasurement (restartLoss s l) l (m.ticks + f.ticks) (m.allWellFormed && f.wellFormed) := by
  have some : ((restartLoss s l).links.get l).measurement = some m := by rw [restartLoss_get]; exact h
  rw [measureFrame, some]
  exact if_pos (show 64 ≤ m.edges + 1 by omega)

theorem measurementEnds_eq {s : State} {l : LinkId} (ticks : Nat) (wf : Bool) (h : (s.links.get l).state.isMeasure = true) :
    measurementEnds s l ticks wf = closeMeasurement (restartLoss s l) l ticks wf := if_pos h

theorem LinkFrame.wellFormed_eq (f : LinkFrame) : f.wellFormed = decide (f.data.length = 256) := beq_eq_decide _ _

theorem LinkFrame.longSync_eq (f : LinkFrame) : (f.longSync = true) = (49 ≤ f.fsHigh) := by simp [LinkFrame.longSync]

/-- The nominal counts of two rates are further apart than what a measurement may differ from both (R13). -/
theorem nominal_apart (q r : Rate) (h : q ≠ r) :
    1004 * q.nominal < 996 * r.nominal ∨ 1004 * r.nominal < 996 * q.nominal := by
  revert h
  cases q <;> cases r <;> decide

/-- A measurement matches one rate at most (R13). -/
theorem isMatch_unique {ticks : Nat} {q r : Rate} (hq : Rate.isMatch ticks q = true) (hr : Rate.isMatch ticks r = true) :
    q = r := by
  by_contra ne
  have apart := nominal_apart q r ne
  simp only [Rate.isMatch, decide_eq_true_eq] at hq hr
  omega

theorem matchRate_of_match {ticks : Nat} {r : Rate} (h : 1000 * ((ticks : Int) - r.nominal).natAbs ≤ 4 * r.nominal) :
    matchRate ticks = some r := by
  have good : Rate.isMatch ticks r = true := decide_eq_true h
  have found : (matchRate ticks).isSome = true := List.find?_isSome.mpr ⟨r, by cases r <;> decide, good⟩
  obtain ⟨q, hq⟩ := Option.isSome_iff_exists.mp found
  rw [hq, isMatch_unique (List.find?_some hq) good]

theorem matchRate_none {ticks : Nat} (h : ∀ r : Rate, 4 * r.nominal < 1000 * ((ticks : Int) - r.nominal).natAbs) :
    matchRate ticks = none := by
  refine List.find?_eq_none.mpr fun r _ => ?_
  have far := h r
  simp only [Rate.isMatch, decide_eq_true_eq]
  omega

/-- A link whose measurement has matched a rate (R13). -/
def Link.aligned (now : Millis) (rate : Rate) (r : Link) : Link :=
  { r with state := .alignSeek, rate := some rate, measurement := none, stateTimer := some (newTimer now 100)
           candidate := none, reading := [], blockTicks := 0 }

theorem closeMeasurement_match {s : State} {l : LinkId} {ticks : Nat} {r : Rate} (h : matchRate ticks = some r) :
    closeMeasurement s l ticks true = s.announced l (Link.aligned s.ms r) := by
  unfold closeMeasurement
  rw [h]
  rfl

theorem closeMeasurement_miss {s : State} {l : LinkId} {ticks : Nat} {wf : Bool} (h : wf = false ∨ matchRate ticks = none) :
    closeMeasurement s l ticks wf = s.updLink l fun r =>
      { r with state := .measureUnrecognised, rate := none, measurement := some .begun } := by
  rcases h with rfl | h
  · unfold closeMeasurement
    split
    · contradiction
    · rfl
  · unfold closeMeasurement
    rw [h]
    rfl

/-! ## ALIGN, below two good blocks -/

/-- A frame starts a block of a link in ALIGN, with the sequence number that the next block must follow, if any (R14). -/
def Link.alignStart (f : LinkFrame) (candidate : Option (BitVec 4)) (r : Link) : Link :=
  { r.startBlock f with candidate := candidate }

theorem alignFrame_seek {s : State} {l : LinkId} (f : LinkFrame) (h : (s.links.get l).state = .alignSeek) :
    alignFrame (restartLoss s l) l f =
      if 49 ≤ f.fsHigh then s.frameTo l fun r => { r.startBlock f with state := .alignRead } else restartLoss s l := by
  have state : ((restartLoss s l).links.get l).state = .alignSeek := by rw [restartLoss_get]; exact h
  rw [alignFrame, if_pos state]
  simp only [LinkFrame.longSync_eq]
  rfl

theorem alignFrame_inBlock {s : State} {l : LinkId} (f : LinkFrame) (h : (s.links.get l).state = .alignRead)
    (n : (s.links.get l).reading.length ≠ 64) :
    alignFrame (restartLoss s l) l f =
      s.frameTo l (if 49 ≤ f.fsHigh then Link.alignStart f none else fun r => r.readFrame f) := by
  have state : ((restartLoss s l).links.get l).state ≠ .alignSeek := by rw [restartLoss_get]; exact h.symm ▸ by decide
  have reading : ((restartLoss s l).links.get l).reading.length ≠ 64 := by rw [restartLoss_get]; exact n
  rw [alignFrame, if_neg state, if_neg reading]
  simp only [LinkFrame.longSync_eq]
  split <;> rfl

theorem alignFrame_shortAfterBlock {s : State} {l : LinkId} {f : LinkFrame} (h : (s.links.get l).state = .alignRead)
    (n : (s.links.get l).reading.length = 64) (short : f.fsHigh < 49) :
    alignFrame (restartLoss s l) l f =
      s.frameTo l fun r => { r with state := .alignSeek, candidate := none, reading := [], blockTicks := 0 } := by
  have state : ((restartLoss s l).links.get l).state ≠ .alignSeek := by rw [restartLoss_get]; exact h.symm ▸ by decide
  have reading : ((restartLoss s l).links.get l).reading.length = 64 := by rw [restartLoss_get]; exact n
  have long : ¬f.longSync = true := by rw [LinkFrame.longSync_eq]; omega
  rw [alignFrame, if_neg state, if_pos reading, if_neg long]
  rfl

/-- A block in ALIGN that does not lock the link: in error, or not next in sequence (R14). -/
theorem alignFrame_blockMiss {s : State} {l : LinkId} {f : LinkFrame} (h : (s.links.get l).state = .alignRead)
    (n : (s.links.get l).reading.length = 64) (long : 49 ≤ f.fsHigh)
    (miss : ∀ d, blockDescriptor (s.links.get l).rate (s.links.get l).reading = some d →
      (s.links.get l).candidate ≠ some (d.seq - 1)) :
    alignFrame (restartLoss s l) l f = s.frameTo l (Link.alignStart f
      ((blockDescriptor (s.links.get l).rate (s.links.get l).reading).map (·.seq))) := by
  have state : ((restartLoss s l).links.get l).state ≠ .alignSeek := by rw [restartLoss_get]; exact h.symm ▸ by decide
  have reading : ((restartLoss s l).links.get l).reading = (s.links.get l).reading := by rw [restartLoss_get]; rfl
  have rate : ((restartLoss s l).links.get l).rate = (s.links.get l).rate := by rw [restartLoss_get]; rfl
  have candidate : ((restartLoss s l).links.get l).candidate = (s.links.get l).candidate := by rw [restartLoss_get]; rfl
  rw [alignFrame, if_neg state, reading, rate, candidate, if_pos n, if_pos (by rwa [LinkFrame.longSync_eq])]
  cases good : blockDescriptor (s.links.get l).rate (s.links.get l).reading with
  | none => rfl
  | some d =>
    refine if_neg fun e => miss d good ?_
    obtain ⟨c, hc, next⟩ := Option.map_eq_some_iff.mp e
    rw [hc, ← next, BitVec.add_sub_cancel]

/-! ## Expiries -/

theorem enterMeasure_eq (s : State) (l : LinkId) : enterMeasure s l = s.announced l fun r => r.giveUp .measureCounting := rfl

/-- A link that has lost its signal (R17). -/
def Link.lost (r : Link) : Link := { r.giveUp .detectQuiet with lossTimer := none }

theorem lossOfSignal_up {s : State} {l : LinkId} (h : ranOut (s.links.get l).lossTimer s.ms) :
    lossOfSignal s l = s.announced l Link.lost := if_pos ((ranOut_iff_timeUp _ _).mp h)

/-- What a link that goes to MEASURE.COUNTING leaves, the zones standing as they did (R12, R14, R16). -/
theorem measured_of_attend {s t : State} {l : LinkId} (attend : zonesAttend s t l) (kept : linkFrameKept s t l) :
    ((enterMeasure t l).links.get l).state = .measureCounting ∧ ((enterMeasure t l).links.get l).cleared ∧
      zonesOffLock s (enterMeasure t l) l ∧ linkFrameKept s (enterMeasure t l) l := by
  rw [enterMeasure_eq, announced_link]
  exact ⟨rfl, giveUp_cleared _ _, announced_zonesOffLock nofun attend, kept.trans (announced_linkFrameKept nofun)⟩

end Sys2Proof.Machine
end

section
/-! The descriptor of a block: its sixteen bytes read from the S bits of its frames, its checks and its fields (R6 to R8). -/

namespace Sys2Proof.Machine

/-! ## Bytes from bits -/

/-- The number of eight bits, the first of them the most significant, from bit `8 * j` on. -/
def byteAt (f : Nat → Bool) (j : Nat) : Nat :=
  ((List.range 8).map fun i => if f (8 * j + i) = true then 2 ^ (7 - i) else 0).sum

theorem byteAt_eq (f : Nat → Bool) (j : Nat) : byteAt f j = byteOfBits
    [f (8 * j + 7), f (8 * j + 6), f (8 * j + 5), f (8 * j + 4), f (8 * j + 3), f (8 * j + 2), f (8 * j + 1), f (8 * j)] := by
  have bit (b : Bool) (k : Nat) : (if b = true then k else 0) = k * b.toNat := by cases b <;> simp
  simp only [byteAt, List.range, List.range.loop, List.map_cons, List.map_nil, List.sum_cons, List.sum_nil, byteOfBits, bit]
  simp only [Nat.add_zero]
  omega

theorem byteOfBits_lt (bs : List Bool) : byteOfBits bs < 2 ^ bs.length := by
  induction bs with
  | nil => decide
  | cons b bs ih =>
    have bit : (if b then 1 else 0 : Nat) ≤ 1 := by cases b <;> decide
    rw [byteOfBits, List.length_cons, Nat.pow_succ]
    omega

theorem byteAt_lt (f : Nat → Bool) (j : Nat) : byteAt f j < 256 := by
  rw [byteAt_eq]
  refine lt_of_lt_of_eq (byteOfBits_lt _) ?_
  simp only [List.length_cons, List.length_nil]
  norm_num

theorem byteAt_succ (f : Nat → Bool) (j : Nat) : byteAt f (j + 1) = byteAt (fun i => f (8 + i)) j := by
  have place (i : Nat) : 8 * (j + 1) + i = 8 + (8 * j + i) := by omega
  simp only [byteAt, place]

/-- The bytes of a sequence of bits (R6). -/
theorem bytesOfBits_map (n : Nat) (f : Nat → Bool) :
    bytesOfBits ((List.range (8 * n)).map f) = (List.range n).map (byteAt f) := by
  induction n generalizing f with
  | zero => rfl
  | succ n ih =>
    have split : (List.range (8 * (n + 1))).map f =
        f 0 :: f 1 :: f 2 :: f 3 :: f 4 :: f 5 :: f 6 :: f 7 :: (List.range (8 * n)).map fun i => f (8 + i) := by
      rw [show 8 * (n + 1) = 8 + 8 * n by omega, List.range_add, List.map_append, List.map_map]
      rfl
    rw [split, bytesOfBits, ih, List.range_succ_eq_map, List.map_cons, List.map_map, byteAt_eq]
    simp only [Nat.mul_zero, Nat.zero_add, List.cons.injEq, true_and]
    exact List.map_congr_left fun j _ => (byteAt_succ f j).symm

/-! ## The descriptor's bits in the frames of a block -/

/-- The S bit that carries bit `n` of a block's descriptor: slots 0 and 1 of each frame in turn (R6). -/
def descriptorBit (fs : List RawFrame) (n : Nat) : Bool :=
  decide (fs[n / 2]?.map (fun g => g.sBit (if n % 2 = 0 then 0 else 1)) = some true)

theorem descriptorBits_eq (fs : List RawFrame) :
    descriptorBits fs = (List.range (2 * fs.length)).map (descriptorBit fs) := by
  induction fs with
  | nil => rfl
  | cons f fs ih =>
    have later (n : Nat) : descriptorBit (f :: fs) (n + 2) = descriptorBit fs n := by
      simp [descriptorBit]
    have first : descriptorBit (f :: fs) 0 = f.sBit 0 := by simp [descriptorBit]
    have second : descriptorBit (f :: fs) 1 = f.sBit 1 := by simp [descriptorBit]
    have split : List.range (2 * (f :: fs).length) = 0 :: 1 :: (List.range (2 * fs.length)).map (· + 2) := by
      rw [List.length_cons, show 2 * (fs.length + 1) = 2 * fs.length + 1 + 1 by omega, List.range_succ_eq_map,
        List.range_succ_eq_map, List.map_cons, List.map_map]
      rfl
    rw [split, List.map_cons, List.map_cons, List.map_map, first, second]
    show f.sBit 0 :: f.sBit 1 :: descriptorBits fs = _
    rw [ih]
    exact congrArg (fun bs => f.sBit 0 :: f.sBit 1 :: bs) (List.map_congr_left fun n _ => (later n).symm)

/-- The sixteen descriptor bytes of a block of 64 frames. -/
theorem descriptorBytes_eq {fs : List RawFrame} (h : fs.length = 64) :
    descriptorBytes fs = (List.range 16).map (byteAt (descriptorBit fs)) := by
  rw [descriptorBytes, descriptorBits_eq, h]
  exact bytesOfBits_map 16 _

/-! ## Checks and fields -/

/-- What a descriptor in error is (R8). -/
theorem descriptorGood_map (rate : Option Rate) (b : Nat → Nat) :
    descriptorGood rate ((List.range 16).map b) = false ↔
      b 0 ≠ 0xC6 ∨ ((List.range 16).map b).sum % 256 ≠ 0 ∨ b 2 = 0 ∨
        (b 1 / 8 % 8 ≠ 7 ∧ ∀ r, rate = some r → r.code ≠ b 1 / 8 % 8) := by
  have first (j : Nat) (hj : j < 16) : ((List.range 16).map b).getD j 0 = b j := by
    simp [List.getD_eq_getElem?_getD, hj]
  have rates : rate.map Rate.code ≠ some (b 1 / 8 % 8) ↔ ∀ r, rate = some r → r.code ≠ b 1 / 8 % 8 := by
    cases rate <;> simp
  rw [descriptorGood, first 0 (by decide), first 1 (by decide), first 2 (by decide), ← rates]
  simp only [List.length_map, List.length_range, decide_true, Bool.true_and, Bool.and_eq_false_iff, Bool.or_eq_false_iff,
    decide_eq_false_iff_not, ne_eq, not_not, or_assoc]

theorem exponentsOf_get (b : Nat → Nat) (j : Nat) (p : Pos) :
    ((exponentsOf (b j) (b (j + 1)) (b (j + 2)) (b (j + 3))).get p).toNat =
      b (j + p.1 / 2) / (if p.1 % 2 = 0 then 16 else 1) % 16 := by
  fin_cases p <;> simp [exponentsOf, Vector.get]

/-- The descriptor part of O19: the fields of a block's descriptor, and when it is in error (R6, R7, R8). -/
theorem blockDescriptor_fields (rate : Option Rate) (fs : List RawFrame) (b : Nat → Nat) (hfs : fs.length = 64)
    (hb : ∀ j, b j = ((List.range 8).map fun i =>
      if fs[4 * j + i / 2]?.map (fun g => g.wellFormed && (g.slots.get (if i % 2 = 0 then 0 else 1)).getLsbD 6) = some true
      then 2 ^ (7 - i) else 0).sum) :
    (blockDescriptor rate fs = none ↔
      b 0 ≠ 0xC6 ∨ ((List.range 16).map b).sum % 256 ≠ 0 ∨ b 2 = 0 ∨
        (b 1 / 8 % 8 ≠ 7 ∧ ∀ r, rate = some r → r.code ≠ b 1 / 8 % 8)) ∧
    ∀ d, blockDescriptor rate fs = some d →
      d.format = (if b 1 / 64 = 0 then .pcm else if b 1 / 64 = 1 then .bsf else if b 1 / 64 = 2 then .unsupported2
        else .unsupported3) ∧
      d.rateCode = b 1 / 8 % 8 ∧ (d.lfe = true ↔ b 1 / 4 % 2 = 1) ∧ d.pref.toNat = b 1 % 4 ∧ d.map.toNat = b 2 ∧
      d.drc = min 48 (b 3 / 4) ∧ d.stream.toNat = b 3 % 4 * 16 + b 4 / 16 ∧ d.seq.toNat = b 4 % 16 ∧
      (∀ p : Pos, (d.expo1.get p).toNat = b (5 + p.1 / 2) / (if p.1 % 2 = 0 then 16 else 1) % 16 ∧
        (d.expo2.get p).toNat = b (9 + p.1 / 2) / (if p.1 % 2 = 0 then 16 else 1) % 16) ∧
      d.checksum.toNat = b 13 * 256 + b 14 := by
  have bytes : b = byteAt (descriptorBit fs) := by
    funext j
    rw [hb, byteAt]
    congr 1
    refine List.map_congr_left fun i _ => ?_
    have place : (8 * j + i) / 2 = 4 * j + i / 2 := by omega
    have slot : (8 * j + i) % 2 = i % 2 := by omega
    simp only [descriptorBit, place, slot, decide_eq_true_eq]
    rfl
  have small (j : Nat) : b j < 256 := by rw [bytes]; exact byteAt_lt _ j
  have descriptor : blockDescriptor rate fs = if descriptorGood rate ((List.range 16).map b) = true then
      some (descriptorFields ((List.range 16).map b)) else none := by
    rw [blockDescriptor, descriptorBytes_eq hfs, ← bytes]
  rw [descriptor]
  refine ⟨?_, fun d hd => ?_⟩
  · rw [← descriptorGood_map]
    simp
  · have fields : descriptorFields ((List.range 16).map b) = d := by
      split at hd
      · exact Option.some.inj hd
      · cases hd
    have one := small 1
    have two := small 2
    have three := small 3
    have four := small 4
    have thirteen := small 13
    have fourteen := small 14
    rw [← fields]
    refine ⟨rfl, rfl, ?_, ?_, ?_, rfl, ?_, ?_, fun p => ⟨exponentsOf_get b 5 p, exponentsOf_get b 9 p⟩, ?_⟩
    · exact beq_iff_eq
    · exact BitVec.toNat_ofNat _ _
    · exact (BitVec.toNat_ofNat _ _).trans (Nat.mod_eq_of_lt two)
    · exact (BitVec.toNat_ofNat _ _).trans (Nat.mod_eq_of_lt (show b 3 % 4 * 16 + b 4 / 16 < 64 by omega))
    · exact BitVec.toNat_ofNat _ _
    · exact (BitVec.toNat_ofNat _ _).trans (Nat.mod_eq_of_lt (show b 13 * 256 + b 14 < 65536 by omega))

end Sys2Proof.Machine
end

section
/-! The record of a zone after a binding (R66). -/

namespace Sys2Proof.Machine

/-! ## Source, copy and clock -/

/-- Steps 4 and 5 of R66 write the clock alone. -/
theorem bindClock_kept (x : Option Link) (r : Zone) : bindClock x r = { r with
    clockInEffect := (bindClock x r).clockInEffect, clockState := (bindClock x r).clockState, rate := (bindClock x r).rate } := by
  unfold bindClock
  split <;> rfl

theorem bindClock_link (x : Option Link) (r : Zone) : (bindClock x r).link = r.link := by
  rw [bindClock_kept]
  rfl

theorem bindRecord_unlinked {s : State} {r : Zone} (h : (takeCopy s.sources r).link = none) :
    bindRecord s r = bindClock none (takeCopy s.sources r) := by
  unfold bindRecord
  dsimp only
  rw [bindClock_link, h]
  rfl

theorem bindRecord_linked {s : State} {r : Zone} {l : LinkId} (h : (takeCopy s.sources r).link = some l) :
    bindRecord s r = { bindClock (some (s.links.get l)) (takeCopy s.sources r) with
      mutes := { linkMutes (s.links.get l) (bindClock (some (s.links.get l)) (takeCopy s.sources r)) with
        tuning := decide (l = 8 ∧ s.tuner.state ≠ .locked) } } := by
  unfold bindRecord
  dsimp only
  rw [bindClock_link, h]
  rfl

/-- The clock as a binding leaves it, RATE_MISMATCH being that of the zone's link (R78, R79). -/
theorem bindClock_clockBound (x : Option Link) (r : Zone) (m : Mutes)
    (hm : ∀ y, x = some y → m.rateMismatch = rateMismatch y (bindClock x r)) :
    Zone.clockBound { bindClock x r with mutes := m } x r.rate := by
  cases h : r.clockMode.localRate with
  | none =>
    have follow : r.clockMode = .follow := by cases e : r.clockMode <;> simp_all [ClockMode.localRate]
    have bound : bindClock x r = { r with
        clockInEffect := .follow
        clockState := if (x.map (·.state)) = some .locked then .lockedToSource else .holdover
        rate := (x.bind fun x => if x.state.carries then x.rate else none).getD r.rate } := by
      unfold bindClock
      rw [h]
    rw [bound] at hm ⊢
    refine ⟨follow.symm, fun k hk => ?_, fun _ => ⟨rfl, fun y k hy hc hr => ?_, fun hc => ?_, fun some => ?_⟩⟩
    · rcases hk with ⟨e, -⟩ | ⟨e, -⟩ <;> exact absurd (follow.symm.trans e) (by decide)
    · subst hy
      show (if y.state.carries then y.rate else none).getD r.rate = k
      rw [hc, if_pos rfl, hr]
      rfl
    · cases x with
      | none => rfl
      | some y =>
        show (if y.state.carries then y.rate else none).getD r.rate = r.rate
        rw [hc y rfl]
        rfl
    · obtain ⟨y, rfl⟩ := Option.isSome_iff_exists.mp some
      exact (hm y rfl).trans (by simp [rateMismatch, ClockMode.localRate])
  | some k =>
    have bound : bindClock x r = { r with clockInEffect := r.clockMode, clockState := .localClock, rate := k } := by
      unfold bindClock
      rw [h]
    rw [bound] at hm ⊢
    refine ⟨rfl, fun q hq => ?_, fun follow => ?_⟩
    · obtain ⟨local_, -⟩ := localRate_of hq
      have same : k = q := Option.some.inj (h.symm.trans local_)
      subst same
      exact ⟨rfl, rfl, fun y hy => (hm y hy).trans (by simp [rateMismatch, h])⟩
    · have no : r.clockMode = .follow := follow
      rw [no] at h
      cases h

/-- What steps 3 to 5 of R66 leave of a zone's record: bound source and copy, clock, and the mute reasons of the link. -/
def Zone.sourceTaken (x r : Zone) (s : State) : Prop :=
  x.bound = r.selected ∧
  x.copy = r.selected.map (fun i => { input := (s.sources.get i).input, trim := (s.sources.get i).trim
                                      lipSync := (s.sources.get i).lipSync, mode := (s.sources.get i).mode }) ∧
  x.clockBound (x.link.map s.links.get) r.rate ∧
  (∀ l, x.link = some l →
    x.mutes.noSignal = decide ((s.links.get l).state ≠ .locked) ∧ x.mutes.format = (s.links.get l).unplayable ∧
    x.mutes.tuning = decide (l = 8 ∧ s.tuner.state ≠ .locked)) ∧
  x.qr = r.qr ∧ x.rampCount = r.rampCount ∧ x.selected = r.selected ∧ x.power = r.power ∧ x.drive = r.drive ∧
  x.autoStandby = r.autoStandby

/-- A record that has the copy of the selected source, a bound clock and the mute reasons of its link. -/
theorem sourceTaken_of {x r : Zone} {s : State} (kept : x = { takeCopy s.sources r with
      clockInEffect := x.clockInEffect, clockState := x.clockState, rate := x.rate, mutes := x.mutes })
    (clock : x.clockBound (x.link.map s.links.get) r.rate)
    (mutes : ∀ l, x.link = some l →
      x.mutes.noSignal = decide ((s.links.get l).state ≠ .locked) ∧ x.mutes.format = (s.links.get l).unplayable ∧
      x.mutes.tuning = decide (l = 8 ∧ s.tuner.state ≠ .locked)) : x.sourceTaken r s :=
  ⟨(congrArg Zone.bound kept :), (congrArg Zone.copy kept :), clock, mutes, (congrArg Zone.qr kept :),
    (congrArg Zone.rampCount kept :), (congrArg Zone.selected kept :), (congrArg Zone.power kept :),
    (congrArg Zone.drive kept :), (congrArg Zone.autoStandby kept :)⟩

theorem bindRecord_sourceTaken (s : State) (r : Zone) : (bindRecord s r).sourceTaken r s := by
  have rate : (takeCopy s.sources r).rate = r.rate := rfl
  cases h : (takeCopy s.sources r).link with
  | none =>
    have bound := bindClock_clockBound none (takeCopy s.sources r) (bindClock none (takeCopy s.sources r)).mutes
      fun _ hy => absurd hy.symm (Option.some_ne_none _)
    have kept := bindClock_kept none (takeCopy s.sources r)
    rw [bindRecord_unlinked h]
    rw [rate] at bound
    have link := (bindClock_link none (takeCopy s.sources r)).trans h
    generalize bindClock none (takeCopy s.sources r) = x at bound kept link ⊢
    refine sourceTaken_of (kept.trans ?_) (by rw [link]; exact bound) fun l hl => nomatch link.symm.trans hl
    have mutes : (takeCopy s.sources r).mutes = x.mutes := (congrArg Zone.mutes kept.symm :)
    rw [mutes]
  | some l =>
    have bound := bindClock_clockBound (some (s.links.get l)) (takeCopy s.sources r)
      { linkMutes (s.links.get l) (bindClock (some (s.links.get l)) (takeCopy s.sources r)) with
        tuning := decide (l = 8 ∧ s.tuner.state ≠ .locked) } (fun y hy => by cases hy; rfl)
    have kept := bindClock_kept (some (s.links.get l)) (takeCopy s.sources r)
    rw [bindRecord_linked h]
    rw [rate] at bound
    have link := (bindClock_link (some (s.links.get l)) (takeCopy s.sources r)).trans h
    generalize bindClock (some (s.links.get l)) (takeCopy s.sources r) = x at bound kept link ⊢
    have onLink (m : Mutes) : Zone.link { x with mutes := m } = some l := link
    refine sourceTaken_of ?_ (by rw [onLink]; exact bound) fun k hk => ?_
    · exact congrArg (fun y : Zone => { y with mutes := { linkMutes (s.links.get l) x with
        tuning := decide (l = 8 ∧ s.tuner.state ≠ TunerState.locked) } }) kept
    · have same : l = k := Option.some.inj ((onLink _).symm.trans hk)
      subst same
      exact ⟨rfl, linkMutes_format (s.links.get l) x, rfl⟩

/-! ## The stages of a binding -/

/-- A zone's record apart from what a binding fills in after step 5 of R66, and from the arbiter's part. -/
def Zone.sansContent (r : Zone) : Zone :=
  { r.sansFrames with alloc := none, vals := none, active := none, shadow := none, countdown := none, tone := Tone.reset
                      driveNow := .off, period := 0 }

theorem sansContent_of_sansArbiter {r x : Zone} (h : x.sansArbiter = r.sansArbiter) : x.sansContent = r.sansContent :=
  (congrArg Zone.sansContent h :)

theorem sourceTaken_congr {x y r : Zone} {s : State} (h : y.sansContent = x.sansContent) (k : x.sourceTaken r s) :
    y.sourceTaken r s := by
  have apart (x : Zone) : x.sourceTaken r s = x.sansContent.sourceTaken r s := rfl
  rw [apart, h, ← apart]
  exact k

/-- What step 2 of R66 leaves of a zone's record. -/
def Zone.yielded (rebind : Bool) (r : Zone) : Zone :=
  let r := { r with qr := none, rampCount := 0 }
  if rebind then r.letGo else r

theorem bindingTaken_eq (s : State) (z : ZoneId) (rebind : Bool) : bindingTaken s z rebind =
    (s.autoZone z (Zone.yielded rebind)).autoZone z (bindRecord (s.autoZone z (Zone.yielded rebind))) := rfl

/-- What a zone takes does not depend on what it has given up of its old source. -/
theorem sourceTaken_yielded {x r y : Zone} {s : State} {rebind : Bool} (h : y.sansArbiter = (r.yielded rebind).sansArbiter)
    (k : x.sourceTaken y s) : x.sourceTaken { r with qr := none, rampCount := 0 } s := by
  have apart (r : Zone) : x.sourceTaken r s = x.sourceTaken { r.sansContent with mutes := Mutes.clear } s := rfl
  have same : ({ y.sansContent with mutes := Mutes.clear } : Zone) =
      { Zone.sansContent { r with qr := none, rampCount := 0 } with mutes := Mutes.clear } := by
    rw [sansContent_of_sansArbiter h]
    cases rebind <;> rfl
  rw [apart, ← same, ← apart]
  exact k

/-- What follows step 5 of R66 does not write what a zone has taken of its source. -/
theorem sourceTaken_later {x r : Zone} {s : State} (c : Option Timer) (k : x.sourceTaken r s) :
    Zone.sourceTaken { x with countdown := c } r s := k

theorem sansContent_link {r x : Zone} (h : x.sansContent = r.sansContent) : x.link = r.link := (congrArg Zone.link h :)

/-- Steps 1 to 5 of R66. -/
theorem bindingTaken_zone (s : State) (z : ZoneId) (rebind : Bool) :
    ((bindingTaken s z rebind).zones.get z).sourceTaken { s.zones.get z with qr := none, rampCount := 0 } s := by
  have yielded := autoZone_zone_sansArbiter s z (Zone.yielded rebind)
  rw [bindingTaken_eq]
  have frame : ∀ x r, Zone.sourceTaken x r (s.autoZone z (Zone.yielded rebind)) = Zone.sourceTaken x r s := fun _ _ => rfl
  generalize s.autoZone z (Zone.yielded rebind) = t at yielded frame ⊢
  have taken := sourceTaken_congr (sansContent_of_sansArbiter (autoZone_zone_sansArbiter t z (bindRecord t)))
    (bindRecord_sourceTaken t (t.zones.get z))
  rw [frame] at taken
  exact sourceTaken_yielded yielded taken

theorem bindingPlaced_zone (s : State) (z : ZoneId) (rebind : Bool) :
    ((bindingPlaced s z rebind).zones.get z).sourceTaken { s.zones.get z with qr := none, rampCount := 0 } s :=
  sourceTaken_congr (sansContent_of_sansArbiter (sansArbiter_zone (rebindDecode_sansArbiter _ z _ _) z))
    (bindingTaken_zone s z rebind)

/-- A choice of raising a flag leaves the zones as they are. -/
theorem raise_ite_zones (b : Bool) (s : State) (f : Flag) : (if b then s.raise f else s).zones = s.zones := by cases b <;> rfl

/-- The allocation a zone asks for and gets (R112). -/
def State.allocation (s : State) (z : ZoneId) : Alloc :=
  let r := s.zones.get z
  let micros := match r.link with
    | some _ => (r.copy.map (·.lipSync)).getD 0
    | none => 0
  allocate (freeFor s z) (zoneChannels s.speakers z).length (delayFrames micros r.rate) micros r.rate

theorem allocateZone_eq (s : State) (z : ZoneId) : allocateZone s z =
    if (s.allocation z).limited then (s.updZone z fun r => { r with alloc := some (s.allocation z) }).raise .limited
    else s.updZone z fun r => { r with alloc := some (s.allocation z) } := rfl

theorem allocateZone_zone (s : State) (z : ZoneId) :
    (allocateZone s z).zones.get z = { s.zones.get z with alloc := some (s.allocation z) } := by
  rw [allocateZone_eq, raise_ite_zones, State.updZone_get_self]

theorem enterPath_eq (spk : Vector Speaker 12) (z : ZoneId) (v : Option DescValues) (r : Zone) :
    (r.enterPath spk z v).sansContent = r.sansContent ∧ (r.enterPath spk z v).alloc = r.alloc ∧
      (r.enterPath spk z v).buffer = [] ∧ (r.enterPath spk z v).refilling = false ∧
      (r.enterPath spk z v).path = if r.link.isSome then .filling else .idle := ⟨rfl, rfl, rfl, rfl, rfl⟩

/-- What steps 7 to 9 of R66 fill in of a zone's record: the allocation, the empty buffer and the path. -/
def Zone.pathEntered (x : Zone) : Prop :=
  x.alloc.isSome = true ∧ x.buffer = [] ∧ x.refilling = false ∧ x.path = if x.link.isSome then .filling else .idle

theorem pathEntered_congr {x y : Zone} (h : y.sansArbiter = x.sansArbiter) (k : x.pathEntered) : y.pathEntered := by
  have apart (x : Zone) : x.pathEntered = x.sansArbiter.pathEntered := rfl
  rw [apart, h, ← apart]
  exact k

theorem pathEntered_later {x : Zone} (c : Option Timer) (k : x.pathEntered) : Zone.pathEntered { x with countdown := c } := k

theorem bindingEntered_eq (s : State) (z : ZoneId) : bindingEntered s z =
    (allocateZone s z).autoZone z fun r => r.enterPath (allocateZone s z).speakers z (bindVals (allocateZone s z) r) := rfl

/-- The path as a zone with an allocation enters it. -/
theorem enterPath_entered {x r : Zone} {spk : Vector Speaker 12} {z : ZoneId} {v : Option DescValues}
    (alloc : r.alloc.isSome = true) (h : x.sansArbiter = (r.enterPath spk z v).sansArbiter) :
    x.pathEntered ∧ x.sansContent = r.sansContent := by
  obtain ⟨content, kept, buffer, refilling, path⟩ := enterPath_eq spk z v r
  have link := sansContent_link content
  generalize r.enterPath spk z v = y at h content kept buffer refilling path link
  exact ⟨pathEntered_congr h ⟨kept ▸ alloc, buffer, refilling, by rw [path, link]⟩, (sansContent_of_sansArbiter h).trans content⟩

/-- Steps 7 to 9 of R66. -/
theorem bindingEntered_zone (s : State) (z : ZoneId) : ((bindingEntered s z).zones.get z).pathEntered ∧
    ((bindingEntered s z).zones.get z).sansContent = (s.zones.get z).sansContent := by
  have allocated := allocateZone_zone s z
  rw [bindingEntered_eq]
  generalize allocateZone s z = t at allocated ⊢
  have entered := autoZone_zone_sansArbiter t z fun r => r.enterPath t.speakers z (bindVals t r)
  generalize t.autoZone z (fun r => r.enterPath t.speakers z (bindVals t r)) = u at entered ⊢
  generalize bindVals t (t.zones.get z) = v at entered
  generalize t.zones.get z = x at allocated entered
  generalize u.zones.get z = y at entered ⊢
  generalize s.zones.get z = r at allocated ⊢
  generalize s.allocation z = a at allocated
  have alloc : x.alloc.isSome = true := (congrArg (fun x : Zone => x.alloc.isSome) allocated :)
  have content : x.sansContent = r.sansContent := (congrArg Zone.sansContent allocated :)
  obtain ⟨path, kept⟩ := enterPath_entered alloc entered
  exact ⟨path, kept.trans content⟩

/-! ## The carrier and the countdown -/

/-- The record differs in the drive mode in force and the period count at most. -/
def Zone.driven (r x : Zone) : Prop := ∃ m p, x = { r with driveNow := m, period := p }

theorem Zone.driven.refl (r : Zone) : r.driven r := ⟨r.driveNow, r.period, rfl⟩

theorem beginFrame_zone (s : State) (z : ZoneId) (m : DriveMode) : (s.zones.get z).driven ((beginFrame s z m).zones.get z) := by
  rw [beginFrame_zones, State.updZone_get_self]
  exact ⟨m, 0, rfl⟩

theorem restartCarrier_zone (s : State) (z : ZoneId) : (s.zones.get z).driven ((restartCarrier s z).zones.get z) := by
  unfold restartCarrier
  dsimp only
  split
  · exact .refl _
  · exact beginFrame_zone s z _

/-- A binding's carrier writes the drive mode in force and the period count of a zone's record (R124). -/
theorem bindCarrier_zone (s : State) (z : ZoneId) (old : Rate) : (s.zones.get z).driven ((bindCarrier s z old).zones.get z) := by
  unfold bindCarrier
  split
  · split
    · exact .refl _
    · rw [zeroDuties_zones]
      exact .refl _
  · have restarted := restartCarrier_zone (zeroDuties s z) z
    rwa [zeroDuties_zones] at restarted

theorem zoneQuiet_iff (s : State) (z : ZoneId) : zoneQuiet s z = true ↔ (s.zones.get z).quiet s := by
  unfold zoneQuiet Zone.quiet
  cases (s.zones.get z).link <;> simp

/-- The countdown as a binding leaves it (R82). -/
theorem bindCountdown_zone (s : State) (z : ZoneId) : ∃ c, (bindCountdown s z).zones.get z = { s.zones.get z with countdown := c } ∧
    ((s.zones.get z).power = .on →
      c = if 0 < (s.zones.get z).autoStandby ∧ (s.zones.get z).quiet s then (s.zones.get z).fullCountdown s else none) := by
  have stopped : (s.updZone z fun r => if r.power = .on then { r with countdown := none } else r).zones.get z =
      if (s.zones.get z).power = .on then { s.zones.get z with countdown := none } else s.zones.get z :=
    State.updZone_get_self s z _
  have frame := updZone_frame s z fun r => if r.power = .on then { r with countdown := none } else r
  unfold bindCountdown
  generalize (s.updZone z fun r => if r.power = .on then { r with countdown := none } else r) = t at stopped frame ⊢
  obtain ⟨-, monitors, -, -, -, -, ms, -⟩ := frame
  unfold startCountdown
  rw [State.updZone_get_self]
  by_cases on : (s.zones.get z).power = .on
  · rw [if_pos on] at stopped
    have quiet : zoneQuiet t z = true ↔ (s.zones.get z).quiet s := by
      rw [zoneQuiet_iff, stopped]
      unfold Zone.quiet
      rw [monitors]
      rfl
    rw [stopped, ms]
    by_cases start : 0 < (s.zones.get z).autoStandby ∧ (s.zones.get z).quiet s
    · exact ⟨_, if_pos ⟨on, quiet.mpr start.2, start.1⟩, fun _ => (if_pos start).symm⟩
    · exact ⟨none, if_neg fun e => start ⟨e.2.2, quiet.mp e.2.1⟩, fun _ => (if_neg start).symm⟩
  · rw [if_neg on] at stopped
    rw [stopped]
    exact ⟨_, if_neg fun e => on e.1, fun h => absurd h on⟩

/-! ## The whole binding -/

/-- A binding up to its carrier. -/
def bindingCarried (s : State) (z : ZoneId) (rebind : Bool) : State :=
  bindCarrier (primeDelays (bindingEntered (bindingPlaced s z rebind) z) z) z (s.zones.get z).rate

theorem bindZone_eq_carried (s : State) (z : ZoneId) (rebind : Bool) :
    bindZone s z rebind = (bindCountdown (bindingCarried s z rebind) z).raise (.zone z) := rfl

theorem bindingCarried_frame (s : State) (z : ZoneId) (rebind : Bool) : zoneFrameKept s (bindingCarried s z rebind) :=
  ((((((autoZone_frame _ _ _).trans (autoZone_frame _ _ _)).trans (rebindDecode_frame _ _ _ _)).trans
    (allocateZone_frame _ _)).trans (autoZone_frame _ _ _)).trans (primeDelays_frame _ _)).trans (bindCarrier_frame _ _ _)

/-- The drive mode in force and the period count are not part of what a binding takes and fills in. -/
theorem driven_bound {r x q : Zone} {s : State} (h : r.driven x) (taken : r.sourceTaken q s) (entered : r.pathEntered) :
    x.sourceTaken q s ∧ x.pathEntered := by
  obtain ⟨m, p, rfl⟩ := h
  exact ⟨taken, entered⟩

theorem bindingCarried_zone (s : State) (z : ZoneId) (rebind : Bool) :
    ((bindingCarried s z rebind).zones.get z).sourceTaken { s.zones.get z with qr := none, rampCount := 0 } s ∧
      ((bindingCarried s z rebind).zones.get z).pathEntered := by
  obtain ⟨entered, content⟩ := bindingEntered_zone (bindingPlaced s z rebind) z
  have carried := bindCarrier_zone (primeDelays (bindingEntered (bindingPlaced s z rebind) z) z) z (s.zones.get z).rate
  rw [primeDelays_zones] at carried
  exact driven_bound carried (sourceTaken_congr content (bindingPlaced_zone s z rebind)) entered

/-- What steps 3 to 9 of R66 leave of a zone's record is what the statements name. -/
theorem justBound_of {x r : Zone} {s : State} (taken : x.sourceTaken { r with qr := none, rampCount := 0 } s)
    (entered : x.pathEntered)
    (countdown : x.power = .on → x.countdown = if 0 < x.autoStandby ∧ x.quiet s then x.fullCountdown s else none) :
    x.justBound s r.selected r.rate := by
  obtain ⟨bound, copy, clock, mutes, qr, ramp, -⟩ := taken
  obtain ⟨alloc, buffer, refilling, path⟩ := entered
  dsimp only at bound copy clock qr ramp
  exact ⟨⟨bound, by rw [copy, Option.map_map]; rfl, by rw [copy, Option.map_map]; rfl, by rw [copy, Option.map_map]; rfl,
    by rw [copy, Option.map_map]; rfl, qr, ramp, refilling, path, alloc, clock, countdown, mutes⟩, buffer⟩

/-- A zone that has taken its source and entered its path, once its countdown stands. -/
theorem justBound_counted {x y r : Zone} {s : State} {c : Option Timer} (counted : y = { x with countdown := c })
    (taken : x.sourceTaken { r with qr := none, rampCount := 0 } s) (entered : x.pathEntered)
    (count : x.power = .on → c = if 0 < x.autoStandby ∧ x.quiet s then x.fullCountdown s else none) :
    y.justBound s r.selected r.rate ∧ y.power = r.power ∧ y.selected = r.selected ∧ y.drive = r.drive := by
  subst counted
  have justBound := justBound_of (sourceTaken_later c taken) (pathEntered_later c entered) count
  obtain ⟨-, -, -, -, -, -, selected, power, drive, -⟩ := taken
  exact ⟨justBound, power, selected, drive⟩

/-- The record that a binding leaves is the one it has carried, with a countdown by the quiet of its link (R82). -/
theorem bindZone_counted (s : State) (z : ZoneId) (rebind : Bool) : ∃ c,
    (bindZone s z rebind).zones.get z = { (bindingCarried s z rebind).zones.get z with countdown := c } ∧
    (((bindingCarried s z rebind).zones.get z).power = .on →
      c = if 0 < ((bindingCarried s z rebind).zones.get z).autoStandby ∧ ((bindingCarried s z rebind).zones.get z).quiet s then
          ((bindingCarried s z rebind).zones.get z).fullCountdown s
        else none) := by
  obtain ⟨-, monitors, -, -, -, -, ms, -⟩ := bindingCarried_frame s z rebind
  obtain ⟨c, counted, count⟩ := bindCountdown_zone (bindingCarried s z rebind) z
  have quiet (x : Zone) : x.quiet (bindingCarried s z rebind) ↔ x.quiet s := by
    unfold Zone.quiet
    rw [monitors]
  have full (x : Zone) : x.fullCountdown (bindingCarried s z rebind) = x.fullCountdown s := by
    unfold Zone.fullCountdown
    rw [ms]
  simp only [quiet, full] at count
  exact ⟨c, by rw [bindZone_eq_carried, State.raise_zones, counted], count⟩

/-- What a binding leaves a zone with (R66): bound to its selected source, with an empty buffer, in the power state it had. -/
theorem bindZone_justBound (s : State) (z : ZoneId) (rebind : Bool) :
    ((bindZone s z rebind).zones.get z).justBound s (s.zones.get z).selected (s.zones.get z).rate ∧
      ((bindZone s z rebind).zones.get z).power = (s.zones.get z).power ∧
      ((bindZone s z rebind).zones.get z).selected = (s.zones.get z).selected ∧
      ((bindZone s z rebind).zones.get z).drive = (s.zones.get z).drive := by
  obtain ⟨taken, entered⟩ := bindingCarried_zone s z rebind
  obtain ⟨c, counted, count⟩ := bindZone_counted s z rebind
  exact justBound_counted counted taken entered count

end Sys2Proof.Machine
end

section
/-! Frames as the zones and the units take them, and what the monitors make of them. -/

namespace Sys2Proof.Machine

/-! ## One frame written -/

/-- The record that takes a frame (R67, R80, R81). -/
def Zone.taken (r : Zone) (f : BufFrame) : Zone :=
  let buf := (if 128 ≤ r.buffer.length then skipFrames r.buffer else r.buffer) ++ [f]
  { r with buffer := buf
           skips := if 128 ≤ r.buffer.length then satAdd r.skips 1 else r.skips
           path := if buf.length = 64 ∧ r.path = .filling then .playing else r.path
           refilling := if buf.length = 64 then false else r.refilling }

/-- A zone takes frames: it is bound to a link and its path is not IDLE (R67). -/
def Zone.listens (r : Zone) : Prop := r.power.isBound = true ∧ r.link.isSome = true ∧ r.path ≠ .idle

theorem write_of_listens {r : Zone} (f : BufFrame) (h : r.listens) : r.write f = r.taken f := by
  unfold Zone.write Zone.taken
  simp only [decide_eq_true_eq]
  exact if_pos h

theorem write_of_not_listens {r : Zone} (f : BufFrame) (h : ¬r.listens) : r.write f = r := if_neg h

theorem write_sansArbiter {r x : Zone} (f : BufFrame) (h : x.sansArbiter = r.sansArbiter) :
    (x.write f).sansArbiter = (r.write f).sansArbiter := by
  have apart (r : Zone) : (r.write f).sansArbiter = r.sansArbiter.write f := by
    by_cases c : r.listens
    · exact (congrArg Zone.sansArbiter (write_of_listens f c)).trans (write_of_listens (r := r.sansArbiter) f c).symm
    · exact (congrArg Zone.sansArbiter (write_of_not_listens f c)).trans (write_of_not_listens (r := r.sansArbiter) f c).symm
  rw [apart, apart, h]

theorem write_sansFrames (r : Zone) (f : BufFrame) : (r.write f).sansFrames = r.sansFrames := by
  rw [Zone.write_frame]
  rfl

/-- A frame lengthens the buffer by one at most (R67, R80). -/
theorem write_buffer_length (r : Zone) (f : BufFrame) : (r.write f).buffer.length ≤ r.buffer.length + 1 := by
  by_cases c : r.listens
  · rw [write_of_listens f c]
    unfold Zone.taken
    split
    · simp [skipFrames_length]
    · simp
  · rw [write_of_not_listens f c]
    exact Nat.le_succ _

/-- A frame that does not bring the buffer to 64 ends neither FILLING nor refilling (R67, R81). -/
theorem write_below {r : Zone} (f : BufFrame) (h : r.buffer.length ≠ 63) :
    (r.write f).path = r.path ∧ (r.write f).refilling = r.refilling := by
  by_cases c : r.listens
  · rw [write_of_listens f c]
    have short : ((if 128 ≤ r.buffer.length then skipFrames r.buffer else r.buffer) ++ [f]).length ≠ 64 := by
      rw [List.length_append, List.length_singleton]
      split
      · rw [skipFrames_length]
        omega
      · omega
    exact ⟨if_neg fun e => short e.1, if_neg short⟩
  · rw [write_of_not_listens f c]
    exact ⟨rfl, rfl⟩

/-- A frame ends FILLING alone among the paths (R67). -/
theorem write_path {r : Zone} (f : BufFrame) (h : r.path ≠ .filling) : (r.write f).path = r.path := by
  by_cases c : r.listens
  · rw [write_of_listens f c]
    exact if_neg fun e => h e.2
  · rw [write_of_not_listens f c]

/-! ## Some frames written -/

/-- The record after some frames, `n` at most, apart from what the arbiter writes of it. -/
def Zone.took (n : Nat) (r x : Zone) : Prop :=
  ∃ fs : List BufFrame, fs.length ≤ n ∧ x.sansArbiter = (fs.foldl Zone.write r).sansArbiter

theorem took_of_sansArbiter {n : Nat} {r x : Zone} (h : x.sansArbiter = r.sansArbiter) : r.took n x := ⟨[], Nat.zero_le _, h⟩

theorem took_write {r x : Zone} (f : BufFrame) (h : x.sansArbiter = (r.write f).sansArbiter) : r.took 1 x := ⟨[f], le_rfl, h⟩

theorem Zone.took.mono {n m : Nat} {r x : Zone} (h : r.took n x) (le : n ≤ m) : r.took m x :=
  h.imp fun _ hfs => ⟨hfs.1.trans le, hfs.2⟩

theorem foldl_write_sansArbiter {r x : Zone} (fs : List BufFrame) (h : x.sansArbiter = r.sansArbiter) :
    (fs.foldl Zone.write x).sansArbiter = (fs.foldl Zone.write r).sansArbiter := by
  induction fs generalizing r x with
  | nil => exact h
  | cons f fs ih => exact ih (write_sansArbiter f h)

theorem Zone.took.trans {n m : Nat} {r x y : Zone} (h : r.took n x) (k : x.took m y) : r.took (n + m) y := by
  obtain ⟨fs, few, record⟩ := h
  obtain ⟨gs, fewer, record'⟩ := k
  refine ⟨fs ++ gs, by rw [List.length_append]; omega, ?_⟩
  rw [record', foldl_write_sansArbiter gs record, List.foldl_append]

theorem took_sansFrames {n : Nat} {r x : Zone} (h : r.took n x) : x.sansFrames = r.sansFrames := by
  obtain ⟨fs, -, record⟩ := h
  rw [sansFrames_of_sansArbiter record]
  clear record
  induction fs generalizing r with
  | nil => rfl
  | cons f fs ih => exact (ih (r := r.write f)).trans (write_sansFrames r f)

/-- Frames end FILLING alone among the paths. -/
theorem took_path {n : Nat} {r x : Zone} (h : r.took n x) (path : r.path ≠ .filling) : x.path = r.path := by
  obtain ⟨fs, -, record⟩ := h
  have same : x.path = (fs.foldl Zone.write r).path := (congrArg Zone.path record :)
  rw [same]
  clear same record
  induction fs generalizing r with
  | nil => rfl
  | cons f fs ih =>
    have kept := write_path f path
    exact (ih (r := r.write f) (by rwa [kept])).trans kept

/-- Frames that cannot bring the buffer to 64 end neither FILLING nor refilling. -/
theorem took_below {n : Nat} {r x : Zone} (h : r.took n x) (few : r.buffer.length + n < 64) :
    x.path = r.path ∧ x.refilling = r.refilling := by
  obtain ⟨fs, le, record⟩ := h
  have path : x.path = (fs.foldl Zone.write r).path := (congrArg Zone.path record :)
  have refilling : x.refilling = (fs.foldl Zone.write r).refilling := (congrArg Zone.refilling record :)
  rw [path, refilling]
  replace few : r.buffer.length + fs.length < 64 := by omega
  clear path refilling record le
  induction fs generalizing r with
  | nil => exact ⟨rfl, rfl⟩
  | cons f fs ih =>
    rw [List.length_cons] at few
    have longer := write_buffer_length r f
    obtain ⟨path, refilling⟩ := write_below f (r := r) (by omega)
    obtain ⟨path', refilling'⟩ := ih (r := r.write f) (by omega)
    exact ⟨path'.trans path, refilling'.trans refilling⟩

/-- One frame ends FILLING when it is the 64th alone. -/
theorem took_one_path {r x : Zone} (h : r.took 1 x) (n : r.buffer.length ≠ 63) : x.path = r.path := by
  obtain ⟨fs, one, record⟩ := h
  have path : x.path = (fs.foldl Zone.write r).path := (congrArg Zone.path record :)
  rw [path]
  match fs, one with
  | [], _ => rfl
  | [f], _ => exact (write_below f n).1

/-- Frames take FILLING to PLAYING or leave it. -/
theorem took_ends {n : Nat} {r x : Zone} (h : r.took n x) (path : r.path = .filling) : x.path = .filling ∨ x.path = .playing := by
  obtain ⟨fs, -, record⟩ := h
  have same : x.path = (fs.foldl Zone.write r).path := (congrArg Zone.path record :)
  rw [same]
  clear same record
  induction fs generalizing r with
  | nil => exact .inl path
  | cons f fs ih =>
    have one : (r.write f).path = .filling ∨ (r.write f).path = .playing := by
      by_cases c : r.listens
      · rw [write_of_listens f c, Zone.taken]
        generalize (if 128 ≤ r.buffer.length then skipFrames r.buffer else r.buffer) ++ [f] = buf
        dsimp only
        split
        · exact .inr rfl
        · exact .inl path
      · rw [write_of_not_listens f c]
        exact .inl path
    rcases one with filling | playing
    · exact ih (r := r.write f) filling
    · exact .inr ((took_path (x := fs.foldl Zone.write (r.write f)) ⟨fs, le_rfl, rfl⟩ (by rw [playing]; decide)).trans playing)

/-- Frames leave the countdown and what it is counted from as they are. -/
theorem took_countdown {n : Nat} {r x : Zone} (c : Option Timer) (h : r.took n x) :
    Zone.took n { r with countdown := c } { x with countdown := c } := by
  have counted (f : BufFrame) (r : Zone) : Zone.write { r with countdown := c } f = { r.write f with countdown := c } := by
    by_cases e : r.listens
    · rw [write_of_listens f e]
      exact write_of_listens (r := { r with countdown := c }) f e
    · rw [write_of_not_listens f e]
      exact write_of_not_listens (r := { r with countdown := c }) f e
  obtain ⟨fs, le, record⟩ := h
  refine ⟨fs, le, ?_⟩
  have fold : fs.foldl Zone.write { r with countdown := c } = { fs.foldl Zone.write r with countdown := c } := by
    clear record le
    induction fs generalizing r with
    | nil => rfl
    | cons f fs ih =>
      rw [List.foldl_cons, counted, ih, List.foldl_cons]
  rw [fold]
  exact congrArg (fun y : Zone => { y with countdown := c }) record

theorem took_sameCountdown {n : Nat} {r x : Zone} {c : Option Timer} (h : Zone.took n { r with countdown := c } x)
    (same : c = r.countdown) : r.took n x := by
  subst same
  exact h

/-! ## Frames to the zones on a link, and from a unit -/

/-- The state when one frame at most has reached each zone: nothing around the zones has changed. -/
def framesPass (s t : State) : Prop := zoneFrameKept s t ∧ ∀ z, (s.zones.get z).took 1 (t.zones.get z)

theorem framesPass.refl (s : State) : framesPass s s := ⟨.refl s, fun _ => took_of_sansArbiter rfl⟩

theorem frameToZones_zone (s : State) (l : LinkId) (f : BufFrame) (z : ZoneId) : (frameToZones s l f).zones.get z =
    if (s.zones.get z).link = some l then (s.zones.get z).write f else s.zones.get z := by
  obtain ⟨u, before, after⟩ := forEach_zone_turn (fun t : State => t.zones.get z)
    (fun s z => if (s.zones.get z).link = some l then writeFrame s z f else s) z (fun t y h => by
      split
      · rw [writeFrame_get, if_neg h]
      · rfl) s
  refine after.trans ?_
  rw [← before]
  split
  · rw [writeFrame_get, if_pos rfl]
  · rfl

theorem frameToZones_units (s : State) (l : LinkId) (f : BufFrame) : (frameToZones s l f).units = s.units :=
  State.forEach_field State.units _ (by exact fun _ _ => by split <;> rfl) _ s

theorem frameToZones_passes (s : State) (l : LinkId) (f : BufFrame) : framesPass s (frameToZones s l f) := by
  refine ⟨.forEach _ (by exact fun t z => by split; exacts [updZone_frame t z _, .refl t]) _ s, fun z => ?_⟩
  rw [frameToZones_zone]
  split
  · exact took_write f rfl
  · exact took_of_sansArbiter rfl

/-- The frame that a unit hands to a zone, which may be owed the unit's values (R39, R44). -/
def DecodeUnit.frameOut (x : DecodeUnit) (owed : Bool) : BufFrame :=
  { samples := x.output.headD (byPos fun _ => 0), vals := if x.owed ∨ owed = true then some x.vals else none }

/-- A unit that has handed out a frame (R39). -/
def DecodeUnit.handed (x : DecodeUnit) : DecodeUnit := { x with output := x.output.tail, owed := false }

/-- A unit's turn for one of its attached zones. -/
def handFrame (x : DecodeUnit) (s : State) (z : ZoneId) : State :=
  (writeFrame s z (x.frameOut (s.zones.get z).owed)).updZone z fun r => { r with owed := false }

theorem handFrame_frame (x : DecodeUnit) (s : State) (z : ZoneId) : zoneFrameKept s (handFrame x s z) :=
  (updZone_frame s z _).trans (updZone_frame _ z _)

theorem unitFrame_eq {s : State} {u : UnitId} (h : (s.units.get u).state ≠ .free) : unitFrame s u =
    (s.updUnit u DecodeUnit.handed).forEach (attachedZones s u) (handFrame (s.units.get u)) := if_neg h

theorem unitFrame_free {s : State} {u : UnitId} (h : (s.units.get u).state = .free) : unitFrame s u = s := if_pos h

theorem unitFrame_zone {s : State} {u : UnitId} (h : (s.units.get u).state ≠ .free) (z : ZoneId) :
    (unitFrame s u).zones.get z =
      if (s.zones.get z).decode = .attached u then
        { (s.zones.get z).write ((s.units.get u).frameOut (s.zones.get z).owed) with owed := false }
      else s.zones.get z := by
  have filtered : unitFrame s u = (s.updUnit u DecodeUnit.handed).forEach zoneIds fun t y =>
      if decide ((s.zones.get y).decode = .attached u) = true then handFrame (s.units.get u) t y else t := by
    rw [unitFrame_eq h]
    exact List.foldl_filter
  obtain ⟨v, before, after⟩ := forEach_zone_turn (fun t : State => t.zones.get z)
    (fun t y => if decide ((s.zones.get y).decode = .attached u) = true then handFrame (s.units.get u) t y else t) z
    (fun t y h => by
      split
      · rw [handFrame, State.updZone_get_of_ne _ _ h, writeFrame_get, if_neg h]
      · rfl) (s.updUnit u DecodeUnit.handed)
  rw [filtered]
  refine after.trans ?_
  have kept : v.zones.get z = s.zones.get z := before
  by_cases attached : (s.zones.get z).decode = .attached u
  · simp only [attached, decide_true, if_true]
    rw [handFrame, State.updZone_get_self, writeFrame_get, if_pos rfl, kept]
  · simp only [attached, decide_false, if_false, Bool.false_eq_true]
    exact kept

theorem unitFrame_units {s : State} {u : UnitId} (h : (s.units.get u).state ≠ .free) :
    (unitFrame s u).units = setAt s.units u (s.units.get u).handed := by
  rw [unitFrame_eq h]
  exact State.forEach_field State.units _ (by exact fun _ _ => rfl) _ _

theorem unitFrame_passes (s : State) (u : UnitId) : framesPass s (unitFrame s u) := by
  by_cases h : (s.units.get u).state = .free
  · rw [unitFrame_free h]
    exact .refl s
  · refine ⟨?_, fun z => ?_⟩
    · rw [unitFrame_eq h]
      exact (updUnit_frame s u _).trans (.forEach _ (handFrame_frame _) _ _)
    · rw [unitFrame_zone h]
      split
      · exact took_write _ rfl
      · exact took_of_sansArbiter rfl

theorem unitDelivers_passes (s : State) (l : LinkId) : framesPass s (unitDelivers s l) := by
  unfold unitDelivers
  split
  · exact unitFrame_passes s _
  · exact .refl s

/-- In RECOVER one frame of zeros reaches each zone at most (R16). -/
theorem recoverZero_passes (s : State) (l : LinkId) : framesPass s (recoverZero s l) := by
  unfold recoverZero
  split
  · exact unitDelivers_passes s l
  · exact frameToZones_passes s l _

end Sys2Proof.Machine
end

section
/-! What a monitor makes of a frame or a block is one write of it, which may be offered to MAIN (R31 to R35). -/

namespace Sys2Proof.Machine

/-! ## A monitor write -/

/-- The state with the monitor of link `l` written and nothing announced. -/
def State.monitored (s : State) (l : LinkId) (m : Monitor) : State := { s with monitors := setAt s.monitors l m }

theorem monitored_get (s : State) (l : LinkId) (m : Monitor) : (s.monitored l m).monitors.get l = m := setAt_get_self _ _ _

theorem monitored_zones (s : State) (l : LinkId) (m : Monitor) : (s.monitored l m).zones = s.zones := rfl

theorem monitored_self (s : State) (l : LinkId) : s.monitored l (s.monitors.get l) = s := by
  unfold State.monitored
  rw [setAt_self]

/-- A monitor that stays in its state announces nothing (R34). -/
theorem setMonitor_same {s : State} {l : LinkId} {m : Monitor} (h : (s.monitors.get l).state = m.state) :
    setMonitor s l m = s.monitored l m := by
  rw [setMonitor_unoffered s l (by rw [← h]; tauto)]
  simp [State.sense, State.monitored, h]

/-- A monitor written twice, the first time in its own state, is written once. -/
theorem setMonitor_monitored {s : State} {l : LinkId} {m : Monitor} (h : (s.monitors.get l).state = m.state) (x : Monitor) :
    setMonitor (s.monitored l m) l x = setMonitor s l x := by
  have sense : (s.monitored l m).sense l x = s.sense l x := by
    unfold State.sense
    rw [monitored_get, h]
    simp only [State.monitored, setAt_setAt]
  rw [setMonitor_eq, setMonitor_eq, monitored_get, sense, h]

/-- A monitor in SILENT after a block that was judged (R32). -/
def Monitor.judged (now : Millis) (loud : Bool) (m : Monitor) : Monitor :=
  if loud = true then if 8 ≤ m.run + 1 then m.toActive now else { m with run := m.run + 1 } else { m with run := 0 }

theorem judgeBlock_eq (s : State) (l : LinkId) (loud : Bool) :
    judgeBlock s l loud = setMonitor s l ((s.monitors.get l).judged s.ms loud) := by
  unfold judgeBlock Monitor.judged
  dsimp only
  split
  · split <;> rfl
  · rfl

/-- A monitor in SILENT that has taken a frame of a block. -/
def Monitor.marked (first loud : Bool) (m : Monitor) : Monitor :=
  { m with whole := first || m.whole, loud := loud || (!first && m.loud) }

/-- A monitor after a frame (R31 to R33). -/
def Monitor.heard (now : Millis) (first last loud : Bool) (m : Monitor) : Monitor :=
  match m.state with
  | .noLink => m
  | .active => { m with whole := false, quietTimer := if loud then some (newTimer now 1000) else m.quietTimer }
  | .silent =>
    if last = true ∧ (m.marked first loud).whole = true then (m.marked first loud).judged now (m.marked first loud).loud
    else m.marked first loud

theorem heard_noLink {m : Monitor} (h : m.state = .noLink) (now : Millis) (first last loud : Bool) :
    m.heard now first last loud = m := by simp [Monitor.heard, h]

theorem heard_active {m : Monitor} (h : m.state = .active) (now : Millis) (first last loud : Bool) :
    m.heard now first last loud =
      { m with whole := false, quietTimer := if loud then some (newTimer now 1000) else m.quietTimer } := by
  simp [Monitor.heard, h]

theorem heard_silent {m : Monitor} (h : m.state = .silent) (now : Millis) (first last loud : Bool) :
    m.heard now first last loud =
      if last = true ∧ (m.marked first loud).whole = true then (m.marked first loud).judged now (m.marked first loud).loud
      else m.marked first loud := by simp [Monitor.heard, h]

theorem monitorFrame_silent {s : State} {l : LinkId} (h : (s.monitors.get l).state = .silent) (first last loud : Bool) :
    monitorFrame s l first last loud =
      if last = true ∧ ((s.monitors.get l).marked first loud).whole = true then
        judgeBlock (setMonitor s l ((s.monitors.get l).marked first loud)) l ((s.monitors.get l).marked first loud).loud
      else setMonitor s l ((s.monitors.get l).marked first loud) := by
  simp [monitorFrame, h, Monitor.marked]

theorem monitorFrame_eq (s : State) (l : LinkId) (first last loud : Bool) :
    monitorFrame s l first last loud = setMonitor s l ((s.monitors.get l).heard s.ms first last loud) := by
  cases h : (s.monitors.get l).state with
  | noLink =>
    rw [heard_noLink h, setMonitor_same rfl, monitored_self]
    simp [monitorFrame, h]
  | active =>
    rw [heard_active h]
    simp [monitorFrame, h]
  | silent =>
    have same : setMonitor s l ((s.monitors.get l).marked first loud) = s.monitored l ((s.monitors.get l).marked first loud) :=
      setMonitor_same rfl
    rw [heard_silent h, monitorFrame_silent h, same, judgeBlock_eq, monitored_get]
    split
    · exact setMonitor_monitored (m := (s.monitors.get l).marked first loud) rfl _
    · exact same.symm

/-- A monitor after the frames of a whole block (R31 to R33). -/
def Monitor.heardBlock (now : Millis) (loud : Bool) (m : Monitor) : Monitor :=
  match m.state with
  | .noLink => m
  | .active => { m with quietTimer := if loud then some (newTimer now 1000) else m.quietTimer }
  | .silent => m.judged now loud

theorem heardBlock_noLink {m : Monitor} (h : m.state = .noLink) (now : Millis) (loud : Bool) :
    m.heardBlock now loud = m := by simp [Monitor.heardBlock, h]

theorem heardBlock_active {m : Monitor} (h : m.state = .active) (now : Millis) (loud : Bool) :
    m.heardBlock now loud = { m with quietTimer := if loud then some (newTimer now 1000) else m.quietTimer } := by
  simp [Monitor.heardBlock, h]

theorem heardBlock_silent {m : Monitor} (h : m.state = .silent) (now : Millis) (loud : Bool) :
    m.heardBlock now loud = m.judged now loud := by simp [Monitor.heardBlock, h]

theorem monitorBlock_eq (s : State) (l : LinkId) (loud : Bool) :
    monitorBlock s l loud = setMonitor s l ((s.monitors.get l).heardBlock s.ms loud) := by
  cases h : (s.monitors.get l).state with
  | noLink =>
    rw [heardBlock_noLink h, setMonitor_same rfl, monitored_self]
    simp [monitorBlock, h]
  | active =>
    rw [heardBlock_active h]
    cases loud with
    | false =>
      refine Eq.trans ?_ ((setMonitor_same rfl).trans (monitored_self s l)).symm
      simp [monitorBlock, h]
    | true => simp [monitorBlock, h]
  | silent =>
    rw [heardBlock_silent h, ← judgeBlock_eq]
    simp [monitorBlock, h]

/-! ## An offer to MAIN -/

theorem offerAutoOn_frame (s : State) (l : LinkId) : zoneFrameKept s (offerAutoOn s l) := by
  unfold offerAutoOn
  split
  · split
    · exact (((updZone_frame s 0 _).trans (powerUpZone_frame _ 0)).trans (zoneOrigin_frame _ 0 _)).trans (raise_frame _ _)
    · exact .refl s
  · exact .refl s

/-- An offer is seen by a zone other than MAIN in STANDBY at its decode position alone (R35). -/
theorem offerAutoOn_about {s : State} (l : LinkId) {z : ZoneId} (h : (s.zones.get z).power ≠ .standby) :
    (offerAutoOn s l).about z = s.about z := by
  unfold offerAutoOn
  split
  next standby =>
    have other : (0 : ZoneId) ≠ z := fun e => h (e ▸ standby)
    split
    · rw [raise_about]
      exact (updZone_about _ other _).trans ((powerUpZone_about _ other).trans (updZone_about s other _))
    · rfl
  · rfl

theorem sense_frame (s : State) (l : LinkId) (m : Monitor) : zoneFrameKept (s.monitored l m) (s.sense l m) :=
  ⟨rfl, rfl, rfl, rfl, rfl, rfl, rfl, rfl⟩

theorem setMonitor_frame (s : State) (l : LinkId) (m : Monitor) : zoneFrameKept (s.monitored l m) (setMonitor s l m) := by
  rw [setMonitor_eq]
  split
  · exact (sense_frame s l m).trans (offerAutoOn_frame _ l)
  · exact sense_frame s l m

theorem setMonitor_monitors (s : State) (l : LinkId) (m : Monitor) : (setMonitor s l m).monitors = setAt s.monitors l m := by
  obtain ⟨-, monitors, -⟩ := setMonitor_frame s l m
  exact monitors

/-- A monitor write meets a zone in its countdown, and there alone at a change to or from ACTIVE (R34, R82). -/
theorem sense_countdown (s : State) (l : LinkId) (m : Monitor) (z : ZoneId) : ∃ c,
    (s.sense l m).zones.get z = { s.zones.get z with countdown := c } ∧
      ((s.monitors.get l).state = m.state → c = (s.zones.get z).countdown) := by
  rw [sense_zone]
  by_cases h : (s.monitors.get l).state = m.state
  · simp [h]
  · refine Exists.imp (fun c e => ⟨e, fun same => absurd same h⟩) ?_
    split
    · unfold Zone.onActivity
      split
      · exact ⟨_, rfl⟩
      · exact ⟨_, rfl⟩
    · exact ⟨_, rfl⟩

theorem setMonitor_zone (s : State) (l : LinkId) (m : Monitor) {z : ZoneId} (h : (s.zones.get z).power ≠ .standby) : ∃ c,
    ((setMonitor s l m).zones.get z).sansArbiter = { s.zones.get z with countdown := c }.sansArbiter ∧
      ((s.monitors.get l).state = m.state → c = (s.zones.get z).countdown) := by
  obtain ⟨c, record, count⟩ := sense_countdown s l m z
  rw [setMonitor_eq]
  generalize s.sense l m = t at record ⊢
  refine ⟨c, ?_, count⟩
  have power : (t.zones.get z).power = (s.zones.get z).power := (congrArg Zone.power record :)
  rw [← record]
  split
  · exact about_zone (offerAutoOn_about l (by rwa [power]))
  · rfl

end Sys2Proof.Machine
end

section
/-! A frame of a LOCKED link, up to the end of a block: what goes out with it, and the frame that joins the block in reading. -/

namespace Sys2Proof.Machine

/-! ## What stands around a link -/

/-- What an operation of link `l` leaves alone also where zones rebind by it. -/
def linkAround (s t : State) (l : LinkId) : Prop :=
  (∀ k, k ≠ l → t.links.get k = s.links.get k ∧ t.monitors.get k = s.monitors.get k) ∧
  t.sources = s.sources ∧ t.speakers = s.speakers ∧ t.tuner = s.tuner ∧ t.encoders = s.encoders ∧ t.ms = s.ms ∧
  t.snapshotDue = s.snapshotDue

theorem linkAround.refl (s : State) (l : LinkId) : linkAround s s l := ⟨fun _ _ => ⟨rfl, rfl⟩, rfl, rfl, rfl, rfl, rfl, rfl⟩

theorem linkAround.trans {s t u : State} {l : LinkId} (h : linkAround s t l) (k : linkAround t u l) : linkAround s u l := by
  obtain ⟨others, a, b, c, d, e, f⟩ := h
  obtain ⟨others', a', b', c', d', e', f'⟩ := k
  exact ⟨fun n hn => ⟨(others' n hn).1.trans (others n hn).1, (others' n hn).2.trans (others n hn).2⟩, a'.trans a, b'.trans b,
    c'.trans c, d'.trans d, e'.trans e, f'.trans f⟩

theorem linkAround_of_zoneFrame {s t : State} (h : zoneFrameKept s t) (l : LinkId) : linkAround s t l := by
  obtain ⟨links, monitors, a, b, c, d, e, f⟩ := h
  exact ⟨fun k _ => by rw [links, monitors]; exact ⟨rfl, rfl⟩, a, b, c, d, e, f⟩

theorem updLink_around (s : State) (l : LinkId) (f : Link → Link) : linkAround s (s.updLink l f) l :=
  ⟨fun _ hk => ⟨setAt_get_of_ne _ _ (Ne.symm hk), rfl⟩, rfl, rfl, rfl, rfl, rfl, rfl⟩

theorem restartLoss_around (s : State) (l : LinkId) : linkAround s (restartLoss s l) l := updLink_around s l _

theorem monitored_around (s : State) (l : LinkId) (m : Monitor) : linkAround s (s.monitored l m) l :=
  ⟨fun _ hk => ⟨rfl, setAt_get_of_ne _ _ (Ne.symm hk)⟩, rfl, rfl, rfl, rfl, rfl, rfl⟩

theorem setMonitor_around (s : State) (l : LinkId) (m : Monitor) : linkAround s (setMonitor s l m) l :=
  (monitored_around s l m).trans (linkAround_of_zoneFrame (setMonitor_frame s l m) l)

theorem announceFormat_around (s : State) (l : LinkId) : linkAround s (announceFormat s l) l :=
  linkAround_of_zoneFrame (announceFormat_frame s l) l

theorem monitorOnLink_around (s : State) (l : LinkId) : linkAround s (monitorOnLink s l) l := by
  rw [monitorOnLink_eq, ← setMonitor_unoffered s l (.inr (Monitor.onLink_not_active _ _ _))]
  exact setMonitor_around s l _

theorem announceState_around (s : State) (l : LinkId) : linkAround s (announceState s l) l :=
  (monitorOnLink_around s l).trans (linkAround_of_zoneFrame (announceState_frame s l) l)

theorem setMonitor_links (s : State) (l : LinkId) (m : Monitor) : (setMonitor s l m).links = s.links := by
  obtain ⟨links, -⟩ := setMonitor_frame s l m
  exact links

theorem updLink_monitors (s : State) (l : LinkId) (f : Link → Link) : (s.updLink l f).monitors = s.monitors := rfl

theorem updLink_zones (s : State) (l : LinkId) (f : Link → Link) : (s.updLink l f).zones = s.zones := rfl

/-! ## The frame that goes out -/

/-- The samples of a frame that goes out, the hold registers after it and its CODE errors (R2, R3; log 18). -/
def Link.frameRead (d : Descriptor) (g : RawFrame) (r : Link) : Vector Sample 8 × Vector Hold 8 × Nat :=
  if d.format = .pcm then readSlots 0 (pcmSlot g) d.map r.hold else (byPos fun _ => 0, r.hold, 0)

/-- The link's record when frame `g` of a block has gone out. -/
def Link.sends (d : Descriptor) (g : RawFrame) (rest : List RawFrame) (r : Link) : Link :=
  { r.countCode (r.frameRead d g).2.2 with
    hold := (r.frameRead d g).2.1, delivery := if rest.isEmpty then none else some { desc := d, frames := rest } }

theorem deliverFrame_none {s : State} {l : LinkId} (h : (s.links.get l).delivery = none) : deliverFrame s l = s := by
  simp [deliverFrame, h]

theorem deliverFrame_empty {s : State} {l : LinkId} {d : Descriptor}
    (h : (s.links.get l).delivery = some { desc := d, frames := [] }) :
    deliverFrame s l = s.updLink l fun r => { r with delivery := none } := by simp [deliverFrame, h]

theorem deliverFrame_frame {s : State} {l : LinkId} {d : Descriptor} {g : RawFrame} {rest : List RawFrame}
    (h : (s.links.get l).delivery = some { desc := d, frames := g :: rest }) : deliverFrame s l =
      monitorFrame (frameToZones (s.updLink l (Link.sends d g rest)) l
          { samples := ((s.links.get l).frameRead d g).1, vals := if decide (rest.length = 63) then some d.vals else none }) l
        (decide (rest.length = 63)) rest.isEmpty (frameLoud d.map (pcmMagnitude ((s.links.get l).frameRead d g).1)) := by
  unfold deliverFrame
  simp only [h]
  rfl

/-- The record of a link that has sent a frame, if it had one to send. -/
def Link.sent (r x : Link) : Prop :=
  (∃ code hold delivery, x = { r with counters := { r.counters with code := code }, hold := hold, delivery := delivery }) ∧
  (r.delivery = none → x = r)

theorem sends_sent {r : Link} {d : Descriptor} {g : RawFrame} {rest : List RawFrame}
    (h : r.delivery = some { desc := d, frames := g :: rest }) : r.sent (r.sends d g rest) :=
  ⟨⟨_, _, _, rfl⟩, fun e => absurd (e.symm.trans h).symm (Option.some_ne_none _)⟩

/-- The monitor that a link's frame has passed, if one went out. -/
def Link.passes (r : Link) (now : Millis) (m x : Monitor) : Prop :=
  (x = m ∨ ∃ first last loud, ¬(first = true ∧ last = true) ∧ x = m.heard now first last loud) ∧ (r.delivery = none → x = m)

/-- What the delivery of a frame can do: the link's record is written, one frame at most reaches each zone, and then the
monitor takes it. -/
theorem deliverFrame_does (s : State) (l : LinkId) : ∃ f m u, deliverFrame s l = setMonitor u l m ∧
    framesPass (s.updLink l f) u ∧ (s.links.get l).sent (f (s.links.get l)) ∧
    (s.links.get l).passes s.ms (s.monitors.get l) m := by
  have untouched (f : Link → Link) : setMonitor (s.updLink l f) l (s.monitors.get l) = s.updLink l f :=
    (setMonitor_same rfl).trans (monitored_self (s.updLink l f) l)
  cases h : (s.links.get l).delivery with
  | none =>
    have same : s.updLink l id = s := by
      rw [State.updLink_unreported (f := id) (Link.reportedChange_self _)]
      simp [setAt_self]
    refine ⟨id, s.monitors.get l, s.updLink l id, ?_, .refl _, ⟨⟨_, _, _, rfl⟩, fun _ => rfl⟩, .inl rfl, fun _ => rfl⟩
    rw [untouched, same, deliverFrame_none h]
  | some b =>
    obtain ⟨d, frames⟩ := b
    have sending : (s.links.get l).delivery ≠ none := by simp [h]
    cases frames with
    | nil =>
      refine ⟨_, s.monitors.get l, _, ?_, .refl (s.updLink l fun r => { r with delivery := none }), ⟨⟨_, _, _, rfl⟩,
        fun e => absurd e sending⟩, .inl rfl, fun _ => rfl⟩
      rw [untouched, deliverFrame_empty h]
    | cons g rest =>
      have passed := frameToZones_passes (s.updLink l (Link.sends d g rest)) l
        { samples := ((s.links.get l).frameRead d g).1, vals := if decide (rest.length = 63) then some d.vals else none }
      have frame := deliverFrame_frame h
      rw [monitorFrame_eq] at frame
      have ⟨⟨_, monitors, _, _, _, _, ms, _⟩, _⟩ := passed
      rw [monitors, ms] at frame
      have apart : ¬(decide (rest.length = 63) = true ∧ rest.isEmpty = true) := fun ⟨first, last⟩ => by
        have full := of_decide_eq_true first
        rw [List.isEmpty_iff.mp last] at full
        exact absurd full (by decide)
      exact ⟨_, _, _, frame, passed, sends_sent h, .inr ⟨_, _, _, apart, rfl⟩, fun e => absurd e sending⟩

theorem heard_state {m : Monitor} (h : m.state ≠ .silent) (now : Millis) (first last loud : Bool) :
    (m.heard now first last loud).state = m.state := by
  cases e : m.state with
  | noLink => rw [heard_noLink e, e]
  | active => rw [heard_active e, e]
  | silent => exact absurd e h

theorem passes_state {r : Link} {now : Millis} {m x : Monitor} (h : r.passes now m x)
    (still : m.state ≠ .silent ∨ r.delivery = none) : x.state = m.state := by
  obtain ⟨heard, none⟩ := h
  rcases still with still | still
  · rcases heard with rfl | ⟨first, last, loud, -, rfl⟩
    · rfl
    · exact heard_state still now first last loud
  · rw [none still]

/-- A frame of a block that was not taken whole does not move a monitor (R31). -/
theorem passes_state_part {r : Link} {now : Millis} {m x : Monitor} (h : r.passes now m x) (part : m.whole = false) :
    x.state = m.state := by
  by_cases silent : m.state = .silent
  · obtain ⟨rfl | ⟨first, last, loud, apart, rfl⟩, -⟩ := h
    · rfl
    · rw [heard_silent silent, if_neg fun e => apart ⟨by simpa [Monitor.marked, part] using e.2, e.1⟩]
      rfl
  · exact passes_state h (.inl silent)

/-! ## The frame that arrives -/

/-- The link's record when the frame that arrived has joined the block in reading (R5, R6). -/
def Link.joined (f : LinkFrame) (r : Link) : Link := (if f.wellFormed then r else r.countCode 1).readFrame f

/-- A LOCKED link up to the end of a block: a frame has gone out and the frame that arrived has joined the block in reading. -/
def lockedTaken (s : State) (l : LinkId) (f : LinkFrame) : State :=
  (unitDelivers (deliverFrame s l) l).updLink l (Link.joined f)

theorem lockedFrame_onGrid {s : State} {l : LinkId} {f : LinkFrame}
    (h : ¬(f.longSync = true ∧ (s.links.get l).reading ≠ [])) : lockedFrame s l f =
      if ((lockedTaken s l f).links.get l).reading.length = 64 then lockedBlockEnd (lockedTaken s l f) l
      else lockedTaken s l f := if_neg h

theorem lockedFrame_offGrid {s : State} {l : LinkId} {f : LinkFrame} (h : f.longSync = true)
    (hr : (s.links.get l).reading ≠ []) : lockedFrame s l f = recoverZero (enterRecover s l) l := if_pos ⟨h, hr⟩

/-- The record of a LOCKED link when a frame has gone out and one has joined the block in reading. -/
def Link.frameTaken (f : LinkFrame) (r x : Link) : Prop :=
  (∃ code hold delivery, x = { r with
    counters := { r.counters with code := code }, hold := hold, delivery := delivery
    reading := r.reading ++ [rawFrame f], blockTicks := r.blockTicks + f.ticks }) ∧
  (r.delivery = none → x.hold = r.hold ∧ x.delivery = none)

theorem frameTaken_of_sent {r x : Link} (f : LinkFrame) (h : r.sent x) : r.frameTaken f (x.joined f) := by
  obtain ⟨⟨code, hold, delivery, rfl⟩, none⟩ := h
  unfold Link.joined
  refine ⟨?_, fun e => ?_⟩
  · split
    · exact ⟨_, _, _, rfl⟩
    · exact ⟨_, _, _, rfl⟩
  · have same := none e
    have hold : hold = r.hold := (congrArg Link.hold same :)
    have gone : delivery = r.delivery := (congrArg Link.delivery same :)
    split
    · exact ⟨hold, gone.trans e⟩
    · exact ⟨hold, gone.trans e⟩

theorem unitDelivers_links (s : State) (l : LinkId) : (unitDelivers s l).links = s.links := by
  obtain ⟨⟨links, -⟩, -⟩ := unitDelivers_passes s l
  exact links

theorem lockedTaken_link (s : State) (l : LinkId) (f : LinkFrame) :
    (s.links.get l).frameTaken f ((lockedTaken s l f).links.get l) := by
  obtain ⟨g, m, u, done, ⟨⟨links, -⟩, -⟩, sent, -⟩ := deliverFrame_does s l
  rw [lockedTaken, State.updLink_get_self, unitDelivers_links, done, setMonitor_links, links, State.updLink_get_self]
  exact frameTaken_of_sent f sent

theorem lockedTaken_around (s : State) (l : LinkId) (f : LinkFrame) : linkAround s (lockedTaken s l f) l := by
  obtain ⟨g, m, u, done, ⟨frame, -⟩, -⟩ := deliverFrame_does s l
  have delivered : linkAround s (deliverFrame s l) l := by
    rw [done]
    exact ((updLink_around s l g).trans (linkAround_of_zoneFrame frame l)).trans (setMonitor_around u l m)
  obtain ⟨handed, -⟩ := unitDelivers_passes (deliverFrame s l) l
  exact (delivered.trans (linkAround_of_zoneFrame handed l)).trans (updLink_around _ l _)

theorem lockedTaken_monitors (s : State) (l : LinkId) (f : LinkFrame) :
    (lockedTaken s l f).monitors = (deliverFrame s l).monitors := by
  obtain ⟨⟨-, monitors, -⟩, -⟩ := unitDelivers_passes (deliverFrame s l) l
  exact monitors

theorem lockedTaken_monitor (s : State) (l : LinkId) (f : LinkFrame) :
    (s.links.get l).passes s.ms (s.monitors.get l) ((lockedTaken s l f).monitors.get l) := by
  obtain ⟨g, m, u, done, -, -, passes⟩ := deliverFrame_does s l
  rw [lockedTaken_monitors, done, setMonitor_monitors, setAt_get_self]
  exact passes

/-- A zone other than MAIN in STANDBY takes two frames at most, its countdown standing where the monitor does. -/
theorem lockedTaken_zone (s : State) (l : LinkId) (f : LinkFrame) {z : ZoneId} (h : (s.zones.get z).power ≠ .standby) : ∃ c,
    Zone.took 2 { s.zones.get z with countdown := c } ((lockedTaken s l f).zones.get z) ∧
      (((lockedTaken s l f).monitors.get l).state = (s.monitors.get l).state → c = (s.zones.get z).countdown) := by
  obtain ⟨g, m, u, done, ⟨⟨-, monitors, -⟩, took⟩, -, -⟩ := deliverFrame_does s l
  obtain ⟨-, handed⟩ := unitDelivers_passes (deliverFrame s l) l
  have first : (s.zones.get z).took 1 (u.zones.get z) := took z
  have second : ((deliverFrame s l).zones.get z).took 1 ((lockedTaken s l f).zones.get z) := handed z
  have before : u.monitors = s.monitors := monitors
  have power : (u.zones.get z).power = (s.zones.get z).power := (congrArg Zone.power (took_sansFrames first) :)
  have count : (u.zones.get z).countdown = (s.zones.get z).countdown := (congrArg Zone.countdown (took_sansFrames first) :)
  obtain ⟨c, record, still⟩ := setMonitor_zone u l m (by rwa [power])
  rw [← done] at record
  have after : (lockedTaken s l f).monitors.get l = m := by
    rw [lockedTaken_monitors, done, setMonitor_monitors, setAt_get_self]
  refine ⟨c, ((took_countdown c first).trans (took_of_sansArbiter (n := 0) record)).trans second, fun e => ?_⟩
  rw [after] at e
  rw [still (by rw [before, e]), count]

/-- What a LOCKED link has done before the end of a block leaves the zones attending (R10, R31, R82). -/
theorem lockedTaken_attend (s : State) (l : LinkId) (f : LinkFrame) : zonesAttend s (lockedTaken s l f) l := by
  obtain ⟨-, -, -, -, -, ms, -⟩ := lockedTaken_around s l f
  have passes := lockedTaken_monitor s l f
  refine ⟨ms, fun e => ?_, fun e => ?_, fun z _ bound => ?_⟩
  · rw [passes_state passes (.inl (by rw [e]; decide)), e]
  · have state : ((lockedTaken s l f).monitors.get l).state = (s.monitors.get l).state :=
      passes_state passes (e.imp (fun e => by rw [e]; decide) And.right)
    rw [state]
    rcases e with e | e
    · rw [e]; decide
    · rw [e.1]; decide
  · obtain ⟨c, took, still⟩ := lockedTaken_zone s l f (z := z) fun e => by rw [e] at bound; exact absurd bound (by decide)
    exact ⟨c, took_sansFrames took, fun e => still (passes_state passes e)⟩

end Sys2Proof.Machine
end

section
/-! The end of a block in LOCKED as the link meets it. -/

namespace Sys2Proof.Machine

/-! ## A LOCKED link's frame, the loss window restarted -/

/-- A LOCKED link up to the end of a block, the loss window restarted by the frame. -/
def blockFront (s : State) (l : LinkId) (f : LinkFrame) : State := lockedTaken (restartLoss s l) l f

theorem blockFront_link (s : State) (l : LinkId) (f : LinkFrame) :
    ((s.links.get l).restarted s.ms).frameTaken f ((blockFront s l f).links.get l) := by
  rw [← restartLoss_get]
  exact lockedTaken_link (restartLoss s l) l f

/-- What a link keeps until the end of a block is decided. -/
theorem blockFront_kept (s : State) (l : LinkId) (f : LinkFrame) : ∃ code hold delivery,
    (blockFront s l f).links.get l = { s.links.get l with
      lossTimer := some (newTimer s.ms (s.links.get l).lossWindow)
      counters := { (s.links.get l).counters with code := code }, hold := hold, delivery := delivery
      reading := (s.links.get l).reading ++ [rawFrame f], blockTicks := (s.links.get l).blockTicks + f.ticks } := by
  obtain ⟨⟨code, hold, delivery, record⟩, -⟩ := blockFront_link s l f
  exact ⟨code, hold, delivery, record⟩

theorem blockFront_undelivered {s : State} {l : LinkId} (f : LinkFrame) (h : (s.links.get l).delivery = none) :
    ((blockFront s l f).links.get l).hold = (s.links.get l).hold ∧ ((blockFront s l f).links.get l).delivery = none := by
  obtain ⟨-, none⟩ := blockFront_link s l f
  exact none h

theorem blockFront_around (s : State) (l : LinkId) (f : LinkFrame) : linkAround s (blockFront s l f) l :=
  (restartLoss_around s l).trans (lockedTaken_around _ l f)

theorem zonesAttend_restartLoss {s t : State} {l : LinkId} (h : zonesAttend (restartLoss s l) t l) : zonesAttend s t l := by
  obtain ⟨ms, active, quiet, zones⟩ := h
  rw [restartLoss_get] at quiet zones
  exact ⟨ms, active, quiet, zones⟩

theorem blockFront_attend (s : State) (l : LinkId) (f : LinkFrame) : zonesAttend s (blockFront s l f) l :=
  zonesAttend_restartLoss (lockedTaken_attend _ l f)

/-- An operation that leaves zones, monitors and time as they are leaves the zones attending. -/
theorem zonesAttend.next {s t u : State} {l : LinkId} (h : zonesAttend s t l) (ms : u.ms = t.ms)
    (monitors : u.monitors = t.monitors) (zones : u.zones = t.zones) : zonesAttend s u l := by
  unfold zonesAttend
  rw [ms, monitors, zones]
  exact h

/-! ## The end of a block -/

theorem blockEnd_step {s : State} {l : LinkId} (f : LinkFrame)
    (h : (s.links.get l).state = .locked ∨ (s.links.get l).state = .alignRead ∨ (s.links.get l).state = .recoverRead)
    (n : (s.links.get l).reading.length = 63) : exec (.blockEnd l f) s = .next (linkFrame s l f) :=
  congrArg Host.Outcome.next (if_pos (by rcases h with h | h | h <;> simp [blockEnding, h, n]))

theorem linkFrame_lastOfBlock {s : State} {l : LinkId} {f : LinkFrame} (h : (s.links.get l).state = .locked)
    (n : (s.links.get l).reading.length = 63) (short : f.longSync = false) :
    linkFrame s l f = lockedBlockEnd (blockFront s l f) l := by
  have full : ((blockFront s l f).links.get l).reading.length = 64 := by
    obtain ⟨code, hold, delivery, record⟩ := blockFront_kept s l f
    rw [record]
    simp [n]
  rw [linkFrame_locked f h, lockedFrame_onGrid (by simp [short])]
  exact if_pos full

theorem countSequence_eq (r : Link) (d : Descriptor) : r.countSequence d = { r with counters := { r.counters with
    sequence := if d.seq = r.expectedSeq then r.counters.sequence else r.counters.sequence.bump 1 } } := by
  unfold Link.countSequence
  split <;> rfl

/-- The link's record after a good block (R9, R10). -/
def Link.adopt (d : Descriptor) (r : Link) : Link :=
  { r with lastGood := some d, expectedSeq := d.seq + 1, errorRun := 0, reading := [], blockTicks := 0 }

/-- The link's record after a block with a descriptor in error (R8). -/
def Link.blockBad (r : Link) : Link :=
  { r.countDescriptor with expectedSeq := r.expectedSeq + 1, errorRun := r.errorRun + 1, reading := [], blockTicks := 0 }

/-- The announcement that a good block in LOCKED makes: of another format alone (R18). -/
def formatTurn (same : Bool) (l : LinkId) (s : State) : State := if same then s else announceFormat s l

theorem formatTurn_links (same : Bool) (l : LinkId) (s : State) : (formatTurn same l s).links = s.links := by
  cases same with
  | true => rfl
  | false =>
    obtain ⟨links, -⟩ := announceFormat_frame s l
    exact links

/-- The length of a block matches the rate that its link holds (R15). -/
def Link.inTime (r : Link) : Bool := (r.rate.map (Rate.isMatch r.blockTicks)).getD false

theorem lockedBlockEnd_good {s : State} {l : LinkId} {d : Descriptor} (inTime : (s.links.get l).inTime = true)
    (good : blockDescriptor (s.links.get l).rate (s.links.get l).reading = some d) : lockedBlockEnd s l =
      releaseGood (s.updLink l fun r => r.countSequence d) l d (s.links.get l).reading
        (formatTurn (decide ((s.links.get l).lastGood.map (·.format) = some d.format)) l) := by
  have matched : (((s.links.get l).rate.map (Rate.isMatch (s.links.get l).blockTicks)).getD false) = true := inTime
  unfold lockedBlockEnd formatTurn
  simp only [good, matched, decide_eq_true_eq]
  rfl

theorem lockedBlockEnd_mismatch {s : State} {l : LinkId} (late : (s.links.get l).inTime = false) :
    ∃ f, lockedBlockEnd s l = (s.updLink l f).announced l fun r => r.giveUp .measureCounting := by
  have mismatch : (((s.links.get l).rate.map (Rate.isMatch (s.links.get l).blockTicks)).getD false) = false := late
  cases h : blockDescriptor (s.links.get l).rate (s.links.get l).reading with
  | none =>
    refine ⟨Link.blockBad, ?_⟩
    unfold lockedBlockEnd
    simp only [h, mismatch]
    rfl
  | some d =>
    refine ⟨fun r => r.countSequence d, ?_⟩
    unfold lockedBlockEnd
    simp only [h, mismatch]
    rfl

theorem lockedBlockEnd_bad {s : State} {l : LinkId} (inTime : (s.links.get l).inTime = true)
    (bad : blockDescriptor (s.links.get l).rate (s.links.get l).reading = none) (few : (s.links.get l).errorRun < 2) :
    lockedBlockEnd s l = releaseBad (s.updLink l Link.blockBad) l (s.links.get l).reading := by
  have matched : (((s.links.get l).rate.map (Rate.isMatch (s.links.get l).blockTicks)).getD false) = true := inTime
  unfold lockedBlockEnd
  simp only [bad, matched, Bool.not_true, Bool.false_eq_true, if_false]
  exact if_neg (by omega)

theorem lockedBlockEnd_third {s : State} {l : LinkId} (inTime : (s.links.get l).inTime = true)
    (bad : blockDescriptor (s.links.get l).rate (s.links.get l).reading = none) (many : (s.links.get l).errorRun = 2) :
    lockedBlockEnd s l = enterRecover (s.updLink l Link.blockBad) l := by
  have matched : (((s.links.get l).rate.map (Rate.isMatch (s.links.get l).blockTicks)).getD false) = true := inTime
  unfold lockedBlockEnd
  simp only [bad, matched, Bool.not_true, Bool.false_eq_true, if_false]
  exact if_pos (by omega)

/-! ## A good block released -/

theorem releaseGood_other {s : State} {l : LinkId} {d : Descriptor} (fs : List RawFrame) (announce : State → State)
    (h : d.format ≠ .bsf) : releaseGood s l d fs announce =
      (announce (s.updLink l (Link.adopt d))).updLink l fun r => { r with delivery := some { desc := d, frames := fs } } := if_neg h

/-- The link's record after a good BSF block, its mantissas read (R4). -/
def Link.adoptBsf (d : Descriptor) (fs : List RawFrame) (r : Link) : Link :=
  { (r.adopt d).countCode (readMantissas d.map r.hold fs).2.2 with hold := (readMantissas d.map r.hold fs).2.1 }

/-- The unit that serves a link takes a BSF block of it. -/
def unitTurn (s : State) (l : LinkId) (d : Descriptor) (m : List MantissaFrame) : State :=
  match servingUnit s l with
  | some u => unitTakesBlock s u l d m
  | none => s

theorem releaseGood_bsf {s : State} {l : LinkId} {d : Descriptor} (fs : List RawFrame) (announce : State → State)
    (h : d.format = .bsf) : releaseGood s l d fs announce =
      monitorBlock (announce (unitTurn (s.updLink l (Link.adoptBsf d fs)) l d (readMantissas d.map (s.links.get l).hold fs).1)) l
        (bsfLoud d (readMantissas d.map (s.links.get l).hold fs).1) := by
  unfold releaseGood
  simp only [h, if_true]
  rfl

/-- A BSF block meets the record of its link in the BSF count alone (R48). -/
def Link.countsBsf (r x : Link) : Prop := ∃ bsf, x = { r with counters := { r.counters with bsf := bsf } }

theorem countsBsf_bump (r : Link) (n : Nat) :
    r.countsBsf { r with counters := { r.counters with bsf := r.counters.bsf.bump n } } := ⟨_, rfl⟩

theorem countBsf_link (s : State) (l : LinkId) (n : Nat) : (s.links.get l).countsBsf ((countBsf s l n).links.get l) := by
  rw [countBsf, State.updLink_get_self]
  exact countsBsf_bump _ n

theorem clearDecodeMute_frame (s : State) (u : UnitId) : zoneFrameKept s (clearDecodeMute s u) :=
  .forEach _ (by exact fun t z => autoZone_frame t z _) _ s

theorem unitTakesBlock_link (s : State) (u : UnitId) (l : LinkId) (d : Descriptor) (fs : List MantissaFrame) :
    (s.links.get l).countsBsf ((unitTakesBlock s u l d fs).links.get l) := by
  unfold unitTakesBlock
  dsimp only
  split
  · exact ⟨_, rfl⟩
  · split
    · exact countBsf_link s l _
    · exact countBsf_link s l _
  · split
    · obtain ⟨links, -⟩ := clearDecodeMute_frame (s.updUnit u (outputDecoded d fs)) u
      rw [links]
      exact ⟨_, rfl⟩
    · exact countBsf_link s l _

theorem unitTurn_link (s : State) (l : LinkId) (d : Descriptor) (m : List MantissaFrame) :
    (s.links.get l).countsBsf ((unitTurn s l d m).links.get l) := by
  unfold unitTurn
  split
  · exact unitTakesBlock_link s _ l d m
  · exact ⟨_, rfl⟩

theorem monitorBlock_links (s : State) (l : LinkId) (loud : Bool) : (monitorBlock s l loud).links = s.links := by
  rw [monitorBlock_eq, setMonitor_links]

/-! ## RECOVER -/

/-- The link's record at the entry to RECOVER (R15, R16). -/
def Link.recovering (now : Millis) (r : Link) : Link :=
  { r with state := .recoverSeek, stateTimer := some (newTimer now 50), reading := [], blockTicks := 0, delivery := none }

/-- The entry to RECOVER before its announcement: the unit that serves the link is silent (R43). -/
def recoverStart (s : State) (l : LinkId) : State :=
  match servingUnit (s.updLink l (Link.recovering s.ms)) l with
  | some u => unitSilent (s.updLink l (Link.recovering s.ms)) u false
  | none => s.updLink l (Link.recovering s.ms)

theorem enterRecover_eq (s : State) (l : LinkId) : enterRecover s l = announceState (recoverStart s l) l := rfl

theorem recoverStart_kept (s : State) (l : LinkId) : (recoverStart s l).links = (s.updLink l (Link.recovering s.ms)).links ∧
    (recoverStart s l).ms = s.ms ∧ (recoverStart s l).monitors = s.monitors ∧ (recoverStart s l).zones = s.zones := by
  unfold recoverStart
  split
  · exact ⟨rfl, rfl, rfl, rfl⟩
  · exact ⟨rfl, rfl, rfl, rfl⟩

theorem recoverStart_link (s : State) (l : LinkId) :
    (recoverStart s l).links.get l = (s.links.get l).recovering s.ms := by
  obtain ⟨links, -⟩ := recoverStart_kept s l
  rw [links, State.updLink_get_self]

theorem enterRecover_link (s : State) (l : LinkId) : (enterRecover s l).links.get l = (s.links.get l).recovering s.ms := by
  rw [enterRecover_eq, announceState_links, recoverStart_link]

/-- A link that enters RECOVER takes its monitor to NO_LINK, and the zones on it keep their binding (R30, R71, R78, R79). -/
theorem enterRecover_offLock {s t : State} {l : LinkId} (attend : zonesAttend s t l) :
    ((enterRecover t l).monitors.get l).state = .noLink ∧ zonesOffLock s (enterRecover t l) l := by
  obtain ⟨-, ms, monitors, zones⟩ := recoverStart_kept t l
  have off : ((recoverStart t l).links.get l).state ≠ .locked := by
    rw [recoverStart_link]
    exact fun e => nomatch e
  rw [enterRecover_eq]
  exact ⟨announceState_monitor_offLock off, announceState_zonesOffLock off (attend.next ms monitors zones)⟩

/-- Frames that reach the zones after their link has left LOCKED change nothing that is said of them (R16). -/
theorem zonesOffLock_passed {s t u : State} {l : LinkId} (h : zonesOffLock s t l) (passed : framesPass t u) :
    zonesOffLock s u l := by
  obtain ⟨⟨links, -⟩, took⟩ := passed
  intro z link bound
  have same := took_sansFrames (took z)
  obtain ⟨kept, signal, format, active, still, follow, locals⟩ := h z link bound
  have mutes {α : Type} (g : Mutes → α) (apart : ∀ m : Mutes, g { m with decode := false } = g m) :
      g (u.zones.get z).mutes = g (t.zones.get z).mutes := by
    have e : g { (u.zones.get z).mutes with decode := false } = g { (t.zones.get z).mutes with decode := false } :=
      (congrArg (fun x : Zone => g x.mutes) same :)
    rwa [apart, apart] at e
  have countdown : (u.zones.get z).countdown = (t.zones.get z).countdown := (congrArg Zone.countdown same :)
  have clock : (u.zones.get z).clockState = (t.zones.get z).clockState := (congrArg Zone.clockState same :)
  rw [links, countdown, clock, mutes Mutes.noSignal fun _ => rfl, mutes Mutes.format fun _ => rfl,
    mutes Mutes.rateMismatch fun _ => rfl]
  exact ⟨kept.trans (sansFrames_bindingKept same), signal, format, active, still, follow, locals⟩

end Sys2Proof.Machine
end

section
/-! The link after the end of a block in LOCKED: released, in error, or out of time. -/

namespace Sys2Proof.Machine

/-! ## What decides the end of a block -/

theorem blockFront_descriptor (s : State) (l : LinkId) (f : LinkFrame) :
    blockDescriptor ((blockFront s l f).links.get l).rate ((blockFront s l f).links.get l).reading =
      blockDescriptor (s.links.get l).rate ((s.links.get l).reading ++ [rawFrame f]) := by
  obtain ⟨code, hold, delivery, record⟩ := blockFront_kept s l f
  rw [record]

theorem blockFront_inTime {s : State} {l : LinkId} {r : Rate} (f : LinkFrame) (h : (s.links.get l).rate = some r) :
    ((blockFront s l f).links.get l).inTime = Rate.isMatch ((s.links.get l).blockTicks + f.ticks) r := by
  obtain ⟨code, hold, delivery, record⟩ := blockFront_kept s l f
  rw [record, Link.inTime]
  simp [h]

theorem blockFront_reading (s : State) (l : LinkId) (f : LinkFrame) :
    ((blockFront s l f).links.get l).reading = (s.links.get l).reading ++ [rawFrame f] := by
  obtain ⟨code, hold, delivery, record⟩ := blockFront_kept s l f
  rw [record]

theorem blockFront_lastGood (s : State) (l : LinkId) (f : LinkFrame) :
    ((blockFront s l f).links.get l).lastGood = (s.links.get l).lastGood := by
  obtain ⟨code, hold, delivery, record⟩ := blockFront_kept s l f
  rw [record]

theorem blockFront_errorRun (s : State) (l : LinkId) (f : LinkFrame) :
    ((blockFront s l f).links.get l).errorRun = (s.links.get l).errorRun := by
  obtain ⟨code, hold, delivery, record⟩ := blockFront_kept s l f
  rw [record]

/-- A link reads the last frame of a block in LOCKED. -/
def Link.lastOfBlock (f : LinkFrame) (r : Link) : Prop := r.state = .locked ∧ r.reading.length = 63 ∧ f.longSync = false

theorem linkFrame_lastOfBlock' {s : State} {l : LinkId} {f : LinkFrame} (h : (s.links.get l).lastOfBlock f) :
    linkFrame s l f = lockedBlockEnd (blockFront s l f) l := linkFrame_lastOfBlock h.1 h.2.1 h.2.2

/-- The block of a link ends with frame `f`, in time for rate `r`, and `next` is its descriptor when it is good. -/
def Link.endsWith (f : LinkFrame) (k : Rate) (next : Option Descriptor) (r : Link) : Prop :=
  r.lastOfBlock f ∧ r.rate = some k ∧ Rate.isMatch (r.blockTicks + f.ticks) k = true ∧
  blockDescriptor (some k) (r.reading ++ [rawFrame f]) = next

/-- The announcement that the good block of a link makes. -/
def Link.turns (d : Descriptor) (l : LinkId) (r : Link) : State → State :=
  formatTurn (decide (r.lastGood.map (·.format) = some d.format)) l

theorem turns_links (d : Descriptor) (l : LinkId) (r : Link) (s : State) : (r.turns d l s).links = s.links :=
  formatTurn_links _ l s

theorem linkFrame_goodBlock {s : State} {l : LinkId} {f : LinkFrame} {k : Rate} {d : Descriptor}
    (h : (s.links.get l).endsWith f k (some d)) : linkFrame s l f =
      releaseGood ((blockFront s l f).updLink l fun r => r.countSequence d) l d ((s.links.get l).reading ++ [rawFrame f])
        ((s.links.get l).turns d l) := by
  obtain ⟨last, rate, inTime, good⟩ := h
  rw [linkFrame_lastOfBlock' last,
    lockedBlockEnd_good ((blockFront_inTime f rate).trans inTime) ((blockFront_descriptor s l f).trans (by rw [rate, good])),
    blockFront_reading, blockFront_lastGood]
  rfl

theorem linkFrame_badBlock {s : State} {l : LinkId} {f : LinkFrame} {k : Rate}
    (h : (s.links.get l).endsWith f k none) (few : (s.links.get l).errorRun < 2) : linkFrame s l f =
      releaseBad ((blockFront s l f).updLink l Link.blockBad) l ((s.links.get l).reading ++ [rawFrame f]) := by
  obtain ⟨last, rate, inTime, bad⟩ := h
  rw [linkFrame_lastOfBlock' last,
    lockedBlockEnd_bad ((blockFront_inTime f rate).trans inTime) ((blockFront_descriptor s l f).trans (by rw [rate, bad]))
      (by rwa [blockFront_errorRun]), blockFront_reading]

theorem linkFrame_thirdError {s : State} {l : LinkId} {f : LinkFrame} {k : Rate}
    (h : (s.links.get l).endsWith f k none) (many : (s.links.get l).errorRun = 2) : linkFrame s l f =
      enterRecover ((blockFront s l f).updLink l Link.blockBad) l := by
  obtain ⟨last, rate, inTime, bad⟩ := h
  rw [linkFrame_lastOfBlock' last,
    lockedBlockEnd_third ((blockFront_inTime f rate).trans inTime) ((blockFront_descriptor s l f).trans (by rw [rate, bad]))
      (by rwa [blockFront_errorRun])]

theorem linkFrame_late {s : State} {l : LinkId} {f : LinkFrame} {k : Rate} (h : (s.links.get l).lastOfBlock f)
    (rate : (s.links.get l).rate = some k) (late : Rate.isMatch ((s.links.get l).blockTicks + f.ticks) k = false) :
    ∃ g, linkFrame s l f = ((blockFront s l f).updLink l g).announced l fun r => r.giveUp .measureCounting := by
  rw [linkFrame_lastOfBlock' h]
  exact lockedBlockEnd_mismatch ((blockFront_inTime f rate).trans late)

/-! ## The link after a good block -/

/-- What a good block leaves of its link's record, whatever its format (R9, R10). -/
def Link.afterGood (d : Descriptor) (r x : Link) : Prop :=
  x.state = r.state ∧ x.rate = r.rate ∧ x.lastGood = some d ∧ x.expectedSeq = d.seq + 1 ∧ x.errorRun = 0 ∧ x.reading = [] ∧
  x.counters.sequence = (if d.seq = r.expectedSeq then r.counters.sequence else r.counters.sequence.bump 1)

theorem goodBlock_other {s : State} {l : LinkId} {f : LinkFrame} {k : Rate} {d : Descriptor}
    (h : (s.links.get l).endsWith f k (some d)) (other : d.format ≠ .bsf) :
    (s.links.get l).afterGood d ((linkFrame s l f).links.get l) ∧ ((linkFrame s l f).links.get l).delivery =
      some { desc := d, frames := (s.links.get l).reading ++ [rawFrame f] } := by
  obtain ⟨code, hold, delivery, record⟩ := blockFront_kept s l f
  rw [linkFrame_goodBlock h, releaseGood_other _ _ other, State.updLink_get_self, turns_links, State.updLink_get_self,
    State.updLink_get_self, countSequence_eq, record]
  exact ⟨⟨rfl, rfl, rfl, rfl, rfl, rfl, rfl⟩, rfl⟩

theorem goodBlock_bsf {s : State} {l : LinkId} {f : LinkFrame} {k : Rate} {d : Descriptor}
    (h : (s.links.get l).endsWith f k (some d)) (bsf : d.format = .bsf) (none : (s.links.get l).delivery = none) :
    (s.links.get l).afterGood d ((linkFrame s l f).links.get l) ∧ ((linkFrame s l f).links.get l).delivery = .none ∧
      ((linkFrame s l f).links.get l).hold =
        (readMantissas d.map (s.links.get l).hold ((s.links.get l).reading ++ [rawFrame f])).2.1 := by
  obtain ⟨code, hold, delivery, record⟩ := blockFront_kept s l f
  obtain ⟨sameHold, undelivered⟩ := blockFront_undelivered f none
  rw [linkFrame_goodBlock h, releaseGood_bsf _ _ bsf, monitorBlock_links, turns_links]
  obtain ⟨count, counted⟩ := unitTurn_link (((blockFront s l f).updLink l fun r => r.countSequence d).updLink l
      (Link.adoptBsf d ((s.links.get l).reading ++ [rawFrame f]))) l d
    (readMantissas d.map (((blockFront s l f).updLink l fun r => r.countSequence d).links.get l).hold
      ((s.links.get l).reading ++ [rawFrame f])).1
  rw [counted, State.updLink_get_self, State.updLink_get_self, countSequence_eq]
  rw [record] at sameHold undelivered ⊢
  dsimp only at sameHold undelivered
  subst sameHold undelivered
  exact ⟨⟨rfl, rfl, rfl, rfl, rfl, rfl, rfl⟩, rfl, rfl⟩

/-! ## The link after a block in error -/

/-- What a block in error leaves of its link's record before it is decided what becomes of it (R8). -/
theorem badBlock_record (s : State) (l : LinkId) (f : LinkFrame) : ∃ code hold delivery,
    ((blockFront s l f).updLink l Link.blockBad).links.get l = { s.links.get l with
      lossTimer := some (newTimer s.ms (s.links.get l).lossWindow)
      counters := { (s.links.get l).counters with
        code := code, descriptor := (s.links.get l).counters.descriptor.bump 1 }
      hold := hold, delivery := delivery, reading := [], blockTicks := 0
      expectedSeq := (s.links.get l).expectedSeq + 1, errorRun := (s.links.get l).errorRun + 1 } := by
  obtain ⟨code, hold, delivery, record⟩ := blockFront_kept s l f
  rw [State.updLink_get_self, record]
  exact ⟨code, hold, delivery, rfl⟩

theorem releaseBad_other {s : State} {l : LinkId} {d : Descriptor} (fs : List RawFrame)
    (h : (s.links.get l).lastGood = some d) (other : d.format ≠ .bsf) : releaseBad s l fs =
      s.updLink l fun r => { r with delivery := some { desc := d, frames := fs } } := by simp [releaseBad, h, other]

/-- The unit that serves a link is silent for a block period (R43). -/
def unitQuiet (s : State) (l : LinkId) : State :=
  match servingUnit s l with
  | some u => unitSilent s u true
  | none => s

theorem releaseBad_bsf {s : State} {l : LinkId} {d : Descriptor} (fs : List RawFrame)
    (h : (s.links.get l).lastGood = some d) (bsf : d.format = .bsf) : releaseBad s l fs =
      monitorBlock (unitQuiet s l) l false := by
  simp only [releaseBad, h, bsf, if_true]
  rfl

theorem unitQuiet_frame (s : State) (l : LinkId) : zoneFrameKept s (unitQuiet s l) := by
  unfold unitQuiet
  split
  · exact updUnit_frame s _ _
  · exact .refl s

theorem releaseBad_link (s : State) (l : LinkId) (fs : List RawFrame) : ∃ delivery,
    (releaseBad s l fs).links.get l = { s.links.get l with delivery := delivery } ∧
    ∀ d, (s.links.get l).lastGood = some d →
      (d.format ≠ .bsf → delivery = some { desc := d, frames := fs }) ∧ (d.format = .bsf → delivery = (s.links.get l).delivery) := by
  rcases Option.eq_none_or_eq_some (s.links.get l).lastGood with h | ⟨d, h⟩
  · have kept : releaseBad s l fs = s := by simp [releaseBad, h]
    exact ⟨(s.links.get l).delivery, by rw [kept], fun d hd => nomatch h.symm.trans hd⟩
  · have is {e : Descriptor} (he : (s.links.get l).lastGood = some e) : e = d := Option.some.inj (he.symm.trans h)
    by_cases bsf : d.format = .bsf
    · obtain ⟨links, -⟩ := unitQuiet_frame s l
      refine ⟨(s.links.get l).delivery, ?_, fun e he => ?_⟩
      · rw [releaseBad_bsf fs h bsf, monitorBlock_links, links]
      · rw [is he]
        exact ⟨fun other => absurd bsf other, fun _ => rfl⟩
    · refine ⟨some { desc := d, frames := fs }, ?_, fun e he => ?_⟩
      · rw [releaseBad_other fs h bsf, State.updLink_get_self]
      · rw [is he]
        exact ⟨fun _ => rfl, fun e => absurd e bsf⟩

theorem blockBad_delivery (r : Link) : r.blockBad.delivery = r.delivery := rfl

theorem badBlock_link {s : State} {l : LinkId} {f : LinkFrame} {k : Rate} {d : Descriptor}
    (h : (s.links.get l).endsWith f k none) (few : (s.links.get l).errorRun < 2) (last : (s.links.get l).lastGood = some d) :
    ((linkFrame s l f).links.get l).state = (s.links.get l).state ∧ ((linkFrame s l f).links.get l).lastGood = some d ∧
      ((linkFrame s l f).links.get l).errorRun = (s.links.get l).errorRun + 1 ∧
      ((linkFrame s l f).links.get l).reading = [] ∧
      ((linkFrame s l f).links.get l).expectedSeq = (s.links.get l).expectedSeq + 1 ∧
      ((linkFrame s l f).links.get l).counters.descriptor = (s.links.get l).counters.descriptor.bump 1 ∧
      (d.format ≠ .bsf → ((linkFrame s l f).links.get l).delivery =
        some { desc := d, frames := (s.links.get l).reading ++ [rawFrame f] }) ∧
      (d.format = .bsf → (s.links.get l).delivery = none → ((linkFrame s l f).links.get l).delivery = none) := by
  have undelivered := blockFront_undelivered (s := s) (l := l) f
  obtain ⟨delivery, record, released⟩ := releaseBad_link ((blockFront s l f).updLink l Link.blockBad) l
    ((s.links.get l).reading ++ [rawFrame f])
  have front : (((blockFront s l f).updLink l Link.blockBad).links.get l).delivery =
      ((blockFront s l f).links.get l).delivery := by rw [State.updLink_get_self, blockBad_delivery]
  obtain ⟨code, hold, waits, bad⟩ := badBlock_record s l f
  rw [front] at released
  rw [bad] at record released
  obtain ⟨other, bsf⟩ := released d last
  rw [linkFrame_badBlock h few, record]
  exact ⟨rfl, last, rfl, rfl, rfl, rfl, other, fun e none => (bsf e).trans (undelivered none).2⟩

/-! ## The link that leaves LOCKED -/

/-- What the third descriptor error in a row does (R8, R15, R16). -/
theorem thirdError_recovers {s : State} {l : LinkId} {f : LinkFrame} {k : Rate} (h : (s.links.get l).endsWith f k none)
    (many : (s.links.get l).errorRun = 2) :
    ((linkFrame s l f).links.get l).state = .recoverSeek ∧
      ((linkFrame s l f).links.get l).stateTimer = some { start := s.ms, len := 50 } ∧
      ((linkFrame s l f).links.get l).rate = (s.links.get l).rate ∧
      ((linkFrame s l f).links.get l).lastGood = (s.links.get l).lastGood ∧
      ((linkFrame s l f).links.get l).delivery = none ∧
      ((linkFrame s l f).links.get l).counters.descriptor = (s.links.get l).counters.descriptor.bump 1 ∧
      ((linkFrame s l f).monitors.get l).state = .noLink ∧ zonesOffLock s (linkFrame s l f) l := by
  obtain ⟨-, -, -, -, -, ms, -⟩ := blockFront_around s l f
  obtain ⟨code, hold, delivery, record⟩ := badBlock_record s l f
  have attend : zonesAttend s ((blockFront s l f).updLink l Link.blockBad) l := (blockFront_attend s l f).next rfl rfl rfl
  obtain ⟨monitor, zones⟩ := enterRecover_offLock attend
  have now : ((blockFront s l f).updLink l Link.blockBad).ms = s.ms := ms
  rw [linkFrame_thirdError h many, enterRecover_link, record, now]
  exact ⟨rfl, rfl, rfl, rfl, rfl, rfl, monitor, zones⟩

/-- What a block whose length does not match the rate does (R15). -/
theorem lateBlock_measures {s : State} {l : LinkId} {f : LinkFrame} {k : Rate} (h : (s.links.get l).lastOfBlock f)
    (rate : (s.links.get l).rate = some k) (late : Rate.isMatch ((s.links.get l).blockTicks + f.ticks) k = false) :
    ((linkFrame s l f).links.get l).state = .measureCounting ∧ ((linkFrame s l f).links.get l).cleared ∧
      ((linkFrame s l f).monitors.get l).state = .noLink ∧ zonesOffLock s (linkFrame s l f) l := by
  obtain ⟨g, done⟩ := linkFrame_late h rate late
  have attend : zonesAttend s ((blockFront s l f).updLink l g) l := (blockFront_attend s l f).next rfl rfl rfl
  rw [done, announced_link]
  exact ⟨rfl, giveUp_cleared _ _, announced_monitor nofun, announced_zonesOffLock nofun attend⟩

/-- What a long sync off the grid does (R15, R16; log 19). -/
theorem offGrid_recovers {s : State} {l : LinkId} {f : LinkFrame} (h : (s.links.get l).state = .locked)
    (reading : (s.links.get l).reading ≠ []) (long : f.longSync = true) :
    ((linkFrame s l f).links.get l).state = .recoverSeek ∧
      ((linkFrame s l f).links.get l).stateTimer = some { start := s.ms, len := 50 } ∧
      ((linkFrame s l f).links.get l).rate = (s.links.get l).rate ∧
      ((linkFrame s l f).links.get l).lastGood = (s.links.get l).lastGood ∧
      ((linkFrame s l f).links.get l).delivery = none ∧ ((linkFrame s l f).links.get l).reading = [] ∧
      ((linkFrame s l f).links.get l).counters = (s.links.get l).counters ∧
      ((linkFrame s l f).monitors.get l).state = .noLink ∧ zonesOffLock s (linkFrame s l f) l := by
  have passed := recoverZero_passes (enterRecover (restartLoss s l) l) l
  have ⟨⟨links, monitors, _⟩, _⟩ := passed
  have attend : zonesAttend s (restartLoss s l) l := zonesAttend_restartLoss (.refl _ l)
  obtain ⟨monitor, zones⟩ := enterRecover_offLock attend
  have ms : (restartLoss s l).ms = s.ms := rfl
  rw [linkFrame_locked f h, lockedFrame_offGrid long (by rwa [restartLoss_get]), links, monitors, enterRecover_link,
    restartLoss_get, ms]
  exact ⟨rfl, rfl, rfl, rfl, rfl, rfl, rfl, monitor, zonesOffLock_passed zones passed⟩

end Sys2Proof.Machine
end

section
/-! The zones on a link in LOCKED when its state or format is announced and they do not rebind (R71, R78, R79). -/

namespace Sys2Proof.Machine

/-! ## A zone that goes on -/

/-- A zone that fades goes on with it at a rebind cause (R68). -/
theorem rebindCause_fading {s : State} {z : ZoneId} (power : (s.zones.get z).power ≠ .starting)
    (path : (s.zones.get z).path = .fading) : rebindCause s z = s := by
  unfold rebindCause
  dsimp only
  rw [path]
  cases h : (s.zones.get z).power with
  | starting => exact absurd h power
  | standby => rfl
  | on => rfl
  | rampDown => rfl
  | drain => rfl

/-- The zone does not leave its binding when link `x` is announced: its rate stands, or it fades already. -/
def Zone.goesOn (x : Link) (r : Zone) : Prop := rateChanged x r = true → r.power ≠ .starting ∧ r.path = .fading

theorem goesOn_congr {x : Link} {r y : Zone} (h : y.sansArbiter = r.sansArbiter) (k : r.goesOn x) : y.goesOn x := by
  have apart (r : Zone) : r.goesOn x = r.sansArbiter.goesOn x := rfl
  rw [apart, h, ← apart]
  exact k

theorem goesOn_onLink {x : Link} {r : Zone} (h : r.goesOn x) : (r.onLink x).goesOn x := by
  rw [Zone.onLink_eq]
  exact h

/-- The record of a zone that goes on when its link has come to another state or format. -/
theorem zoneOnLink_goesOn {l : LinkId} {s : State} {z : ZoneId} (h : (s.zones.get z).link = some l)
    (go : (s.zones.get z).goesOn (s.links.get l)) : zoneOnLink l s z = s.autoZone z (Zone.onLink (s.links.get l)) := by
  rw [zoneOnLink_on h]
  have record := autoZone_zone_sansArbiter s z (Zone.onLink (s.links.get l))
  have changed := rateChanged_onLink s z (s.links.get l)
  generalize s.autoZone z (Zone.onLink (s.links.get l)) = t at record changed ⊢
  split
  next moved =>
    obtain ⟨power, path⟩ := goesOn_congr record (goesOn_onLink go) (changed.trans moved)
    exact rebindCause_fading power path
  · rfl

theorem announceFormat_goesOn {s : State} {l : LinkId} {z : ZoneId} (h : (s.zones.get z).link = some l)
    (go : (s.zones.get z).goesOn (s.links.get l)) :
    ((announceFormat s l).zones.get z).sansArbiter = ((s.zones.get z).onLink (s.links.get l)).sansArbiter := by
  obtain ⟨u, before, after⟩ := announceFormat_turn s l z
  have links : u.links = s.links := (congrArg State.links before :)
  have record := about_zone before
  have onLink : (u.zones.get z).link = some l := (sansArbiter_link record).trans h
  rw [about_zone after, zoneOnLink_goesOn onLink (by rw [links]; exact goesOn_congr record go), autoZone_zone_sansArbiter, links]
  exact Zone.onLink_sansArbiter _ record

/-- A zone's record after its link in LOCKED was announced and it went on (R71, R78, R79). -/
theorem onLink_locked {x : Link} {r y : Zone} (h : x.state = .locked) (e : y.sansArbiter = (r.onLink x).sansArbiter) :
    r.bindingKept y ∧ y.mutes.noSignal = false ∧ y.mutes.format = x.unplayable ∧ y.path = r.path ∧ y.qr = r.qr ∧
      (r.clockInEffect = .follow → y.clockState = (if x.rate = some r.rate then .lockedToSource else .holdover) ∧
        y.mutes.rateMismatch = false) ∧
      ∀ k, ((r.clockInEffect = .local48 ∧ k = .r48) ∨ (r.clockInEffect = .local44 ∧ k = .r44)) →
        y.clockState = r.clockState ∧ y.mutes.rateMismatch = decide (x.rate ≠ some k) := by
  rw [Zone.onLink_eq] at e
  have clock : y.clockState = if r.clockInEffect = .follow then
      (if x.state = .locked ∧ x.rate = some r.rate then .lockedToSource else .holdover) else r.clockState :=
    (congrArg Zone.clockState e :)
  have mismatch : y.mutes.rateMismatch = rateMismatch x r := (congrArg (fun r : Zone => r.mutes.rateMismatch) e :)
  have signal : y.mutes.noSignal = decide (x.state ≠ .locked) := (congrArg (fun r : Zone => r.mutes.noSignal) e :)
  have format : y.mutes.format = (linkMutes x r).format := (congrArg (fun r : Zone => r.mutes.format) e :)
  refine ⟨⟨(congrArg Zone.bound e :), (congrArg Zone.copy e :), (congrArg Zone.clockInEffect e :), (congrArg Zone.rate e :)⟩,
    signal.trans (by simp [h]), format.trans (linkMutes_format _ _), (congrArg Zone.path e :), (congrArg Zone.qr e :),
    fun hf => ?_, fun k hk => ?_⟩
  · rw [clock, mismatch, if_pos hf]
    simp [h, rateMismatch, hf, ClockMode.localRate]
  · obtain ⟨localRate, notFollow⟩ := localRate_of hk
    rw [clock, mismatch, if_neg notFollow]
    exact ⟨rfl, by simp [rateMismatch, localRate, h, LinkState.carries]⟩

/-! ## The end of a block at another format -/

theorem isBound_ne_standby {p : Power} (h : p.isBound = true) : p ≠ .standby := fun e => by
  rw [e] at h
  exact absurd h (by decide)

theorem blockFront_zone (s : State) (l : LinkId) (f : LinkFrame) {z : ZoneId} (h : (s.zones.get z).power.isBound = true) :
    ∃ c, Zone.took 2 { s.zones.get z with countdown := c } ((blockFront s l f).zones.get z) := by
  obtain ⟨c, took, -⟩ := lockedTaken_zone (restartLoss s l) l f (z := z) (isBound_ne_standby h)
  exact ⟨c, took⟩

theorem clearDecodeMute_sansArbiter (s : State) (u : UnitId) : (clearDecodeMute s u).sansArbiter = s.sansArbiter :=
  State.forEach_field State.sansArbiter _ (by exact fun t z => autoZone_sansArbiter t z rfl) _ s

/-- A BSF block meets a zone in its DECODE alone (R55). -/
theorem unitTurn_zone (s : State) (l : LinkId) (d : Descriptor) (m : List MantissaFrame) (z : ZoneId) :
    ((unitTurn s l d m).zones.get z).sansArbiter = (s.zones.get z).sansArbiter := by
  unfold unitTurn
  split
  · unfold unitTakesBlock
    dsimp only
    split
    · rfl
    · split
      · rfl
      · rfl
    · split
      · exact sansArbiter_zone (clearDecodeMute_sansArbiter _ _) z
      · rfl
  · rfl

/-- What the end of a block at another format does to a zone on the link that goes on (R71). -/
def Zone.formatTurned (d : Descriptor) (r x : Zone) : Prop :=
  r.bindingKept x ∧ x.mutes.noSignal = false ∧ x.mutes.format = d.format.isUnplayable ∧ (r.path = .playing → x.path = .playing)

theorem formatTurned_congr {d : Descriptor} {r x y : Zone} {c : Option Timer}
    (h : y.sansArbiter = { x with countdown := c }.sansArbiter) (k : r.formatTurned d x) : r.formatTurned d y := by
  have apart (x : Zone) : r.formatTurned d x = r.formatTurned d x.sansArbiter := rfl
  rw [apart, h, ← apart]
  exact k

/-- What frames and a countdown leave of a zone's record. -/
theorem took_kept {n : Nat} {r y : Zone} {c : Option Timer} (took : Zone.took n { r with countdown := c } y) :
    r.bindingKept y ∧ y.link = r.link ∧ y.power = r.power := by
  have same := took_sansFrames took
  exact ⟨(sansFrames_bindingKept same :), (congrArg Zone.link same :), (congrArg Zone.power same :)⟩

/-- A zone that took frames goes on where it did before. -/
theorem goesOn_took {n : Nat} {x : Link} {r y : Zone} {c : Option Timer} (took : Zone.took n { r with countdown := c } y)
    (go : r.goesOn x) : y.goesOn x := by
  obtain ⟨⟨-, -, clock, rate⟩, -, power⟩ := took_kept took
  have changed : rateChanged x y = rateChanged x r := by rw [rateChanged, rateChanged, clock, rate]
  intro moved
  obtain ⟨running, fading⟩ := go (changed.symm.trans moved)
  exact ⟨by rwa [power], (took_path took (by rw [fading]; decide)).trans fading⟩

/-- A zone that took frames and then went on when its link was announced at another format. -/
theorem formatTurned_of {d : Descriptor} {n : Nat} {x : Link} {r y w : Zone} {c : Option Timer} (state : x.state = .locked)
    (last : x.lastGood = some d) (took : Zone.took n { r with countdown := c } y)
    (told : w.sansArbiter = (y.onLink x).sansArbiter) : r.formatTurned d w ∧ w.power = r.power := by
  obtain ⟨kept, -, power⟩ := took_kept took
  obtain ⟨binding, signal, format, path, -⟩ := onLink_locked state told
  have same : w.power = y.power := by
    rw [Zone.onLink_eq] at told
    exact (congrArg Zone.power told :)
  refine ⟨⟨kept.trans binding, signal, format.trans (by simp [Link.unplayable, last]), fun playing => ?_⟩, same.trans power⟩
  rw [path, took_path took (by rw [playing]; decide)]
  exact playing

theorem announceFormat_turned {v : State} {l : LinkId} {z : ZoneId} {d : Descriptor} {n : Nat} {r : Zone} {c : Option Timer}
    (took : Zone.took n { r with countdown := c } (v.zones.get z)) (link : r.link = some l)
    (go : r.goesOn (v.links.get l)) (state : (v.links.get l).state = .locked) (last : (v.links.get l).lastGood = some d) :
    r.formatTurned d ((announceFormat v l).zones.get z) ∧ ((announceFormat v l).zones.get z).power = r.power := by
  obtain ⟨-, onLink, -⟩ := took_kept took
  exact formatTurned_of state last took (announceFormat_goesOn (onLink.trans link) (goesOn_took took go))

/-- The end of a good BSF block from the announcement on: the monitor meets a zone in its countdown alone. -/
theorem monitorBlock_turned {v : State} {l : LinkId} {z : ZoneId} {d : Descriptor} {r : Zone} (loud : Bool)
    (bound : r.power.isBound = true) (h : r.formatTurned d (v.zones.get z) ∧ (v.zones.get z).power = r.power) :
    r.formatTurned d ((monitorBlock v l loud).zones.get z) := by
  obtain ⟨turned, power⟩ := h
  obtain ⟨c, final, -⟩ := setMonitor_zone v l ((v.monitors.get l).heardBlock v.ms loud) (z := z)
    (by rw [power]; exact isBound_ne_standby bound)
  rw [monitorBlock_eq]
  exact formatTurned_congr final turned

/-- The record of a link as a good block has left it when the block is announced. -/
def Link.heldGood (d : Descriptor) (r x : Link) : Prop := x.state = r.state ∧ x.rate = r.rate ∧ x.lastGood = some d

theorem goodBlock_held (s : State) (l : LinkId) (f : LinkFrame) (d : Descriptor) (g : Link → Link)
    (hg : ∀ r : Link, r.heldGood d (g r)) :
    (s.links.get l).heldGood d ((((blockFront s l f).updLink l fun r => r.countSequence d).updLink l g).links.get l) := by
  obtain ⟨code, hold, delivery, record⟩ := blockFront_kept s l f
  rw [State.updLink_get_self, State.updLink_get_self, countSequence_eq, record]
  obtain ⟨state, rate, last⟩ := hg { s.links.get l with
      lossTimer := some (newTimer s.ms (s.links.get l).lossWindow)
      counters := { (s.links.get l).counters with
        code := code
        sequence := if d.seq = (s.links.get l).expectedSeq then (s.links.get l).counters.sequence
          else (s.links.get l).counters.sequence.bump 1 }
      hold := hold, delivery := delivery
      reading := (s.links.get l).reading ++ [rawFrame f], blockTicks := (s.links.get l).blockTicks + f.ticks }
  exact ⟨state, rate, last⟩

theorem heldGood_countsBsf {d : Descriptor} {r x y : Link} (h : r.heldGood d x) (k : x.countsBsf y) : r.heldGood d y := by
  obtain ⟨bsf, rfl⟩ := k
  exact h

/-- What the end of a block at another format does to a zone that goes on, be the block for its unit or not (R71). -/
theorem formatTurn_zone {s : State} {l : LinkId} {f : LinkFrame} {k : Rate} {d : Descriptor} {z : ZoneId}
    (h : (s.links.get l).endsWith f k (some d)) (other : (s.links.get l).lastGood.map (·.format) ≠ some d.format)
    (link : (s.zones.get z).link = some l) (bound : (s.zones.get z).power.isBound = true)
    (go : (s.zones.get z).clockInEffect = .follow →
      (s.zones.get z).rate = k ∨ ((s.zones.get z).power ≠ .starting ∧ (s.zones.get z).path = .fading)) :
    (s.zones.get z).formatTurned d ((linkFrame s l f).zones.get z) := by
  obtain ⟨c, took⟩ := blockFront_zone s l f bound
  have turns : (s.links.get l).turns d l = fun s => announceFormat s l := by
    funext t
    simp [Link.turns, formatTurn, other]
  have ⟨⟨locked, _⟩, ofRate, _⟩ := h
  have onward {x : Link} (hx : (s.links.get l).heldGood d x) : (s.zones.get z).goesOn x ∧ x.state = .locked ∧ x.lastGood = some d := by
    obtain ⟨state, rate, last⟩ := hx
    refine ⟨fun moved => ?_, state.trans locked, last⟩
    obtain ⟨follow, -, differs⟩ := of_decide_eq_true moved
    exact (go follow).resolve_left fun e => differs ((rate.trans ofRate).trans (congrArg some e.symm))
  rw [linkFrame_goodBlock h, turns]
  by_cases bsf : d.format = .bsf
  · rw [releaseGood_bsf _ _ bsf]
    generalize (readMantissas d.map _ _).1 = m
    have held := goodBlock_held s l f d (Link.adoptBsf d ((s.links.get l).reading ++ [rawFrame f])) fun _ => ⟨rfl, rfl, rfl⟩
    have zone : ((((blockFront s l f).updLink l fun r => r.countSequence d).updLink l
      (Link.adoptBsf d ((s.links.get l).reading ++ [rawFrame f]))).zones.get z) = (blockFront s l f).zones.get z := rfl
    generalize ((blockFront s l f).updLink l fun r => r.countSequence d).updLink l
      (Link.adoptBsf d ((s.links.get l).reading ++ [rawFrame f])) = v at held zone ⊢
    obtain ⟨going, state, last⟩ := onward (heldGood_countsBsf held (unitTurn_link v l d m))
    rw [← zone] at took
    have unit : (v.zones.get z).took 0 ((unitTurn v l d m).zones.get z) := took_of_sansArbiter (unitTurn_zone v l d m z)
    exact monitorBlock_turned _ bound (announceFormat_turned (took.trans unit) link going state last)
  · rw [releaseGood_other _ _ bsf]
    have held := goodBlock_held s l f d (Link.adopt d) fun _ => ⟨rfl, rfl, rfl⟩
    have zone : ((((blockFront s l f).updLink l fun r => r.countSequence d).updLink l (Link.adopt d)).zones.get z) =
      (blockFront s l f).zones.get z := rfl
    generalize ((blockFront s l f).updLink l fun r => r.countSequence d).updLink l (Link.adopt d) = v at held zone ⊢
    obtain ⟨going, state, last⟩ := onward held
    rw [← zone] at took
    have turned := (announceFormat_turned took link going state last).1
    rw [updLink_zones]
    exact turned

end Sys2Proof.Machine
end

section
/-! An offer to MAIN of a link that a decode unit serves: MAIN joins the unit, and units and other zones stand. -/

namespace Sys2Proof.Machine

/-- An operation of zone `z` that leaves the units and the other zones' records as they are. -/
def zoneAlone (s t : State) (z : ZoneId) : Prop := t.units = s.units ∧ ∀ y, z ≠ y → t.zones.get y = s.zones.get y

theorem zoneAlone.refl (s : State) (z : ZoneId) : zoneAlone s s z := ⟨rfl, fun _ _ => rfl⟩

theorem zoneAlone.trans {s t u : State} {z : ZoneId} (h : zoneAlone s t z) (k : zoneAlone t u z) : zoneAlone s u z :=
  ⟨k.1.trans h.1, fun y hy => (k.2 y hy).trans (h.2 y hy)⟩

theorem zoneAlone_of_zones {s t : State} (z : ZoneId) (units : t.units = s.units) (zones : t.zones = s.zones) :
    zoneAlone s t z := ⟨units, fun _ _ => by rw [zones]⟩

theorem updZone_alone (s : State) (z : ZoneId) (f : Zone → Zone) : zoneAlone s (s.updZone z f) z :=
  ⟨rfl, fun _ h => State.updZone_get_of_ne s f h⟩

theorem autoZone_alone (s : State) (z : ZoneId) (f : Zone → Zone) : zoneAlone s (s.autoZone z f) z := updZone_alone s z _

theorem raise_alone (s : State) (f : Flag) (z : ZoneId) : zoneAlone s (s.raise f) z := .refl s z

theorem setDecode_alone (s : State) (z : ZoneId) (pos : DecodePos) : zoneAlone s (setDecode s z pos) z := by
  refine ⟨setDecode_units s z pos, fun y h => ?_⟩
  rw [setDecode_zones]
  exact State.autoZone_get_of_ne s _ h

/-! ## The output stage -/

theorem presentChannel_units (z : ZoneId) (s : State) (c : Chan) : (presentChannel z s c).units = s.units := by
  unfold presentChannel
  split
  · split <;> rfl
  · split <;> rfl

theorem beginPairPeriod_units (z : ZoneId) (s : State) (q : PairId) : (beginPairPeriod z s q).units = s.units := by
  unfold beginPairPeriod
  split <;> rfl

theorem beginFrame_alone (s : State) (z : ZoneId) (m : DriveMode) : zoneAlone s (beginFrame s z m) z := by
  refine ⟨?_, fun y h => ?_⟩
  · exact (State.forEach_field State.units _ (beginPairPeriod_units z) _ _).trans
      (State.forEach_field State.units _ (presentChannel_units z) _ _)
  · rw [beginFrame_zones]
    exact State.updZone_get_of_ne s _ h

theorem handDrive_alone (s : State) (z : ZoneId) (m : DriveMode) : zoneAlone s (handDrive s z m) z := by
  unfold handDrive
  dsimp only
  split
  · exact (updZone_alone s z _).trans (beginFrame_alone _ z m)
  · exact updZone_alone s z _

theorem zeroDuties_alone (s : State) (y z : ZoneId) : zoneAlone s (zeroDuties s y) z :=
  zoneAlone_of_zones z (State.forEach_field State.units _ (by exact fun _ _ => rfl) _ s) (zeroDuties_zones s y)

theorem restartCarrier_alone (s : State) (z : ZoneId) : zoneAlone s (restartCarrier s z) z := by
  unfold restartCarrier
  dsimp only
  split
  · exact .refl s z
  · exact beginFrame_alone s z _

theorem bindCarrier_alone (s : State) (z : ZoneId) (old : Rate) : zoneAlone s (bindCarrier s z old) z := by
  unfold bindCarrier
  split
  · split
    · exact .refl s z
    · exact zeroDuties_alone s z z
  · exact (zeroDuties_alone s z z).trans (restartCarrier_alone _ z)

theorem primeDelays_alone (s : State) (z : ZoneId) : zoneAlone s (primeDelays s z) z :=
  zoneAlone_of_zones z (State.forEach_field State.units _ (by exact fun _ _ => rfl) _ s) (primeDelays_zones s z)

theorem allocateZone_alone (s : State) (z : ZoneId) : zoneAlone s (allocateZone s z) z := by
  rw [allocateZone_eq]
  split
  · exact (updZone_alone s z _).trans (raise_alone _ _ z)
  · exact updZone_alone s z _

/-! ## The binding -/

theorem bindingTaken_alone (s : State) (z : ZoneId) (rebind : Bool) : zoneAlone s (bindingTaken s z rebind) z :=
  (autoZone_alone s z _).trans (autoZone_alone _ z _)

theorem bindingEntered_alone (s : State) (z : ZoneId) : zoneAlone s (bindingEntered s z) z := by
  rw [bindingEntered_eq]
  exact (allocateZone_alone s z).trans (autoZone_alone _ z _)

theorem bindCountdown_alone (s : State) (z : ZoneId) : zoneAlone s (bindCountdown s z) z :=
  (updZone_alone s z _).trans (updZone_alone _ z _)

/-- A binding whose arbiter turn leaves units and other zones leaves them as a whole. -/
theorem bindZone_alone {s : State} {z : ZoneId} {rebind : Bool}
    (placed : zoneAlone (bindingTaken s z rebind) (bindingPlaced s z rebind) z) : zoneAlone s (bindZone s z rebind) z := by
  have start := (bindingTaken_alone s z rebind).trans placed
  rw [bindZone_eq]
  generalize bindingPlaced s z rebind = t at start ⊢
  exact ((((start.trans (bindingEntered_alone t z)).trans (primeDelays_alone _ z)).trans (bindCarrier_alone _ z _)).trans
    (bindCountdown_alone _ z)).trans (raise_alone _ _ z)

theorem bindRecord_decode (s : State) (r : Zone) : (bindRecord s r).decode = r.decode := by
  cases h : (takeCopy s.sources r).link with
  | none => rw [bindRecord_unlinked h, bindClock_kept]; rfl
  | some l => rw [bindRecord_linked h, bindClock_kept]; rfl

/-- A zone written by itself keeps its decode position when the write does. -/
theorem autoZone_decode {s : State} {z : ZoneId} {f : Zone → Zone} (h : ∀ r, (f r).decode = r.decode) :
    ((s.autoZone z f).zones.get z).decode = (s.zones.get z).decode := by
  rw [State.autoZone_get_self]
  split
  · exact h _
  · exact h _

theorem bindingTaken_decode (s : State) (z : ZoneId) : ((bindingTaken s z false).zones.get z).decode = (s.zones.get z).decode := by
  rw [bindingTaken_eq, autoZone_decode (bindRecord_decode _), autoZone_decode (f := Zone.yielded false) fun _ => rfl]

/-- A zone with no decode position comes to a link that a unit serves. -/
theorem rebindDecode_served {s : State} {z : ZoneId} {old : Option LinkId} {l : LinkId} {u : UnitId}
    (need : linkNeedsDecode s l = true) (idle : (s.zones.get z).decode = .none) (served : servingUnit s l = some u) :
    rebindDecode s z old (some l) = setDecode s z (.attached u) := by
  have released : releaseDecode s z = s := by simp [releaseDecode, idle]
  simp [rebindDecode, need, idle, released, placeDecode, served]

theorem linkNeedsDecode_congr {s t : State} (h : t.links = s.links) (l : LinkId) : linkNeedsDecode t l = linkNeedsDecode s l := by
  rw [linkNeedsDecode, linkNeedsDecode, h]

theorem servingUnit_congr {s t : State} (h : t.units = s.units) (l : LinkId) : servingUnit t l = servingUnit s l := by
  rw [servingUnit, servingUnit, h]

/-- MAIN, with no decode position, binds an entry of a link that a unit serves. -/
theorem bindZone_served {s : State} {z : ZoneId} {i : SrcId} {l : LinkId} {u : UnitId}
    (selected : (s.zones.get z).selected = some i) (input : (s.sources.get i).input = some l)
    (need : linkNeedsDecode s l = true) (idle : (s.zones.get z).decode = .none) (served : servingUnit s l = some u) :
    zoneAlone s (bindZone s z false) z := by
  have frame : zoneFrameKept s (bindingTaken s z false) := (autoZone_frame s z _).trans (autoZone_frame _ z _)
  have alone := bindingTaken_alone s z false
  have taken := bindingTaken_zone s z false
  have position := bindingTaken_decode s z
  have placed : bindingPlaced s z false = rebindDecode (bindingTaken s z false) z (s.zones.get z).link
    ((bindingTaken s z false).zones.get z).link := rfl
  refine bindZone_alone ?_
  rw [placed]
  generalize bindingTaken s z false = t at frame alone taken position ⊢
  obtain ⟨links, -⟩ := frame
  obtain ⟨-, copy, -⟩ := taken
  have link : (t.zones.get z).link = some l := by
    rw [Zone.link, copy]
    simp [selected, input]
  rw [link, rebindDecode_served ((linkNeedsDecode_congr links l).trans need) (position.trans idle)
    ((servingUnit_congr alone.1 l).trans served)]
  exact setDecode_alone t z _

theorem handDrive_zone (s : State) (z : ZoneId) (m : DriveMode) :
    ((handDrive s z m).zones.get z).selected = (s.zones.get z).selected ∧
      ((handDrive s z m).zones.get z).decode = (s.zones.get z).decode ∧ ((handDrive s z m).zones.get z).drive = m := by
  unfold handDrive
  dsimp only
  split
  · rw [beginFrame_zones, State.updZone_get_self, State.updZone_get_self]
    exact ⟨rfl, rfl, rfl⟩
  · rw [State.updZone_get_self]
    exact ⟨rfl, rfl, rfl⟩

theorem powerUpZone_served {s : State} {z : ZoneId} {i : SrcId} {l : LinkId} {u : UnitId}
    (selected : (s.zones.get z).selected = some i) (input : (s.sources.get i).input = some l)
    (need : linkNeedsDecode s l = true) (idle : (s.zones.get z).decode = .none) (served : servingUnit s l = some u) :
    zoneAlone s (powerUpZone s z) z := by
  have drive := handDrive_alone s z .centre
  obtain ⟨select, position, -⟩ := handDrive_zone s z .centre
  obtain ⟨links, -, sources, -⟩ := handDrive_frame s z .centre
  unfold powerUpZone
  generalize handDrive s z .centre = t at drive select position links sources ⊢
  have bound := bindZone_served (select.trans selected) (by rw [sources]; exact input) ((linkNeedsDecode_congr links l).trans need)
    (position.trans idle) ((servingUnit_congr drive.1 l).trans served)
  exact (drive.trans bound).trans (autoZone_alone _ z _)

/-- The entry that MAIN takes names the link and has auto-on yes, and no lower one does (R35). -/
theorem autoOnEntry_input {s : State} {l : LinkId} {i : SrcId} (h : autoOnEntry s l = some i) :
    (s.sources.get i).input = some l ∧ (s.sources.get i).autoOn = true := by
  have found := List.find?_some h
  simpa using found

/-- An offer of a link that a unit serves leaves the units and the zones but MAIN. -/
theorem offerAutoOn_served {s : State} {l : LinkId} {u : UnitId} (need : linkNeedsDecode s l = true)
    (served : servingUnit s l = some u) (idle : (s.zones.get 0).power = .standby → (s.zones.get 0).decode = .none) :
    zoneAlone s (offerAutoOn s l) 0 := by
  unfold offerAutoOn
  split
  next standby =>
    split
    next i found =>
      obtain ⟨input, -⟩ := autoOnEntry_input found
      have select := updZone_alone s 0 fun r => { r with selected := some i }
      have zone : (s.updZone 0 fun r => { r with selected := some i }).zones.get 0 = { s.zones.get 0 with selected := some i } :=
        State.updZone_get_self s 0 _
      obtain ⟨links, -, sources, -⟩ := updZone_frame s 0 fun r => { r with selected := some i }
      generalize (s.updZone 0 fun r => { r with selected := some i }) = t at select zone links sources ⊢
      have selected : (t.zones.get 0).selected = some i := by rw [zone]
      have position : (t.zones.get 0).decode = .none := by rw [zone]; exact idle standby
      exact ((select.trans (powerUpZone_served selected (by rw [sources]; exact input)
        ((linkNeedsDecode_congr links l).trans need) position ((servingUnit_congr select.1 l).trans served))).trans
          (updZone_alone _ 0 _)).trans (raise_alone _ _ 0)
    · exact .refl s 0
  · exact .refl s 0

/-- A monitor written on a link that a unit serves leaves the units, and meets a zone that has a decode position in its countdown
alone. -/
theorem setMonitor_served {s : State} {l : LinkId} {u : UnitId} (m : Monitor) (need : linkNeedsDecode s l = true)
    (served : servingUnit s l = some u) (idle : (s.zones.get 0).power = .standby → (s.zones.get 0).decode = .none) :
    (setMonitor s l m).units = s.units ∧ ∀ z, (s.zones.get z).decode ≠ .none →
      ∃ c, (setMonitor s l m).zones.get z = { s.zones.get z with countdown := c } := by
  have countdown := sense_countdown s l m
  have links : (s.sense l m).links = s.links := rfl
  have units : (s.sense l m).units = s.units := rfl
  rw [setMonitor_eq]
  generalize s.sense l m = t at countdown links units ⊢
  have position (z : ZoneId) : (t.zones.get z).decode = (s.zones.get z).decode ∧ (t.zones.get z).power = (s.zones.get z).power := by
    obtain ⟨c, record, -⟩ := countdown z
    rw [record]
    exact ⟨rfl, rfl⟩
  have record (z : ZoneId) : ∃ c, t.zones.get z = { s.zones.get z with countdown := c } := by
    obtain ⟨c, record, -⟩ := countdown z
    exact ⟨c, record⟩
  have still (e : (t.zones.get 0).power = .standby) : (t.zones.get 0).decode = .none := by
    obtain ⟨decode, power⟩ := position 0
    exact decode.trans (idle (power.symm.trans e))
  obtain ⟨same, others⟩ := offerAutoOn_served ((linkNeedsDecode_congr links l).trans need)
    ((servingUnit_congr units l).trans served) still
  split
  · refine ⟨same.trans units, fun z hz => ?_⟩
    by_cases main : (0 : ZoneId) = z
    · subst main
      have running : (t.zones.get 0).power ≠ .standby := fun e => hz ((position 0).1.symm.trans (still e))
      have unoffered : offerAutoOn t l = t := if_neg running
      rw [unoffered]
      exact record 0
    · rw [others z main]
      exact record z
  · exact ⟨units, fun z _ => record z⟩

end Sys2Proof.Machine
end

section
/-! BSF blocks by their numbers: slots, the checksum and the expansion of mantissas (R4, R5, R40, R41). -/

namespace Sys2Proof.Machine

/-! ## Slots -/

theorem bsfSlot_malformed {f : RawFrame} {n : Fin 8} {h : Hold} (w : f.wellFormed = false) :
    bsfSlot f n h = ((h.asMantissa, h), false) := if_pos w

theorem bsfSlot_parityError {f : RawFrame} {n : Fin 8} {h : Hold} (w : f.wellFormed = true)
    (e : parityError (f.slots.get n) = true) : bsfSlot f n h = ((h.asMantissa, h), true) := by simp [bsfSlot, w, e]

theorem bsfSlot_good {f : RawFrame} {n : Fin 8} {h : Hold} (w : f.wellFormed = true)
    (e : parityError (f.slots.get n) = false) :
    bsfSlot f n h = (((f.slots.get n).extractLsb' 16 16, .mantissa ((f.slots.get n).extractLsb' 16 16)), false) := by
  simp [bsfSlot, w, e]

/-! ## The checksum -/

/-- A sum of 16-bit words is the sum of their values modulo 65,536 (R41). -/
theorem foldl_add_toNat (xs : List (BitVec 16)) (a : BitVec 16) :
    (xs.foldl (· + ·) a).toNat = (a.toNat + (xs.map BitVec.toNat).sum) % 65536 := by
  induction xs generalizing a with
  | nil => simpa using (Nat.mod_eq_of_lt a.isLt).symm
  | cons x xs ih =>
    rw [List.foldl_cons, ih, BitVec.toNat_add, List.map_cons, List.sum_cons]
    omega

theorem blockSum_toNat (d : Descriptor) (fs : List MantissaFrame) : (blockSum d fs).toNat =
    (fs.map fun g => ((presentList d.map).map fun p => (g.get p).toNat).sum).sum % 65536 := by
  have flat : ((fs.flatMap fun f => (presentList d.map).map f.get).map BitVec.toNat).sum =
      (fs.map fun g => ((presentList d.map).map fun p => (g.get p).toNat).sum).sum := by
    induction fs with
    | nil => rfl
    | cons f fs ih => simp [ih, Function.comp_def]
  rw [blockSum, foldl_add_toNat, flat]
  simp

/-! ## The expansion -/

/-- A mantissa shifted by an exponent of 0 to 8 fits into a sample (R40). -/
theorem expand_toInt (m : BitVec 16) (e : Nat) : (expand m e).toInt = if e ≤ 8 then m.toInt * 2 ^ e else 0 := by
  unfold expand
  split
  next small =>
    have low := BitVec.le_toInt m
    have high := BitVec.toInt_lt (x := m)
    have fits : -2 ^ 23 ≤ m.toInt * 2 ^ e ∧ m.toInt * 2 ^ e < 2 ^ 23 := by
      interval_cases e <;> omega
    exact BitVec.toInt_ofInt_eq_self (by decide) fits.1 fits.2
  · rfl

theorem expo_eq (d : Descriptor) (k : Nat) (p : Pos) :
    d.expo k p = ((if k < 32 then d.expo1 else d.expo2).get p).toNat := by
  unfold Descriptor.expo
  split <;> rfl

theorem decodeBlock_get {d : Descriptor} {fs : List MantissaFrame} {k : Nat} {g : MantissaFrame} (h : fs[k]? = some g) :
    (decodeBlock d fs)[k]? = some (decodeFrame d k g) := by
  obtain ⟨lt, -⟩ := List.getElem?_eq_some_iff.mp h
  simp [decodeBlock, List.getElem?_zipWith, h, List.getElem?_range lt]

theorem decodeFrame_toInt (d : Descriptor) (k : Nat) (g : MantissaFrame) (p : Pos) :
    ((decodeFrame d k g).get p).toInt =
      if present d.map p = true ∧ d.expo k p ≤ 8 then (g.get p).toInt * 2 ^ d.expo k p else 0 := by
  rw [decodeFrame, byPos, ofFn_get]
  by_cases here : present d.map p = true
  · simp [here, expand_toInt]
  · simp [here]

theorem exponentErrors_eq (d : Descriptor) : exponentErrors d =
    ((presentList d.map).filter fun p => decide (9 ≤ (d.expo1.get p).toNat)).length +
      ((presentList d.map).filter fun p => decide (9 ≤ (d.expo2.get p).toNat)).length := rfl

/-- The slots, the expansion and the checksum of a BSF block as the statements name them. -/
theorem bsfBlock_arithmetic :
    (∀ (f : RawFrame) (n : Fin 8) (h : Hold) (m : BitVec 16), Hold.zero.asMantissa = 0 ∧ (Hold.mantissa m).asMantissa = m ∧
     (f.wellFormed = false → bsfSlot f n h = ((h.asMantissa, h), false)) ∧
     (f.wellFormed = true → ((List.range 32).filter fun i => (f.slots.get n).getLsbD i).length % 2 = 1 →
       bsfSlot f n h = ((h.asMantissa, h), true)) ∧
     (f.wellFormed = true → ((List.range 32).filter fun i => (f.slots.get n).getLsbD i).length % 2 = 0 →
       m = (f.slots.get n).extractLsb' 16 16 → bsfSlot f n h = ((m, .mantissa m), false))) ∧
   (∀ (d : Descriptor) (fs : List MantissaFrame) (k : Nat) (g : MantissaFrame), fs[k]? = some g →
     ∃ out, (decodeBlock d fs)[k]? = some out ∧ ∀ (p : Pos) (e : Nat),
       e = ((if k < 32 then d.expo1 else d.expo2).get p).toNat →
       (out.get p).toInt = if present d.map p = true ∧ e ≤ 8 then (g.get p).toInt * 2 ^ e else 0) ∧
   ∀ (d : Descriptor) (fs : List MantissaFrame), (blockSum d fs).toNat =
     (fs.map fun g => ((presentList d.map).map fun p => (g.get p).toNat).sum).sum % 65536 := by
  refine ⟨fun f n h m => ⟨rfl, rfl, bsfSlot_malformed, fun w e => bsfSlot_parityError w (parityError_of_odd e), fun w e hm => ?_⟩,
    fun d fs k g h => ⟨_, decodeBlock_get h, fun p e he => ?_⟩, blockSum_toNat⟩
  · rw [hm, bsfSlot_good w (parityError_of_even e)]
  · rw [he, ← expo_eq, decodeFrame_toInt]

end Sys2Proof.Machine
end

section
/-! The end of a BSF block at the unit that serves its link (R39 to R48). -/

namespace Sys2Proof.Machine

/-! ## The unit until the end of its block -/

/-- A unit that hands out a frame for its link, if it is bound. -/
def DecodeUnit.out (x : DecodeUnit) : DecodeUnit := if x.state = .free then x else x.handed

theorem unitFrame_units' (s : State) (u : UnitId) : (unitFrame s u).units = setAt s.units u (s.units.get u).out := by
  by_cases h : (s.units.get u).state = .free
  · rw [unitFrame_free h, DecodeUnit.out, if_pos h, setAt_self]
  · rw [unitFrame_units h, DecodeUnit.out, if_neg h]

theorem out_kept (x : DecodeUnit) : x.out.state = x.state ∧ x.out.link = x.link := by
  unfold DecodeUnit.out
  split
  · exact ⟨rfl, rfl⟩
  · exact ⟨rfl, rfl⟩

/-- A unit written with the link it had serves what it served. -/
theorem servingUnit_setAt {s t : State} {u : UnitId} {y : DecodeUnit} (h : t.units = setAt s.units u y)
    (link : y.link = (s.units.get u).link) (l : LinkId) : servingUnit t l = servingUnit s l := by
  have same : (fun v => decide ((t.units.get v).link = some l)) = fun v => decide ((s.units.get v).link = some l) := by
    funext v
    rw [h, setAt_get]
    split
    next e => rw [link, e]
    · rfl
  rw [servingUnit, servingUnit, same]

/-- An operation leaves the decode position and the power state of each zone as they are. -/
def positionsKept (s t : State) : Prop :=
  ∀ z, (t.zones.get z).decode = (s.zones.get z).decode ∧ (t.zones.get z).power = (s.zones.get z).power

theorem positionsKept.trans {s t u : State} (h : positionsKept s t) (k : positionsKept t u) : positionsKept s u :=
  fun z => ⟨(k z).1.trans (h z).1, (k z).2.trans (h z).2⟩

theorem unitFrame_positions (s : State) (u : UnitId) : positionsKept s (unitFrame s u) := fun z => by
  by_cases h : (s.units.get u).state = .free
  · rw [unitFrame_free h]
    exact ⟨rfl, rfl⟩
  · rw [unitFrame_zone h]
    split
    · rw [Zone.write_frame]
      exact ⟨rfl, rfl⟩
    · exact ⟨rfl, rfl⟩

theorem clearDecodeMute_positions (s : State) (u : UnitId) : positionsKept s (clearDecodeMute s u) :=
  State.forEach_keeps (positionsKept s) _ (fun t y kept z => by
    have turn : ((t.autoZone y fun r => { r with mutes := { r.mutes with decode := false } }).zones.get z).decode =
        (t.zones.get z).decode ∧
        ((t.autoZone y fun r => { r with mutes := { r.mutes with decode := false } }).zones.get z).power =
          (t.zones.get z).power := by
      by_cases e : y = z
      · subst e
        rw [State.autoZone_get_self]
        split <;> exact ⟨rfl, rfl⟩
      · rw [State.autoZone_get_of_ne t _ e]
        exact ⟨rfl, rfl⟩
    exact ⟨turn.1.trans (kept z).1, turn.2.trans (kept z).2⟩) _ s fun _ => ⟨rfl, rfl⟩

/-- A unit that runs clears DECODE of its attached zones (R55). -/
theorem clearDecodeMute_zone {s : State} {u : UnitId} {z : ZoneId} (h : (s.zones.get z).decode = .attached u) :
    ((clearDecodeMute s u).zones.get z).mutes.decode = false := by
  have filtered : clearDecodeMute s u = s.forEach zoneIds fun t y =>
      if decide ((s.zones.get y).decode = .attached u) = true then
        t.autoZone y fun r => { r with mutes := { r.mutes with decode := false } }
      else t := List.foldl_filter
  obtain ⟨v, -, after⟩ := forEach_zone_turn (fun t : State => t.zones.get z)
    (fun t y => if decide ((s.zones.get y).decode = .attached u) = true then
      t.autoZone y fun r => { r with mutes := { r.mutes with decode := false } } else t) z (fun t y h => by
      split
      · exact State.autoZone_get_of_ne t _ h
      · rfl) s
  rw [filtered, show (_ : Zone) = _ from after]
  simp only [h, decide_true, if_true]
  rw [State.autoZone_get_self]
  split <;> rfl

/-- Until the end of a block of a link whose unit hands out its frames, nothing happens but one frame from the unit. -/
theorem blockFront_served {s : State} {l : LinkId} {u : UnitId} (f : LinkFrame) (none : (s.links.get l).delivery = none)
    (served : servingUnit s l = some u) :
    (blockFront s l f).units = setAt s.units u (s.units.get u).out ∧ positionsKept s (blockFront s l f) := by
  have delivered : deliverFrame (restartLoss s l) l = restartLoss s l :=
    deliverFrame_none (by rw [restartLoss_get]; exact none)
  have serves : servingUnit (restartLoss s l) l = some u := (servingUnit_congr rfl l).trans served
  have handed : unitDelivers (restartLoss s l) l = unitFrame (restartLoss s l) u := by simp [unitDelivers, serves]
  rw [blockFront, lockedTaken, delivered, handed]
  exact ⟨unitFrame_units' _ u, unitFrame_positions _ u⟩

/-! ## The unit takes a block -/

/-- A BSF block passes its checksum (R41). -/
def blockPasses (d : Descriptor) (m : List MantissaFrame) : Bool := decide (blockSum d m = d.checksum)

/-- What a unit makes of a block (R39, R42, R46). -/
def DecodeUnit.takes (d : Descriptor) (m : List MantissaFrame) (x : DecodeUnit) : DecodeUnit :=
  match x.state with
  | .free => x
  | .running => if blockPasses d m then outputDecoded d m x else outputFailed d x
  | .syncing => if blockPasses d m ∧ exponentErrors d = 0 then outputDecoded d m x else outputUnqualified d x

theorem unitTakesBlock_free {s : State} {u : UnitId} (h : (s.units.get u).state = .free) (l : LinkId) (d : Descriptor)
    (m : List MantissaFrame) : unitTakesBlock s u l d m = s := by simp [unitTakesBlock, h]

theorem unitTakesBlock_running {s : State} {u : UnitId} (h : (s.units.get u).state = .running) (l : LinkId) (d : Descriptor)
    (m : List MantissaFrame) : unitTakesBlock s u l d m =
      (countBsf s l (if blockPasses d m then exponentErrors d else 1)).updUnit u (DecodeUnit.takes d m) := by
  have takes : (s.units.get u).takes d m =
      if blockPasses d m then outputDecoded d m (s.units.get u) else outputFailed d (s.units.get u) := by
    simp [DecodeUnit.takes, h]
  have unit (n : Nat) : (countBsf s l n).units.get u = s.units.get u := rfl
  unfold unitTakesBlock State.updUnit
  simp only [h, unit, takes, blockPasses]
  by_cases passes : blockSum d m = d.checksum
  · simp [passes]
  · simp [passes]

theorem unitTakesBlock_qualifies {s : State} {u : UnitId} {d : Descriptor} {m : List MantissaFrame}
    (h : (s.units.get u).state = .syncing) (passes : blockPasses d m = true) (good : exponentErrors d = 0) (l : LinkId) :
    unitTakesBlock s u l d m = clearDecodeMute (s.updUnit u (DecodeUnit.takes d m)) u := by
  have takes : (s.units.get u).takes d m = outputDecoded d m (s.units.get u) := by
    simp [DecodeUnit.takes, h, passes, good]
  have passed : blockSum d m = d.checksum := of_decide_eq_true passes
  unfold unitTakesBlock State.updUnit
  simp only [h, takes, passed, good]
  rfl

theorem unitTakesBlock_unqualified {s : State} {u : UnitId} {d : Descriptor} {m : List MantissaFrame}
    (h : (s.units.get u).state = .syncing) (bad : ¬(blockPasses d m = true ∧ exponentErrors d = 0)) (l : LinkId) :
    unitTakesBlock s u l d m =
      (countBsf s l (if blockPasses d m then exponentErrors d else 1)).updUnit u (DecodeUnit.takes d m) := by
  have takes : (s.units.get u).takes d m = outputUnqualified d (s.units.get u) := by
    simp only [DecodeUnit.takes, h, if_neg bad]
  have unit (n : Nat) : (countBsf s l n).units.get u = s.units.get u := rfl
  unfold unitTakesBlock State.updUnit
  simp only [h, unit, takes]
  exact if_neg bad

theorem takes_link (d : Descriptor) (m : List MantissaFrame) (x : DecodeUnit) : (x.takes d m).link = x.link := by
  have failed : (outputFailed d x).link = x.link := by
    unfold outputFailed
    split <;> rfl
  unfold DecodeUnit.takes
  split
  · rfl
  · split
    · rfl
    · exact failed
  · split <;> rfl

theorem clearDecodeMute_units (s : State) (u : UnitId) : (clearDecodeMute s u).units = s.units :=
  State.forEach_field State.units _ (by exact fun _ _ => rfl) _ s

/-- What a block does to the units, and that no zone moves by it. -/
theorem unitTakesBlock_units (s : State) (u : UnitId) (l : LinkId) (d : Descriptor) (m : List MantissaFrame) :
    (unitTakesBlock s u l d m).units = setAt s.units u ((s.units.get u).takes d m) ∧
      positionsKept s (unitTakesBlock s u l d m) := by
  cases h : (s.units.get u).state with
  | free =>
    have takes : (s.units.get u).takes d m = s.units.get u := by simp [DecodeUnit.takes, h]
    rw [unitTakesBlock_free h, takes, setAt_self]
    exact ⟨rfl, fun _ => ⟨rfl, rfl⟩⟩
  | running =>
    rw [unitTakesBlock_running h]
    exact ⟨rfl, fun _ => ⟨rfl, rfl⟩⟩
  | syncing =>
    by_cases good : blockPasses d m = true ∧ exponentErrors d = 0
    · rw [unitTakesBlock_qualifies h good.1 good.2, clearDecodeMute_units]
      exact ⟨rfl, clearDecodeMute_positions _ u⟩
    · rw [unitTakesBlock_unqualified h good]
      exact ⟨rfl, fun _ => ⟨rfl, rfl⟩⟩

/-- The BSF count after a block; one that takes a unit to RUNNING counts none (R40, R48). -/
theorem unitTakesBlock_bsf (s : State) (u : UnitId) (l : LinkId) (d : Descriptor) (m : List MantissaFrame) :
    ((s.units.get u).state = .running ∨
        ((s.units.get u).state = .syncing ∧ ¬(blockPasses d m = true ∧ exponentErrors d = 0)) →
      ((unitTakesBlock s u l d m).links.get l).counters.bsf =
        (s.links.get l).counters.bsf.bump (if blockPasses d m then exponentErrors d else 1)) ∧
    ((s.units.get u).state = .syncing → blockPasses d m = true → exponentErrors d = 0 →
      ((unitTakesBlock s u l d m).links.get l).counters.bsf = (s.links.get l).counters.bsf) := by
  have counted (n : Nat) : ((countBsf s l n).links.get l).counters.bsf = (s.links.get l).counters.bsf.bump n := by
    rw [countBsf, State.updLink_get_self]
  refine ⟨fun h => ?_, fun h passes good => ?_⟩
  · rcases h with h | ⟨h, bad⟩
    · rw [unitTakesBlock_running h]
      exact counted _
    · rw [unitTakesBlock_unqualified h bad]
      exact counted _
  · obtain ⟨links, -⟩ := clearDecodeMute_frame (s.updUnit u (DecodeUnit.takes d m)) u
    rw [unitTakesBlock_qualifies h passes good, links]
    rfl

/-! ## The block's end -/

theorem linkNeedsDecode_of {s : State} {l : LinkId} {d : Descriptor} (state : (s.links.get l).state = .locked)
    (last : (s.links.get l).lastGood = some d) (bsf : d.format = .bsf) : linkNeedsDecode s l = true := by
  simp [linkNeedsDecode, state, last, bsf, LinkState.carries]

/-- A good BSF block of a BSF link at its unit: what the unit makes of it is what it has at the end, its zones meet the block in
DECODE and the monitor in their countdown alone. -/
theorem linkFrame_bsfBlock {s : State} {l : LinkId} {f : LinkFrame} {k : Rate} {d : Descriptor} {u : UnitId}
    (h : (s.links.get l).endsWith f k (some d)) (bsf : d.format = .bsf) (same : (s.links.get l).lastGood.map (·.format) = some .bsf)
    (none : (s.links.get l).delivery = none) (served : servingUnit s l = some u)
    (idle : (s.zones.get 0).power = .standby → (s.zones.get 0).decode = .none) :
    ∃ v w, w = unitTakesBlock v u l d
        (readMantissas d.map (s.links.get l).hold ((s.links.get l).reading ++ [rawFrame f])).1 ∧
      v.units = setAt s.units u (s.units.get u).out ∧ (v.links.get l).counters.bsf = (s.links.get l).counters.bsf ∧
      positionsKept s v ∧ (linkFrame s l f).units = w.units ∧ (linkFrame s l f).links = w.links ∧
      ∀ z, (s.zones.get z).decode ≠ .none → ∃ c, (linkFrame s l f).zones.get z = { w.zones.get z with countdown := c } := by
  obtain ⟨sameHold, -⟩ := blockFront_undelivered f none
  obtain ⟨frontUnits, frontPositions⟩ := blockFront_served f none served
  have held := goodBlock_held s l f d (Link.adoptBsf d ((s.links.get l).reading ++ [rawFrame f])) fun _ => ⟨rfl, rfl, rfl⟩
  have count : ((((blockFront s l f).updLink l fun r => r.countSequence d).updLink l
      (Link.adoptBsf d ((s.links.get l).reading ++ [rawFrame f]))).links.get l).counters.bsf = (s.links.get l).counters.bsf := by
    obtain ⟨code, hold, delivery, record⟩ := blockFront_kept s l f
    rw [State.updLink_get_self, State.updLink_get_self, countSequence_eq, record]
    rfl
  have hold : (((blockFront s l f).updLink l fun r => r.countSequence d).links.get l).hold = (s.links.get l).hold := by
    rw [State.updLink_get_self, countSequence_eq, sameHold]
  have turn : (s.links.get l).turns d l = id := by
    funext t
    simp [Link.turns, formatTurn, same, bsf]
  have done : linkFrame s l f = monitorBlock (unitTurn (((blockFront s l f).updLink l fun r => r.countSequence d).updLink l
      (Link.adoptBsf d ((s.links.get l).reading ++ [rawFrame f]))) l d
        (readMantissas d.map (s.links.get l).hold ((s.links.get l).reading ++ [rawFrame f])).1) l
      (bsfLoud d (readMantissas d.map (s.links.get l).hold ((s.links.get l).reading ++ [rawFrame f])).1) := by
    rw [linkFrame_goodBlock h, releaseGood_bsf _ _ bsf, turn, hold]
    rfl
  have units : (((blockFront s l f).updLink l fun r => r.countSequence d).updLink l
      (Link.adoptBsf d ((s.links.get l).reading ++ [rawFrame f]))).units = setAt s.units u (s.units.get u).out := frontUnits
  have positions : positionsKept s (((blockFront s l f).updLink l fun r => r.countSequence d).updLink l
      (Link.adoptBsf d ((s.links.get l).reading ++ [rawFrame f]))) := frontPositions
  generalize ((blockFront s l f).updLink l fun r => r.countSequence d).updLink l
    (Link.adoptBsf d ((s.links.get l).reading ++ [rawFrame f])) = v at held count done units positions
  generalize (readMantissas d.map (s.links.get l).hold ((s.links.get l).reading ++ [rawFrame f])).1 = m at done
  have serves : servingUnit v l = some u := (servingUnit_setAt units (out_kept _).2 l).trans served
  have takes : unitTurn v l d m = unitTakesBlock v u l d m := by simp [unitTurn, serves]
  obtain ⟨tookUnits, tookPositions⟩ := unitTakesBlock_units v u l d m
  have stays := servingUnit_setAt tookUnits (takes_link d m _) l
  obtain ⟨state, -, last⟩ := heldGood_countsBsf held (unitTakesBlock_link v u l d m)
  have allKept := positions.trans tookPositions
  have ⟨⟨locked, _⟩, _⟩ := h
  refine ⟨v, _, rfl, units, count, positions, ?_⟩
  rw [done, takes, monitorBlock_eq]
  generalize unitTakesBlock v u l d m = w at stays state last allKept ⊢
  obtain ⟨final, zones⟩ := setMonitor_served ((w.monitors.get l).heardBlock w.ms (bsfLoud d m))
    (linkNeedsDecode_of (state.trans locked) last bsf) (stays.trans serves)
    fun e => (allKept 0).1.trans (idle ((allKept 0).2.symm.trans e))
  exact ⟨final, setMonitor_links _ _ _, fun z hz => zones z (by rwa [(allKept z).1])⟩

end Sys2Proof.Machine
end

section
/-! The end of a block in LOCKED: the obligation, from the link, its zones and its unit. -/

namespace Sys2Proof.Machine

/-! ## The unit after its block, by its state -/

theorem outputDecoded_out {x : DecodeUnit} (d : Descriptor) (m : List MantissaFrame) (h : x.state ≠ .free) :
    outputDecoded d m x.out = { x with
      state := .running, output := decodeBlock d m, vals := d.vals, owed := true, mark := true
      store := some { frames := decodeBlock d m, vals := d.vals } } := by
  rw [DecodeUnit.out, if_neg h]
  rfl

theorem takes_passed {x : DecodeUnit} {d : Descriptor} {m : List MantissaFrame} (h : x.state = .running)
    (passes : blockSum d m = d.checksum) : x.out.takes d m = { x with
      output := decodeBlock d m, vals := d.vals, owed := true, mark := true
      store := some { frames := decodeBlock d m, vals := d.vals } } := by
  have out := outputDecoded_out d m (x := x) (by rw [h]; decide)
  rw [← h] at out
  rw [← out]
  simp [DecodeUnit.takes, (out_kept x).1, h, blockPasses, passes]

theorem takes_failed {x : DecodeUnit} {d : Descriptor} {m : List MantissaFrame} (h : x.state = .running)
    (fails : blockSum d m ≠ d.checksum) : x.out.takes d m = outputFailed d x.handed := by
  have out : x.out = x.handed := by rw [DecodeUnit.out, if_neg (by rw [h]; decide)]
  have takes : x.out.takes d m = outputFailed d x.out := by simp [DecodeUnit.takes, (out_kept x).1, h, blockPasses, fails]
  rw [takes, out]

theorem takes_concealed {x : DecodeUnit} {d : Descriptor} {m : List MantissaFrame} {b : DecodedBlock} (h : x.state = .running)
    (fails : blockSum d m ≠ d.checksum) (mark : x.mark = true) (store : x.store = some b) : x.out.takes d m = { x with
      output := b.frames, vals := b.vals, owed := true, mark := false, concealed := min 65535 (x.concealed + 1) } := by
  have handed : x.handed.mark = true ∧ x.handed.store = some b := ⟨mark, store⟩
  rw [takes_failed h fails, outputFailed, handed.1, handed.2, store]
  rfl

theorem takes_silenced {x : DecodeUnit} {d : Descriptor} {m : List MantissaFrame} (h : x.state = .running)
    (fails : blockSum d m ≠ d.checksum) (mark : x.mark = false) : x.out.takes d m = { x with
      output := [], vals := d.vals, owed := true, mark := false, silenced := min 65535 (x.silenced + 1) } := by
  have handed : x.handed.mark = false := mark
  rw [takes_failed h fails, outputFailed, handed]
  rfl

theorem takes_qualified {x : DecodeUnit} {d : Descriptor} {m : List MantissaFrame} (h : x.state = .syncing)
    (passes : blockSum d m = d.checksum) (good : exponentErrors d = 0) : x.out.takes d m = { x with
      state := .running, output := decodeBlock d m, vals := d.vals, owed := true, mark := true
      store := some { frames := decodeBlock d m, vals := d.vals } } := by
  rw [← outputDecoded_out d m (x := x) (by rw [h]; decide)]
  simp [DecodeUnit.takes, (out_kept x).1, h, blockPasses, passes, good]

theorem takes_unqualified {x : DecodeUnit} {d : Descriptor} {m : List MantissaFrame} (h : x.state = .syncing)
    (bad : blockSum d m ≠ d.checksum ∨ exponentErrors d ≠ 0) :
    x.out.takes d m = { x with output := [], vals := d.vals, owed := true } := by
  have out : x.out = x.handed := by rw [DecodeUnit.out, if_neg (by rw [h]; decide)]
  have unqualified : ¬(blockPasses d m = true ∧ exponentErrors d = 0) := fun e =>
    bad.elim (fun b => b (of_decide_eq_true e.1)) fun b => b e.2
  have takes : x.out.takes d m = outputUnqualified d x.out := by
    simp only [DecodeUnit.takes, (out_kept x).1, h, if_neg unqualified]
  rw [takes, out]
  rfl

/-! ## The statement's parts -/

/-- A good BSF block at its unit, by the unit's state (R39 to R42, R46, R48). -/
theorem bsfBlock_outcome {s : State} {l : LinkId} {f : LinkFrame} {k : Rate} {d : Descriptor} {u : UnitId} {x : DecodeUnit}
    {m : List MantissaFrame} {errors : Nat} (h : (s.links.get l).endsWith f k (some d)) (bsf : d.format = .bsf)
    (none : (s.links.get l).delivery = none) (same : (s.links.get l).lastGood.map (·.format) = some .bsf)
    (served : servingUnit s l = some u) (hx : x = s.units.get u)
    (idle : (s.zones.get 0).power = .standby → (s.zones.get 0).decode = .none)
    (hm : m = (readMantissas d.map (s.links.get l).hold ((s.links.get l).reading ++ [rawFrame f])).1)
    (he : errors = exponentErrors d) :
    (∀ v, v ≠ u → (linkFrame s l f).units.get v = s.units.get v) ∧
      (x.state = .running → blockSum d m = d.checksum →
        (linkFrame s l f).units.get u = { x with
          output := decodeBlock d m, vals := d.vals, owed := true, mark := true
          store := some { frames := decodeBlock d m, vals := d.vals } } ∧
        ((linkFrame s l f).links.get l).counters.bsf = (s.links.get l).counters.bsf.bump errors) ∧
      (∀ b, x.state = .running → blockSum d m ≠ d.checksum → x.mark = true → x.store = some b →
        (linkFrame s l f).units.get u = { x with
          output := b.frames, vals := b.vals, owed := true, mark := false, concealed := min 65535 (x.concealed + 1) } ∧
        ((linkFrame s l f).links.get l).counters.bsf = (s.links.get l).counters.bsf.bump 1) ∧
      (x.state = .running → blockSum d m ≠ d.checksum → x.mark = false →
        (linkFrame s l f).units.get u = { x with
          output := [], vals := d.vals, owed := true, mark := false, silenced := min 65535 (x.silenced + 1) } ∧
        ((linkFrame s l f).links.get l).counters.bsf = (s.links.get l).counters.bsf.bump 1) ∧
      (x.state = .syncing → blockSum d m = d.checksum → errors = 0 →
        (linkFrame s l f).units.get u = { x with
          state := .running, output := decodeBlock d m, vals := d.vals, owed := true, mark := true
          store := some { frames := decodeBlock d m, vals := d.vals } } ∧
        (∀ z, (s.zones.get z).decode = .attached u → ((linkFrame s l f).zones.get z).mutes.decode = false) ∧
        ((linkFrame s l f).links.get l).counters.bsf = (s.links.get l).counters.bsf) ∧
      (x.state = .syncing → (blockSum d m ≠ d.checksum ∨ errors ≠ 0) →
        (linkFrame s l f).units.get u = { x with output := [], vals := d.vals, owed := true } ∧
        ((linkFrame s l f).links.get l).counters.bsf =
          (s.links.get l).counters.bsf.bump (if blockSum d m = d.checksum then errors else 1)) := by
  obtain ⟨v, w, hw, units, count, positions, finalUnits, finalLinks, zones⟩ := linkFrame_bsfBlock h bsf same none served idle
  subst hx he
  rw [← hm] at hw
  obtain ⟨tookUnits, -⟩ := unitTakesBlock_units v u l d m
  obtain ⟨counts, countsNot⟩ := unitTakesBlock_bsf v u l d m
  have before : v.units.get u = (s.units.get u).out := by rw [units, setAt_get_self]
  have state : (v.units.get u).state = (s.units.get u).state := by rw [before, (out_kept _).1]
  rw [state, count, ← hw, ← finalLinks] at counts countsNot
  rw [← hw, ← finalUnits, before] at tookUnits
  have taken : (linkFrame s l f).units.get u = (s.units.get u).out.takes d m := by rw [tookUnits, setAt_get_self]
  have passes_eq : blockPasses d m = decide (blockSum d m = d.checksum) := rfl
  rw [taken]
  refine ⟨fun y hy => ?_, fun hs passes => ⟨takes_passed hs passes, ?_⟩,
    fun b hs fails mark store => ⟨takes_concealed hs fails mark store, ?_⟩,
    fun hs fails mark => ⟨takes_silenced hs fails mark, ?_⟩,
    fun hs passes good => ⟨takes_qualified hs passes good, fun z hz => ?_, countsNot hs (decide_eq_true passes) good⟩,
    fun hs bad => ⟨takes_unqualified hs bad, ?_⟩⟩
  · rw [tookUnits, setAt_get_of_ne _ _ (Ne.symm hy), units, setAt_get_of_ne _ _ (Ne.symm hy)]
  · rw [counts (.inl hs)]
    simp [passes_eq, passes]
  · rw [counts (.inl hs)]
    simp [passes_eq, fails]
  · rw [counts (.inl hs)]
    simp [passes_eq, fails]
  · obtain ⟨c, final⟩ := zones z (by rw [hz]; exact fun e => nomatch e)
    have muted : (w.zones.get z).mutes.decode = false := by
      rw [hw, unitTakesBlock_qualifies (by rw [state, hs]) (decide_eq_true passes) good]
      exact clearDecodeMute_zone ((positions z).1.trans hz)
    rw [final]
    exact muted
  · rw [counts (.inr ⟨hs, fun e => bad.elim (fun b => b (of_decide_eq_true e.1)) fun b => b e.2⟩)]
    simp [passes_eq]

theorem monitorBlock_silent_units (s : State) (l : LinkId) : (monitorBlock s l false).units = s.units := by
  rw [monitorBlock_eq, setMonitor_unoffered]
  · rfl
  · cases h : (s.monitors.get l).state with
    | noLink => exact .inr (by rw [heardBlock_noLink h, h]; decide)
    | active => exact .inl rfl
    | silent => exact .inr (by rw [heardBlock_silent h, Monitor.judged]; simp [h])

/-- A withheld block: the unit that serves the link is silent for a block period (R43). -/
theorem badBlock_unit {s : State} {l : LinkId} {f : LinkFrame} {k : Rate} {d : Descriptor} {u : UnitId}
    (h : (s.links.get l).endsWith f k none) (few : (s.links.get l).errorRun < 2) (last : (s.links.get l).lastGood = some d)
    (bsf : d.format = .bsf) (undelivered : (s.links.get l).delivery = none) (served : servingUnit s l = some u)
    (bound : (s.units.get u).state ≠ .free) :
    (linkFrame s l f).units.get u = { s.units.get u with output := [], mark := false, owed := true } := by
  obtain ⟨units, -⟩ := blockFront_served f undelivered served
  have good : (((blockFront s l f).updLink l Link.blockBad).links.get l).lastGood = some d := by
    obtain ⟨code, hold, delivery, record⟩ := badBlock_record s l f
    rw [record]
    exact last
  have units' : ((blockFront s l f).updLink l Link.blockBad).units = setAt s.units u (s.units.get u).out := units
  rw [linkFrame_badBlock h few, releaseBad_bsf _ good bsf, monitorBlock_silent_units]
  generalize (blockFront s l f).updLink l Link.blockBad = v at units' ⊢
  have serves : servingUnit v l = some u := (servingUnit_setAt units' (out_kept _).2 l).trans served
  have quiet : unitQuiet v l = unitSilent v u true := by simp [unitQuiet, serves]
  have silent : (unitSilent v u true).units.get u = { v.units.get u with output := [], mark := false, owed := true } :=
    setAt_get_self _ _ _
  rw [quiet, silent, units', setAt_get_self, DecodeUnit.out, if_neg bound]
  rfl

theorem endErrorRun_third {s : State} {l : LinkId} {f : LinkFrame} {k : Rate} (h : (s.links.get l).endsWith f k none)
    (many : (s.links.get l).errorRun = 2) : endErrorRun s l f = linkFrame s l f := by
  obtain ⟨state, -⟩ := thirdError_recovers h many
  have ⟨⟨locked, n, _⟩, _⟩ := h
  unfold endErrorRun
  rw [if_pos ⟨locked, by simp [blockEnding, locked, n], by omega⟩]
  exact if_pos state

/-- The end of a block in LOCKED, with frame `f`, in time for rate `r`. -/
theorem endsWith_of {s : State} {l : LinkId} {f : LinkFrame} {r : Rate} {next : Option Descriptor}
    (state : (s.links.get l).state = .locked) (n : (s.links.get l).reading.length = 63) (short : f.longSync = false)
    (rate : (s.links.get l).rate = some r) (inTime : Rate.isMatch ((s.links.get l).blockTicks + f.ticks) r = true)
    (block : blockDescriptor (some r) ((s.links.get l).reading ++ [rawFrame f]) = next) : (s.links.get l).endsWith f r next :=
  ⟨⟨state, n, short⟩, rate, inTime, block⟩

/-- Settles O21. -/
theorem blockEndDecides : Obligations.BlockEndDecides := by
  refine ⟨fun s l f h n => (blockEnd_step f h n).symm, fun s l f d r h n short rate inTime good other => ?_,
    fun s l f r h n short rate inTime bad many => ?_, fun s l f d r h n short rate inTime none good bsf => ?_,
    fun s l f d r h n short rate inTime good turn => ?_, fun s l f d r h n short rate inTime bad few last => ?_,
    fun s l f r h n short rate late => ?_, fun s l f h reading long => ?_, bsfBlock_arithmetic,
    fun s l f d r u x m errors h n short rate inTime none good bsf same served hx idle hm he => ?_⟩
  · obtain ⟨⟨state, -, last, seq, run, empty, sequence⟩, delivery⟩ := goodBlock_other (endsWith_of h n short rate inTime good) other
    exact ⟨_, blockEnd_step f (.inl h) n, state.trans h, last, seq, run, empty, delivery, sequence⟩
  · have ends := endsWith_of h n short rate inTime bad
    obtain ⟨state, timer, kept, last, delivery, count, monitor, zones⟩ := thirdError_recovers ends many
    have run : exec (.descriptorErrorRun l f) s = .next (linkFrame s l f) :=
      congrArg Host.Outcome.next (endErrorRun_third ends many)
    exact ⟨run.symm, _, run, state, timer, kept.trans rate, last, delivery, count, monitor, zones⟩
  · obtain ⟨⟨state, -, last, seq, run, empty, sequence⟩, delivery, hold⟩ :=
      goodBlock_bsf (endsWith_of h n short rate inTime good) bsf none
    exact ⟨_, blockEnd_step f (.inl h) n, state.trans h, last, seq, run, empty, delivery, hold, sequence⟩
  · exact ⟨_, blockEnd_step f (.inl h) n, fun z link bound go =>
      formatTurn_zone (endsWith_of h n short rate inTime good) turn link bound go⟩
  · have ends := endsWith_of h n short rate inTime bad
    obtain ⟨state, good, run, empty, seq, count, other, withheld⟩ := badBlock_link ends few last
    exact ⟨_, blockEnd_step f (.inl h) n, state.trans h, good, run, empty, seq, count, other, fun u bsf none served bound =>
      ⟨withheld bsf none, badBlock_unit ends few last bsf none served bound⟩⟩
  · exact ⟨_, blockEnd_step f (.inl h) n, lateBlock_measures ⟨h, n, short⟩ rate late⟩
  · exact ⟨_, rfl, offGrid_recovers h reading long⟩
  · exact ⟨_, blockEnd_step f (.inl h) n,
      bsfBlock_outcome (endsWith_of h n short rate inTime good) bsf none same served hx idle hm (he.trans (exponentErrors_eq d).symm)⟩

end Sys2Proof.Machine
end

section
/-! Entries to ACTIVE and departures from it: the countdowns of the zones on the link, and the offer to MAIN (R32 to R35, R82). -/

namespace Sys2Proof.Machine

/-! ## The countdown through a binding -/

/-- The countdown and what it hangs on stand. -/
def Zone.counts (r x : Zone) : Prop := x.countdown = r.countdown ∧ x.power = r.power

theorem Zone.counts.trans {r x y : Zone} (h : r.counts x) (k : x.counts y) : r.counts y := ⟨k.1.trans h.1, k.2.trans h.2⟩

theorem counts_of_sansArbiter {r x : Zone} (h : x.sansArbiter = r.sansArbiter) : r.counts x :=
  ⟨(congrArg Zone.countdown h :), (congrArg Zone.power h :)⟩

theorem autoZone_counts {s : State} {z : ZoneId} {f : Zone → Zone} (h : ∀ r, Zone.counts r (f r)) :
    (s.zones.get z).counts ((s.autoZone z f).zones.get z) :=
  (h _).trans (counts_of_sansArbiter (autoZone_zone_sansArbiter s z f))

theorem bindRecord_counts (s : State) (r : Zone) : r.counts (bindRecord s r) := by
  cases h : (takeCopy s.sources r).link with
  | none => rw [bindRecord_unlinked h, bindClock_kept]; exact ⟨rfl, rfl⟩
  | some l => rw [bindRecord_linked h, bindClock_kept]; exact ⟨rfl, rfl⟩

theorem yielded_counts (rebind : Bool) (r : Zone) : r.counts (r.yielded rebind) := by cases rebind <;> exact ⟨rfl, rfl⟩

theorem bindingTaken_counts (s : State) (z : ZoneId) (rebind : Bool) :
    (s.zones.get z).counts ((bindingTaken s z rebind).zones.get z) := by
  rw [bindingTaken_eq]
  exact (autoZone_counts (yielded_counts rebind)).trans (autoZone_counts (bindRecord_counts _))

theorem bindingPlaced_counts (s : State) (z : ZoneId) (rebind : Bool) :
    (s.zones.get z).counts ((bindingPlaced s z rebind).zones.get z) :=
  (bindingTaken_counts s z rebind).trans (counts_of_sansArbiter (sansArbiter_zone (rebindDecode_sansArbiter _ z _ _) z))

theorem bindingEntered_counts (s : State) (z : ZoneId) : (s.zones.get z).counts ((bindingEntered s z).zones.get z) := by
  have allocated : (s.zones.get z).counts ((allocateZone s z).zones.get z) := by
    rw [allocateZone_zone]
    exact ⟨rfl, rfl⟩
  rw [bindingEntered_eq]
  exact allocated.trans (autoZone_counts fun _ => ⟨rfl, rfl⟩)

theorem driven_counts {r x : Zone} (h : r.driven x) : r.counts x := by
  obtain ⟨m, p, rfl⟩ := h
  exact ⟨rfl, rfl⟩

theorem bindingCarried_counts (s : State) (z : ZoneId) (rebind : Bool) :
    (s.zones.get z).counts ((bindingCarried s z rebind).zones.get z) := by
  have carried := bindCarrier_zone (primeDelays (bindingEntered (bindingPlaced s z rebind) z) z) z (s.zones.get z).rate
  rw [primeDelays_zones] at carried
  exact ((bindingPlaced_counts s z rebind).trans (bindingEntered_counts _ z)).trans (driven_counts carried)

/-- A binding of a zone that is not ON leaves its countdown (R66, R82). -/
theorem bindZone_countdown {s : State} {z : ZoneId} (rebind : Bool) (h : (s.zones.get z).power ≠ .on) :
    ((bindZone s z rebind).zones.get z).countdown = (s.zones.get z).countdown := by
  obtain ⟨count, power⟩ := bindingCarried_counts s z rebind
  have off : ((bindingCarried s z rebind).zones.get z).power ≠ .on := by rwa [power]
  rw [bindZone_eq_carried, State.raise_zones, ← count, bindCountdown, startCountdown]
  rw [State.updZone_get_self, State.updZone_get_self, if_neg off, if_neg fun e => off e.1]

/-! ## What a binding leaves, said of another state -/

/-- What of a link's record a zone on the link sees. -/
def Link.core (x : Link) : Link := { Link.reset with state := x.state, rate := x.rate, lastGood := x.lastGood }

theorem clockBound_core {r : Zone} {x y : Option Link} {rate : Rate} (h : y.map Link.core = x.map Link.core)
    (k : r.clockBound x rate) : r.clockBound y rate := by
  cases x with
  | none =>
    cases y with
    | none => exact k
    | some b => exact absurd h (Option.some_ne_none _)
  | some a =>
    cases y with
    | none => exact absurd h.symm (Option.some_ne_none _)
    | some b =>
      have core : b.core = a.core := Option.some.inj h
      have state : b.state = a.state := (congrArg Link.state core :)
      have ofRate : b.rate = a.rate := (congrArg Link.rate core :)
      obtain ⟨mode, locals, follow⟩ := k
      refine ⟨mode, fun q hq => ?_, fun hf => ?_⟩
      · obtain ⟨clock, at_, mismatch⟩ := locals q hq
        refine ⟨clock, at_, fun y hy => ?_⟩
        cases hy
        rw [state, ofRate]
        exact mismatch a rfl
      · obtain ⟨clock, taken, kept, mismatch⟩ := follow hf
        refine ⟨by simpa [state] using clock, fun y q hy carries hr => ?_, fun none => kept fun y hy => ?_, mismatch⟩
        · cases hy
          exact taken a q rfl (state ▸ carries) (ofRate ▸ hr)
        · cases hy
          rw [← state]
          exact none b rfl

theorem justTaken_state {r : Zone} {s t : State} {selected : Option SrcId} {rate : Rate}
    (links : ∀ k, (t.links.get k).core = (s.links.get k).core) (sources : t.sources = s.sources)
    (tuner : t.tuner.state = s.tuner.state) (time : r.power = .on → t.ms = s.ms ∧ (r.quiet t ↔ r.quiet s))
    (h : r.justTaken s selected rate) : r.justTaken t selected rate := by
  obtain ⟨bound, input, trim, lip, mode, qr, ramp, refilling, path, alloc, clock, countdown, mutes⟩ := h
  have core : (r.link.map t.links.get).map Link.core = (r.link.map s.links.get).map Link.core := by
    cases r.link with
    | none => rfl
    | some k => exact congrArg some (links k)
  rw [← sources] at input trim lip mode
  refine ⟨bound, input, trim, lip, mode, qr, ramp, refilling, path, alloc, clockBound_core core clock, fun on => ?_, fun k hk => ?_⟩
  · obtain ⟨ms, quiet⟩ := time on
    rw [countdown on, Zone.fullCountdown, Zone.fullCountdown, ms]
    simp only [quiet]
  · obtain ⟨signal, format, tuning⟩ := mutes k hk
    have state : (t.links.get k).state = (s.links.get k).state := (congrArg Link.state (links k) :)
    have unplayable : (t.links.get k).unplayable = (s.links.get k).unplayable := (congrArg Link.unplayable (links k) :)
    rw [state, unplayable, tuner]
    exact ⟨signal, format, tuning⟩

/-! ## MAIN powered up by an offer -/

/-- The record of a zone that takes power: bound, and in STARTING (R60). -/
def Zone.powered (now : Millis) (r : Zone) : Zone := { r with power := .starting, startTimer := some (newTimer now 150) }

theorem powerUpZone_eq (s : State) (z : ZoneId) : powerUpZone s z =
    (bindZone (handDrive s z .centre) z false).autoZone z (Zone.powered s.ms) := rfl

theorem handDrive_record (s : State) (z : ZoneId) (m : DriveMode) :
    Zone.driven { s.zones.get z with drive := m } ((handDrive s z m).zones.get z) := by
  have handed : (s.updZone z fun r => { r with drive := m }).zones.get z = { s.zones.get z with drive := m } :=
    State.updZone_get_self s z _
  unfold handDrive
  dsimp only
  generalize (s.updZone z fun r => { r with drive := m }) = t at handed ⊢
  split
  · rw [← handed]
    exact beginFrame_zone t z m
  · exact ⟨_, _, handed⟩

/-- What a zone that has been bound and then takes power is in: STARTING. -/
theorem powered_justBound {x y : Zone} {s : State} {now : Millis} {selected : Option SrcId} {rate : Rate}
    (h : x.justBound s selected rate) (e : y.sansArbiter = (x.powered now).sansArbiter) :
    y.justBound s selected rate ∧ y.power = .starting ∧ y.selected = x.selected ∧ y.drive = x.drive ∧
      y.countdown = x.countdown := by
  have apart (x : Zone) : x.justBound s selected rate = x.sansArbiter.justBound s selected rate := rfl
  obtain ⟨⟨bound, input, trim, lip, mode, qr, ramp, refilling, path, alloc, clock, -, mutes⟩, empty⟩ := h
  refine ⟨?_, (congrArg Zone.power e :), (congrArg Zone.selected e :), (congrArg Zone.drive e :), (congrArg Zone.countdown e :)⟩
  rw [apart, e, ← apart]
  exact ⟨⟨bound, input, trim, lip, mode, qr, ramp, refilling, path, alloc, clock, fun on => (nomatch on), mutes⟩, empty⟩

/-- What a zone holds after a power-up (R60, R66). -/
theorem powerUpZone_zone {s : State} {z : ZoneId} (h : (s.zones.get z).power = .standby) :
    ((powerUpZone s z).zones.get z).justBound (handDrive s z .centre) (s.zones.get z).selected (s.zones.get z).rate ∧
      ((powerUpZone s z).zones.get z).power = .starting ∧
      ((powerUpZone s z).zones.get z).selected = (s.zones.get z).selected ∧
      ((powerUpZone s z).zones.get z).drive = .centre ∧
      ((powerUpZone s z).zones.get z).countdown = (s.zones.get z).countdown := by
  obtain ⟨m, p, handed⟩ := handDrive_record s z .centre
  rw [powerUpZone_eq]
  generalize handDrive s z .centre = t at handed ⊢
  obtain ⟨justBound, -, selected, drive⟩ := bindZone_justBound t z false
  have count := bindZone_countdown (s := t) (z := z) false (by rw [handed]; exact h ▸ by decide)
  have record := autoZone_zone_sansArbiter (bindZone t z false) z (Zone.powered s.ms)
  generalize (bindZone t z false).autoZone z (Zone.powered s.ms) = u at record ⊢
  generalize (bindZone t z false).zones.get z = x at justBound selected drive count record
  generalize u.zones.get z = y at record ⊢
  rw [handed] at justBound selected drive count
  obtain ⟨bound, starting, selects, drives, counts⟩ := powered_justBound justBound record
  exact ⟨bound, starting, selects.trans selected, drives.trans drive, counts.trans count⟩

/-! ## The offer -/

/-- The lowest-numbered entry that names the link with auto-on yes (R35). -/
theorem autoOnEntry_lowest {s : State} {l : LinkId} {i : SrcId} (input : (s.sources.get i).input = some l)
    (auto : (s.sources.get i).autoOn = true)
    (lowest : ∀ j : SrcId, j < i → ¬((s.sources.get j).input = some l ∧ (s.sources.get j).autoOn = true)) :
    autoOnEntry s l = some i := by
  have ids : srcIds = List.finRange 16 := rfl
  refine List.find?_eq_some_iff_getElem.mpr ⟨by simp [input, auto], i.1, by rw [ids]; simp, ?_, fun j hj => ?_⟩
  · simp [ids]
  · have skipped := not_and_or.mp (lowest ⟨j, by omega⟩ hj)
    simpa [ids] using skipped

theorem autoOnEntry_none {s : State} {l : LinkId}
    (h : ∀ j : SrcId, ¬((s.sources.get j).input = some l ∧ (s.sources.get j).autoOn = true)) : autoOnEntry s l = none :=
  List.find?_eq_none.mpr fun j _ => by simpa using h j

/-- The state after MAIN has taken an offer of entry `i` (R35). -/
def autoOnTaken (s : State) (i : SrcId) : State :=
  ((powerUpZone (s.updZone 0 fun r => { r with selected := some i }) 0).zoneOrigin 0 .auto).raise .signal

theorem offerAutoOn_taken {s : State} {l : LinkId} {i : SrcId} (standby : (s.zones.get 0).power = .standby)
    (found : autoOnEntry s l = some i) : offerAutoOn s l = autoOnTaken s i := by
  unfold offerAutoOn
  rw [if_pos standby, found]
  rfl

theorem offerAutoOn_lapses {s : State} {l : LinkId} (h : (s.zones.get 0).power ≠ .standby ∨ autoOnEntry s l = none) :
    offerAutoOn s l = s := by
  unfold offerAutoOn
  rcases h with h | h
  · rw [if_neg h]
  · rw [h]
    split <;> rfl

/-- The origin recorded last leaves the rest. -/
theorem origin_justBound {x y : Zone} {s : State} {o : Origin} {selected : Option SrcId} {rate : Rate}
    (e : y = { x with lastChanged := o }) (h : x.justBound s selected rate) :
    y.justBound s selected rate ∧ y.lastChanged = o ∧ y.power = x.power ∧ y.selected = x.selected ∧ y.drive = x.drive ∧
      y.countdown = x.countdown := by
  subst e
  exact ⟨h, rfl, rfl, rfl, rfl, rfl⟩

/-- MAIN after it has taken an offer (R35, R60, R66). -/
theorem autoOnTaken_main {s : State} (i : SrcId) (standby : (s.zones.get 0).power = .standby) :
    ∃ t, zoneFrameKept s t ∧
    ((autoOnTaken s i).zones.get 0).justBound t (some i) (s.zones.get 0).rate ∧
      ((autoOnTaken s i).zones.get 0).lastChanged = .auto ∧ ((autoOnTaken s i).zones.get 0).power = .starting ∧
      ((autoOnTaken s i).zones.get 0).selected = some i ∧ ((autoOnTaken s i).zones.get 0).drive = .centre ∧
      ((autoOnTaken s i).zones.get 0).countdown = (s.zones.get 0).countdown := by
  have zone : (s.updZone 0 fun r => { r with selected := some i }).zones.get 0 = { s.zones.get 0 with selected := some i } :=
    State.updZone_get_self s 0 _
  have frame := updZone_frame s 0 fun r => { r with selected := some i }
  unfold autoOnTaken
  generalize (s.updZone 0 fun r => { r with selected := some i }) = u at zone frame ⊢
  obtain ⟨justBound, starting, selected, drive, count⟩ := powerUpZone_zone (s := u) (z := 0) (by rw [zone]; exact standby)
  refine ⟨handDrive u 0 .centre, frame.trans (handDrive_frame u 0 _), ?_⟩
  generalize powerUpZone u 0 = v at justBound starting selected drive count ⊢
  have origin : ((v.zoneOrigin 0 .auto).raise .signal).zones.get 0 = { v.zones.get 0 with lastChanged := .auto } := by
    rw [State.raise_zones, State.zoneOrigin, State.updZone_get_self]
  generalize ((v.zoneOrigin 0 .auto).raise .signal).zones.get 0 = y at origin ⊢
  generalize v.zones.get 0 = x at justBound starting selected drive count origin
  rw [zone] at justBound selected count
  obtain ⟨bound, last, power, selects, drives, counts⟩ := origin_justBound origin justBound
  exact ⟨bound, last, power.trans starting, selects.trans selected, drives.trans drive, counts.trans count⟩

theorem autoOnTaken_signal (s : State) (i : SrcId) (p : Port) :
    ((autoOnTaken s i).ports.get p).flags.get Flag.signal.index = true := by
  rw [autoOnTaken, State.raise_ports, Ports.raise_flag]
  simp

theorem autoOnTaken_about (s : State) (i : SrcId) {z : ZoneId} (h : (0 : ZoneId) ≠ z) :
    (autoOnTaken s i).about z = s.about z := by
  rw [autoOnTaken, raise_about]
  exact (updZone_about _ h _).trans ((powerUpZone_about _ h).trans (updZone_about s h _))

/-- An offer leaves every countdown (R35, R82). -/
theorem offerAutoOn_countdown (s : State) (l : LinkId) (z : ZoneId) :
    ((offerAutoOn s l).zones.get z).countdown = (s.zones.get z).countdown := by
  by_cases standby : (s.zones.get 0).power = .standby
  · rcases Option.eq_none_or_eq_some (autoOnEntry s l) with none | ⟨i, found⟩
    · rw [offerAutoOn_lapses (.inr none)]
    · rw [offerAutoOn_taken standby found]
      by_cases main : (0 : ZoneId) = z
      · subst main
        obtain ⟨t, -, -, -, -, -, -, count⟩ := autoOnTaken_main i standby
        exact count
      · exact (counts_of_sansArbiter (about_zone (autoOnTaken_about s i main))).1
  · rw [offerAutoOn_lapses (.inl standby)]

end Sys2Proof.Machine
end

section
/-! Activity monitors: entries to ACTIVE and departures, frames, blocks, and auto-on. -/

namespace Sys2Proof.Machine

/-! ## MONITOR_ACTIVE and the quiet timer -/

theorem monitorActive_step {s : State} {l : LinkId} (h : (s.monitors.get l).state = .silent) :
    exec (.monitorActive l) s = .next (setMonitor s l ((s.monitors.get l).toActive s.ms)) :=
  congrArg Host.Outcome.next (if_pos h)

/-- The state with a monitor in ACTIVE, before the offer to MAIN. -/
def State.activated (s : State) (l : LinkId) : State := s.sense l ((s.monitors.get l).toActive s.ms)

theorem setMonitor_toActive {s : State} {l : LinkId} (h : (s.monitors.get l).state ≠ .active) :
    setMonitor s l ((s.monitors.get l).toActive s.ms) = offerAutoOn (s.activated l) l := by
  rw [setMonitor_eq]
  exact if_pos ⟨h, rfl⟩

theorem activated_zone {s : State} {l : LinkId} (h : (s.monitors.get l).state ≠ .active) (z : ZoneId) :
    (s.activated l).zones.get z =
      if (s.zones.get z).link = some l then { s.zones.get z with countdown := none } else s.zones.get z := by
  have entered : (decide ((s.monitors.get l).state = .active) !=
      decide (((s.monitors.get l).toActive s.ms).state = .active)) = true := by simp [h, Monitor.toActive]
  rw [State.activated, sense_zone, if_pos entered]
  rfl

/-- The entry of a monitor to ACTIVE (R32, R34, R82). -/
theorem monitorActive_effect {s : State} {l : LinkId} (h : (s.monitors.get l).state = .silent) :
    ∃ t, exec (.monitorActive l) s = .next t ∧ (t.monitors.get l).state = .active ∧ (t.monitors.get l).run = 0 ∧
       (t.monitors.get l).quietTimer = some { start := s.ms, len := 1000 } ∧
       (t.monitors.get l).quietSince = (s.monitors.get l).quietSince ∧
       (∀ k, k ≠ l → t.monitors.get k = s.monitors.get k) ∧ (∀ p, (t.ports.get p).flags.get (Flag.link l).index = true) ∧
       ∀ z, (t.zones.get z).countdown = if (s.zones.get z).link = some l then none else (s.zones.get z).countdown := by
  have silent : (s.monitors.get l).state ≠ .active := by rw [h]; decide
  have done := monitorActive_step h
  have monitor : (setMonitor s l ((s.monitors.get l).toActive s.ms)).monitors.get l = (s.monitors.get l).toActive s.ms := by
    rw [setMonitor_monitors, setAt_get_self]
  refine ⟨_, done, ?_, ?_, ?_, ?_, fun k hk => ?_, fun p => ?_, fun z => ?_⟩
  · rw [monitor]; rfl
  · rw [monitor]; rfl
  · rw [monitor]; rfl
  · rw [monitor]; rfl
  · rw [setMonitor_monitors, setAt_get_of_ne _ _ (Ne.symm hk)]
  · exact link_flag_of_step done nofun nofun (.inr (by rw [monitor, h]; exact (by decide : Activity.silent ≠ .active))) p
  · rw [setMonitor_toActive silent, offerAutoOn_countdown, activated_zone silent]
    split <;> rfl

theorem quietTimerExpiry_waits {s : State} {l : LinkId} (h : ¬ranOut (s.monitors.get l).quietTimer s.ms) :
    exec (.quietTimerExpiry l) s = .next s :=
  congrArg Host.Outcome.next (if_neg fun e => h ((ranOut_iff_timeUp _ _).mpr e.2))

/-- A monitor whose quiet timer has run out (R33). -/
def Monitor.quieted (now : Millis) (m : Monitor) : Monitor := { m.toSilent with quietSince := some now }

theorem quietTimerExpiry_step {s : State} {l : LinkId} (h : (s.monitors.get l).state = .active)
    (up : ranOut (s.monitors.get l).quietTimer s.ms) :
    exec (.quietTimerExpiry l) s = .next (s.sense l ((s.monitors.get l).quieted s.ms)) := by
  have run : quietExpiry s l = setMonitor s l ((s.monitors.get l).quieted s.ms) :=
    if_pos ⟨h, (ranOut_iff_timeUp _ _).mp up⟩
  exact congrArg Host.Outcome.next (run.trans (setMonitor_unoffered s l (.inl h)))

/-- The record of a zone when the monitor of a link has come to SILENT from ACTIVE (R82). -/
theorem onActivity_silent (l : LinkId) (s : State) (r : Zone) : r.onActivity l .silent s.ms =
    if r.link = some l ∧ r.power = .on ∧ 0 < r.autoStandby then { r with countdown := r.fullCountdown s } else r := by
  have quiet : Activity.silent ≠ .active := by decide
  unfold Zone.onActivity
  by_cases link : r.link = some l
  · by_cases on : r.power = .on ∧ 0 < r.autoStandby
    · rw [if_pos link, if_neg quiet, if_pos on, if_pos ⟨link, on⟩]
      rfl
    · rw [if_pos link, if_neg quiet, if_neg on, if_neg fun e => on e.2]
  · rw [if_neg link, if_neg fun e => link e.1]

/-- The departure of a monitor from ACTIVE by its quiet timer (R33, R34, R82). -/
theorem quietTimerExpiry_effect {s : State} {l : LinkId} (h : (s.monitors.get l).state = .active)
    (up : ranOut (s.monitors.get l).quietTimer s.ms) :
    ∃ t, exec (.quietTimerExpiry l) s = .next t ∧ (t.monitors.get l).state = .silent ∧ (t.monitors.get l).run = 0 ∧
       (t.monitors.get l).quietTimer = none ∧ (t.monitors.get l).quietSince = some s.ms ∧
       (∀ p, (t.ports.get p).flags.get (Flag.link l).index = true) ∧
       (∀ k, k ≠ l → t.monitors.get k = s.monitors.get k) ∧ t.links = s.links ∧ t.sources = s.sources ∧
       t.units = s.units ∧ t.speakers = s.speakers ∧ t.channels = s.channels ∧ t.pairs = s.pairs ∧ t.tuner = s.tuner ∧
       ∀ z, t.zones.get z =
         if (s.zones.get z).link = some l ∧ (s.zones.get z).power = .on ∧ 0 < (s.zones.get z).autoStandby then
           { s.zones.get z with countdown := (s.zones.get z).fullCountdown s }
         else s.zones.get z := by
  have done := quietTimerExpiry_step h up
  have monitor : (s.sense l ((s.monitors.get l).quieted s.ms)).monitors.get l = (s.monitors.get l).quieted s.ms :=
    setAt_get_self _ _ _
  refine ⟨_, done, ?_, ?_, ?_, ?_, fun p => ?_, fun k hk => setAt_get_of_ne _ _ (Ne.symm hk), rfl, rfl, rfl, rfl, rfl, rfl, rfl,
    fun z => ?_⟩
  · rw [monitor]; rfl
  · rw [monitor]; rfl
  · rw [monitor]; rfl
  · rw [monitor]; rfl
  · exact link_flag_of_step done nofun nofun (.inr (by rw [monitor, h]; exact (by decide : Activity.active ≠ .silent))) p
  · have left : (decide ((s.monitors.get l).state = .active) !=
        decide (((s.monitors.get l).quieted s.ms).state = .active)) = true := by simp [h, Monitor.quieted, Monitor.toSilent]
    have state : ((s.monitors.get l).quieted s.ms).state = .silent := rfl
    rw [sense_zone, if_pos left, state, onActivity_silent]

/-! ## Auto-on -/

/-- MAIN takes the offer of an entry to ACTIVE (R35). -/
theorem autoOn_effect {s : State} {l : LinkId} {i : SrcId} (h : (s.monitors.get l).state = .silent)
    (standby : (s.zones.get 0).power = .standby) (input : (s.sources.get i).input = some l)
    (auto : (s.sources.get i).autoOn = true)
    (lowest : ∀ j : SrcId, j < i → ¬((s.sources.get j).input = some l ∧ (s.sources.get j).autoOn = true)) :
    ∃ t, exec (.monitorActive l) s = .next t ∧ (t.zones.get 0).selected = some i ∧ (t.zones.get 0).bound = some i ∧
       (t.zones.get 0).power = .starting ∧ (t.zones.get 0).drive = .centre ∧ (t.zones.get 0).lastChanged = .auto ∧
       (t.zones.get 0).justBound s (some i) (s.zones.get 0).rate ∧
       ∀ p, (t.ports.get p).flags.get Flag.signal.index = true ∧ (t.ports.get p).flags.get (Flag.zone 0).index = true := by
  have silent : (s.monitors.get l).state ≠ .active := by rw [h]; decide
  have zone := activated_zone silent 0
  have power : ((s.activated l).zones.get 0).power = .standby := by rw [zone]; split <;> exact standby
  have rate : ((s.activated l).zones.get 0).rate = (s.zones.get 0).rate := by rw [zone]; split <;> rfl
  have done := monitorActive_step h
  rw [setMonitor_toActive silent, offerAutoOn_taken power (autoOnEntry_lowest input auto lowest)] at done
  obtain ⟨u, frame, bound, origin, starting, selected, drive, -⟩ := autoOnTaken_main (s := s.activated l) i power
  obtain ⟨links, -, sources, -, tuner, -⟩ := frame
  rw [rate] at bound
  have taken : ((autoOnTaken (s.activated l) i).zones.get 0).justTaken s (some i) (s.zones.get 0).rate :=
    justTaken_state (s := u) (fun k => by rw [links]; rfl) sources.symm (by rw [tuner]; rfl)
      (fun on => absurd (starting.symm.trans on) (by decide)) bound.1
  have ⟨ofBound, _⟩ := taken
  exact ⟨_, done, selected, ofBound, starting, drive, origin, ⟨taken, bound.2⟩, fun p => ⟨autoOnTaken_signal _ i p,
    zone_flag_of_step done nofun nofun (by rw [standby, starting]; decide) p⟩⟩

/-- The offer of an entry to ACTIVE lapses (R35). -/
theorem autoOn_lapses {s : State} {l : LinkId} (h : (s.monitors.get l).state = .silent)
    (lapse : (s.zones.get 0).power ≠ .standby ∨
      ∀ j : SrcId, ¬((s.sources.get j).input = some l ∧ (s.sources.get j).autoOn = true)) :
    ∃ t, exec (.monitorActive l) s = .next t ∧
       t = { s with
         monitors := setAt s.monitors l { s.monitors.get l with
           state := .active, run := 0, quietTimer := some { start := s.ms, len := 1000 }, whole := false, loud := false }
         zones := t.zones, ports := s.ports.raise (.link l) } ∧
       ∀ z, t.zones.get z =
         if (s.zones.get z).link = some l then { s.zones.get z with countdown := none } else s.zones.get z := by
  have silent : (s.monitors.get l).state ≠ .active := by rw [h]; decide
  have power : ((s.activated l).zones.get 0).power = (s.zones.get 0).power := by
    rw [activated_zone silent 0]
    split <;> rfl
  have unoffered : offerAutoOn (s.activated l) l = s.activated l :=
    offerAutoOn_lapses (lapse.imp (fun e => by rwa [power]) autoOnEntry_none)
  have flag : s.ports.raiseIf ((s.monitors.get l).state != ((s.monitors.get l).toActive s.ms).state) (.link l) =
      s.ports.raise (.link l) := by
    rw [h]
    rfl
  have done := monitorActive_step h
  rw [setMonitor_toActive silent, unoffered] at done
  refine ⟨_, done, ?_, activated_zone silent⟩
  rw [← flag]
  rfl

/-! ## Loud frames and blocks -/

theorem frameLoud_iff (map : BitVec 8) (magnitude : Pos → Nat) :
    frameLoud map magnitude = true ↔ ∃ p, present map p = true ∧ 256 ≤ magnitude p := by
  have ids (p : Pos) : p ∈ posIds := by revert p; decide
  simp [frameLoud, presentList, ids]

/-- A truth value said in two ways that agree. -/
theorem eq_of_iff_true {a b : Bool} {p : Prop} (h : a = true ↔ p) (k : b = true ↔ p) : a = b :=
  Bool.eq_iff_iff.mpr (h.trans k.symm)

theorem bsfMagnitude_loud (d : Descriptor) (k : Nat) (g : MantissaFrame) (p : Pos) :
    256 ≤ bsfMagnitude d k g p ↔ d.expo k p ≤ 8 ∧ 256 ≤ (g.get p).toInt.natAbs * 2 ^ d.expo k p := by
  unfold bsfMagnitude
  split
  next small => simp [small]
  next large => simp [large]

theorem bsfLoud_iff (d : Descriptor) (fs : List MantissaFrame) : bsfLoud d fs = true ↔
    ∃ (k : Nat) (g : MantissaFrame) (p : Pos) (e : Nat), fs[k]? = some g ∧ present d.map p = true ∧
      e = ((if k < 32 then d.expo1 else d.expo2).get p).toNat ∧ e ≤ 8 ∧ 256 ≤ (g.get p).toInt.natAbs * 2 ^ e := by
  have frames (b : Bool) : b ∈ (List.range fs.length).zipWith (fun k f => frameLoud d.map (bsfMagnitude d k f)) fs ↔
      ∃ k g, fs[k]? = some g ∧ frameLoud d.map (bsfMagnitude d k g) = b := by
    rw [List.mem_iff_getElem?]
    refine exists_congr fun k => ?_
    rw [List.getElem?_zipWith]
    constructor
    · intro h
      cases hg : fs[k]? with
      | none => simp [hg] at h
      | some g =>
        obtain ⟨lt, -⟩ := List.getElem?_eq_some_iff.mp hg
        rw [hg, List.getElem?_range lt] at h
        exact ⟨g, rfl, Option.some.inj h⟩
    · rintro ⟨g, hg, rfl⟩
      obtain ⟨lt, -⟩ := List.getElem?_eq_some_iff.mp hg
      rw [hg, List.getElem?_range lt]
  rw [bsfLoud, List.any_eq_true]
  constructor
  · rintro ⟨b, mem, loud⟩
    obtain ⟨k, g, hg, rfl⟩ := (frames b).mp mem
    obtain ⟨p, here, magnitude⟩ := (frameLoud_iff _ _).mp loud
    obtain ⟨small, large⟩ := (bsfMagnitude_loud d k g p).mp magnitude
    exact ⟨k, g, p, d.expo k p, hg, here, expo_eq d k p, small, large⟩
  · rintro ⟨k, g, p, e, hg, here, he, small, large⟩
    rw [← expo_eq] at he
    subst he
    have loud := (frameLoud_iff _ _).mpr ⟨p, here, (bsfMagnitude_loud d k g p).mpr ⟨small, large⟩⟩
    exact ⟨true, (frames true).mpr ⟨k, g, hg, loud⟩, rfl⟩

end Sys2Proof.Machine
end

section
/-! The monitor of a LOCKED link: the obligation, from what a frame and a block leave of it. -/

namespace Sys2Proof.Machine

/-! ## A frame at the monitor -/

/-- A LOCKED link has a frame to send, on the grid, and its block in delivery and the one in reading are 64 together. -/
def Link.sending (d : Descriptor) (g : RawFrame) (rest : List RawFrame) (f : LinkFrame) (r : Link) : Prop :=
  r.state = .locked ∧ r.delivery = some { desc := d, frames := g :: rest } ∧ (g :: rest).length + r.reading.length = 64 ∧
  (f.longSync = true → r.reading = [])

/-- The monitors when a LOCKED link has sent a frame. -/
theorem blockFront_monitors {s : State} {l : LinkId} {d : Descriptor} {g : RawFrame} {rest : List RawFrame} (f : LinkFrame)
    (h : (s.links.get l).delivery = some { desc := d, frames := g :: rest }) : (blockFront s l f).monitors =
      setAt s.monitors l ((s.monitors.get l).heard s.ms (decide (rest.length = 63)) rest.isEmpty
        (frameLoud d.map (pcmMagnitude ((s.links.get l).frameRead d g).1))) := by
  have sends : ((restartLoss s l).links.get l).delivery = some { desc := d, frames := g :: rest } := by
    rw [restartLoss_get]
    exact h
  have read : ((restartLoss s l).links.get l).frameRead d g = (s.links.get l).frameRead d g := by
    rw [restartLoss_get]
    rfl
  obtain ⟨⟨-, monitors, -, -, -, -, ms, -⟩, -⟩ := frameToZones_passes ((restartLoss s l).updLink l (Link.sends d g rest)) l
    { samples := ((s.links.get l).frameRead d g).1, vals := if decide (rest.length = 63) then some d.vals else none }
  rw [blockFront, lockedTaken_monitors, deliverFrame_frame sends, monitorFrame_eq, setMonitor_monitors, read, monitors, ms]
  rfl

theorem blockFront_monitors_undelivered {s : State} {l : LinkId} (f : LinkFrame) (h : (s.links.get l).delivery = none) :
    (blockFront s l f).monitors = s.monitors := by
  rw [blockFront, lockedTaken_monitors, deliverFrame_none (by rw [restartLoss_get]; exact h)]
  rfl

theorem linkFrame_withinBlock {s : State} {l : LinkId} {d : Descriptor} {g : RawFrame} {rest : List RawFrame} {f : LinkFrame}
    (h : (s.links.get l).sending d g rest f) (more : rest ≠ []) : linkFrame s l f = blockFront s l f := by
  obtain ⟨state, -, both, grid⟩ := h
  have short : ((blockFront s l f).links.get l).reading.length ≠ 64 := by
    have some := List.length_pos_iff.mpr more
    rw [blockFront_reading]
    simp only [List.length_append, List.length_cons, List.length_nil] at both ⊢
    omega
  rw [linkFrame_locked f state, lockedFrame_onGrid (by rw [restartLoss_get]; exact fun e => e.2 (grid e.1))]
  exact if_neg short

theorem lastOfBlock_of_sending {r : Link} {d : Descriptor} {g : RawFrame} {f : LinkFrame} (h : r.sending d g [] f) :
    r.lastOfBlock f := by
  obtain ⟨state, -, both, grid⟩ := h
  have n : r.reading.length = 63 := by
    simp only [List.length_cons, List.length_nil] at both
    omega
  refine ⟨state, n, Bool.eq_false_iff.mpr fun long => ?_⟩
  rw [grid long] at n
  exact absurd n (by decide)

theorem turns_monitors (d : Descriptor) (l : LinkId) (r : Link) (s : State) :
    (r.turns d l s).monitors = s.monitors ∧ (r.turns d l s).ms = s.ms := by
  unfold Link.turns formatTurn
  split
  · exact ⟨rfl, rfl⟩
  · obtain ⟨-, monitors, -, -, -, -, ms, -⟩ := announceFormat_frame s l
    exact ⟨monitors, ms⟩

/-- The end of a block that is not for a unit leaves the monitors as the last frame of the block before has left them. -/
theorem linkFrame_monitors_other {s : State} {l : LinkId} {f : LinkFrame} {k : Rate} {next : Option Descriptor} {e : Descriptor}
    (h : (s.links.get l).endsWith f k next)
    (which : next = some e ∨ (next = none ∧ (s.links.get l).errorRun < 2 ∧ (s.links.get l).lastGood = some e))
    (other : e.format ≠ .bsf) : (linkFrame s l f).monitors = (blockFront s l f).monitors := by
  rcases which with rfl | ⟨rfl, few, last⟩
  · rw [linkFrame_goodBlock h, releaseGood_other _ _ other]
    exact (turns_monitors e l _ _).1
  · have good : (((blockFront s l f).updLink l Link.blockBad).links.get l).lastGood = some e := by
      obtain ⟨code, hold, delivery, record⟩ := badBlock_record s l f
      rw [record]
      exact last
    rw [linkFrame_badBlock h few, releaseBad_other _ good other]
    rfl

/-- The samples that go out, as the statement names them. -/
theorem frameRead_samples {d : Descriptor} {g : RawFrame} {r : Link} {x : Vector Sample 8}
    (h : x = (if d.format = .pcm then (readSlots 0 (pcmSlot g) d.map r.hold).1 else Vector.ofFn fun _ => 0)) :
    (r.frameRead d g).1 = x := by
  rw [h, Link.frameRead]
  split <;> rfl

/-- A frame of a block, its last not yet to go out, at the monitor (R31 to R33). -/
theorem frame_monitor {s : State} {l : LinkId} {f : LinkFrame} {d : Descriptor} {g : RawFrame} {rest : List RawFrame}
    {x : Vector Sample 8} {m : Monitor} {loud : Bool} (h : (s.links.get l).sending d g rest f) (hm : m = s.monitors.get l)
    (hx : ((s.links.get l).frameRead d g).1 = x)
    (hl : loud = true ↔ ∃ p, present d.map p = true ∧ 256 ≤ (x.get p).toInt.natAbs) (more : rest ≠ []) :
    (∀ k, k ≠ l → (linkFrame s l f).monitors.get k = s.monitors.get k) ∧
      (m.state = .silent → (linkFrame s l f).monitors.get l = { m with
        whole := decide (rest.length = 63) || m.whole, loud := loud || (decide (rest.length ≠ 63) && m.loud) }) ∧
      (m.state = .active → ((linkFrame s l f).monitors.get l).state = .active ∧
        ((linkFrame s l f).monitors.get l).run = m.run ∧
        ((linkFrame s l f).monitors.get l).quietTimer = if loud then some { start := s.ms, len := 1000 } else m.quietTimer) ∧
      (m.state = .noLink → (linkFrame s l f).monitors.get l = m) := by
  have ⟨_, delivery, _⟩ := h
  have isLoud : frameLoud d.map (pcmMagnitude x) = loud := eq_of_iff_true (frameLoud_iff _ _) hl
  have notLast : rest.isEmpty = false := by simpa using more
  have monitors := blockFront_monitors f delivery
  rw [hx, isLoud, ← hm, notLast] at monitors
  rw [linkFrame_withinBlock h more, monitors, setAt_get_self]
  refine ⟨fun k hk => setAt_get_of_ne _ _ (Ne.symm hk), fun hs => ?_, fun ha => ?_, fun hn => heard_noLink hn _ _ _ _⟩
  · rw [heard_silent hs, if_neg fun e => absurd e.1 (by decide)]
    simp [Monitor.marked]
  · rw [heard_active ha]
    exact ⟨ha, rfl, rfl⟩

/-! ## The end of a block at the monitor -/

/-- A block in SILENT as it is judged (R32). -/
theorem judged_effect (now : Millis) (loud : Bool) (m : Monitor) (h : m.state = .silent) :
    (loud = false → m.judged now loud = { m with run := 0 }) ∧
      (loud = true → m.run < 7 → m.judged now loud = { m with run := m.run + 1 }) ∧
      (loud = true → m.run = 7 → m.judged now loud = m.toActive now ∧ (m.judged now loud).state ≠ m.state) := by
  refine ⟨fun e => ?_, fun e few => ?_, fun e eighth => ?_⟩
  · simp [Monitor.judged, e]
  · rw [Monitor.judged, if_pos e, if_neg (by omega)]
  · have active : m.judged now loud = m.toActive now := by rw [Monitor.judged, if_pos e, if_pos (by omega)]
    rw [active, h]
    exact ⟨rfl, fun e => nomatch e⟩

/-- The eighth loud block in a row does what MONITOR_ACTIVE does (R32). -/
theorem eighth_block {c : Instr} {s t : State} {l : LinkId} (done : exec c s = .next t)
    (noReset : ∀ p tag, c ≠ .deviceReset p tag []) (noPower : ∀ pins, c ≠ .powerOnReset pins)
    (h : (s.monitors.get l).state = .silent) (monitor : t.monitors.get l = (s.monitors.get l).toActive s.ms) :
    (∀ p, (t.ports.get p).flags.get (Flag.link l).index = true) ∧
      ∃ u, exec (.monitorActive l) s = .next u ∧ t.monitors.get l = u.monitors.get l := by
  refine ⟨link_flag_of_step done noReset noPower (.inr ?_), _, monitorActive_step h, ?_⟩
  · rw [monitor, h]
    exact (by decide : Activity.silent ≠ .active)
  · rw [monitor, setMonitor_monitors, setAt_get_self]

/-- The last frame of a block, at the monitor (R31 to R33). -/
theorem lastFrame_monitor {s : State} {l : LinkId} {f : LinkFrame} {d : Descriptor} {g : RawFrame}
    {x : Vector Sample 8} {m : Monitor} {loud : Bool} {k : Rate} {next : Option Descriptor} {e : Descriptor}
    (h : (s.links.get l).sending d g [] f) (hm : m = s.monitors.get l)
    (hx : ((s.links.get l).frameRead d g).1 = x)
    (hl : loud = true ↔ ∃ p, present d.map p = true ∧ 256 ≤ (x.get p).toInt.natAbs)
    (ends : (s.links.get l).endsWith f k next)
    (which : next = some e ∨ (next = none ∧ (s.links.get l).errorRun < 2 ∧ (s.links.get l).lastGood = some e))
    (other : e.format ≠ .bsf) :
    ∃ t, exec (.linkFrame l f) s = .next t ∧ (∀ k, k ≠ l → t.monitors.get k = s.monitors.get k) ∧
      (m.state = .silent → m.whole = true → loud = false → m.loud = false →
        (t.monitors.get l).state = .silent ∧ (t.monitors.get l).run = 0) ∧
      (m.state = .silent → m.whole = true → (loud = true ∨ m.loud = true) → m.run < 7 →
        (t.monitors.get l).state = .silent ∧ (t.monitors.get l).run = m.run + 1) ∧
      (m.state = .silent → m.whole = true → (loud = true ∨ m.loud = true) → m.run = 7 →
        (∀ p, (t.ports.get p).flags.get (Flag.link l).index = true) ∧
        ∃ u, exec (.monitorActive l) s = .next u ∧ t.monitors.get l = u.monitors.get l) ∧
      (m.state = .silent → m.whole = false →
        (t.monitors.get l).state = .silent ∧ (t.monitors.get l).run = m.run) ∧
      (m.state = .active → (t.monitors.get l).state = .active ∧ (t.monitors.get l).run = m.run ∧
        (t.monitors.get l).quietTimer = if loud then some { start := s.ms, len := 1000 } else m.quietTimer) ∧
      (m.state = .noLink → t.monitors.get l = m) := by
  have ⟨_, delivery, _⟩ := h
  have isLoud : frameLoud d.map (pcmMagnitude x) = loud := eq_of_iff_true (frameLoud_iff _ _) hl
  have done : exec (.linkFrame l f) s = .next (linkFrame s l f) := rfl
  have monitors := (linkFrame_monitors_other ends which other).trans (blockFront_monitors f delivery)
  rw [hx, isLoud, ← hm] at monitors
  have monitor : (linkFrame s l f).monitors.get l = m.heard s.ms false true loud := by rw [monitors, setAt_get_self]; rfl
  have marked : m.marked false loud = { m with whole := m.whole, loud := loud || m.loud } := rfl
  have judged (hs : m.state = .silent) (whole : m.whole = true) :
      (linkFrame s l f).monitors.get l = (m.marked false loud).judged s.ms (loud || m.loud) := by
    rw [monitor, heard_silent hs, if_pos ⟨rfl, whole⟩]
    rfl
  refine ⟨_, done, fun k hk => by rw [monitors, setAt_get_of_ne _ _ (Ne.symm hk)], fun hs whole quiet was => ?_,
    fun hs whole is few => ?_, fun hs whole is eighth => ?_, fun hs part => ?_, fun ha => ?_, fun hn => ?_⟩
  · have silent := (judged_effect s.ms (loud || m.loud) (m.marked false loud) hs).1 (by simp [quiet, was])
    rw [judged hs whole, silent]
    exact ⟨hs, rfl⟩
  · have silent := (judged_effect s.ms (loud || m.loud) (m.marked false loud) hs).2.1 (by simpa using is) few
    rw [judged hs whole, silent]
    exact ⟨hs, rfl⟩
  · have active := ((judged_effect s.ms (loud || m.loud) (m.marked false loud) hs).2.2 (by simpa using is) eighth).1
    refine eighth_block done nofun nofun (hm ▸ hs) ?_
    rw [judged hs whole, active, ← hm]
    rfl
  · have partly : (m.marked false loud).whole ≠ true := by simp [marked, part]
    rw [monitor, heard_silent hs, if_neg fun e => partly e.2]
    exact ⟨hs, rfl⟩
  · rw [monitor, heard_active ha]
    exact ⟨ha, rfl, rfl⟩
  · rw [monitor, heard_noLink hn]

theorem unitTurn_monitors (s : State) (l : LinkId) (d : Descriptor) (m : List MantissaFrame) :
    (unitTurn s l d m).monitors = s.monitors ∧ (unitTurn s l d m).ms = s.ms := by
  unfold unitTurn
  split
  next u _ =>
    unfold unitTakesBlock
    dsimp only
    split
    · exact ⟨rfl, rfl⟩
    · split <;> exact ⟨rfl, rfl⟩
    · split
      · obtain ⟨-, monitors, -, -, -, -, ms, -⟩ := clearDecodeMute_frame (s.updUnit u (outputDecoded d m)) u
        exact ⟨monitors, ms⟩
      · exact ⟨rfl, rfl⟩
  · exact ⟨rfl, rfl⟩

/-- The end of a block for a unit: the monitors after it. -/
theorem linkFrame_monitors_bsf {s : State} {l : LinkId} {f : LinkFrame} {k : Rate} {d : Descriptor}
    {mant : List MantissaFrame} {loud : Bool} (rate : (s.links.get l).lastOfBlock f ∧ (s.links.get l).rate = some k ∧
      Rate.isMatch ((s.links.get l).blockTicks + f.ticks) k = true) (none : (s.links.get l).delivery = none) (bsf : d.format = .bsf)
    (hm : mant = (readMantissas d.map (s.links.get l).hold ((s.links.get l).reading ++ [rawFrame f])).1)
    (which : (blockDescriptor (some k) ((s.links.get l).reading ++ [rawFrame f]) = some d ∧ bsfLoud d mant = loud) ∨
      (blockDescriptor (some k) ((s.links.get l).reading ++ [rawFrame f]) = .none ∧ (s.links.get l).errorRun < 2 ∧
        (s.links.get l).lastGood = some d ∧ loud = false)) :
    (linkFrame s l f).monitors = setAt s.monitors l ((s.monitors.get l).heardBlock s.ms loud) := by
  have front := blockFront_monitors_undelivered f none
  obtain ⟨-, -, -, -, -, ms, -⟩ := blockFront_around s l f
  rcases which with ⟨good, isLoud⟩ | ⟨bad, few, last, rfl⟩
  · obtain ⟨sameHold, -⟩ := blockFront_undelivered f none
    have hold : (((blockFront s l f).updLink l fun r => r.countSequence d).links.get l).hold = (s.links.get l).hold := by
      rw [State.updLink_get_self, countSequence_eq, sameHold]
    rw [linkFrame_goodBlock ⟨rate.1, rate.2.1, rate.2.2, good⟩, releaseGood_bsf _ _ bsf, hold, ← hm, isLoud, monitorBlock_eq,
      setMonitor_monitors, (turns_monitors _ _ _ _).1, (turns_monitors _ _ _ _).2, (unitTurn_monitors _ _ _ _).1,
      (unitTurn_monitors _ _ _ _).2]
    have monitors : (((blockFront s l f).updLink l fun r => r.countSequence d).updLink l
        (Link.adoptBsf d ((s.links.get l).reading ++ [rawFrame f]))).monitors = s.monitors := front
    have now : (((blockFront s l f).updLink l fun r => r.countSequence d).updLink l
        (Link.adoptBsf d ((s.links.get l).reading ++ [rawFrame f]))).ms = s.ms := ms
    rw [monitors, now]
  · have lastGood : (((blockFront s l f).updLink l Link.blockBad).links.get l).lastGood = some d := by
      obtain ⟨code, hold, delivery, record⟩ := badBlock_record s l f
      rw [record]
      exact last
    obtain ⟨-, monitors, -, -, -, -, quietMs, -⟩ := unitQuiet_frame ((blockFront s l f).updLink l Link.blockBad) l
    have before : ((blockFront s l f).updLink l Link.blockBad).monitors = s.monitors := front
    have now : ((blockFront s l f).updLink l Link.blockBad).ms = s.ms := ms
    rw [linkFrame_badBlock ⟨rate.1, rate.2.1, rate.2.2, bad⟩ few, releaseBad_bsf _ lastGood bsf, monitorBlock_eq,
      setMonitor_monitors, monitors, quietMs, before, now]

/-- A block for a unit, at the monitor (R31 to R33). -/
theorem block_monitor {c : Instr} {s t : State} {l : LinkId} {m : Monitor} {loud : Bool} (done : exec c s = .next t)
    (noReset : ∀ p tag, c ≠ .deviceReset p tag []) (noPower : ∀ pins, c ≠ .powerOnReset pins) (hm : m = s.monitors.get l)
    (monitors : t.monitors = setAt s.monitors l (m.heardBlock s.ms loud)) :
    (∀ k, k ≠ l → t.monitors.get k = s.monitors.get k) ∧
      (m.state = .silent → loud = false → t.monitors.get l = { m with run := 0 }) ∧
      (m.state = .silent → loud = true → m.run < 7 → t.monitors.get l = { m with run := m.run + 1 }) ∧
      (m.state = .silent → loud = true → m.run = 7 →
        (∀ p, (t.ports.get p).flags.get (Flag.link l).index = true) ∧
        ∃ u, exec (.monitorActive l) s = .next u ∧ t.monitors.get l = u.monitors.get l) ∧
      (m.state = .active → t.monitors.get l = { m with
        quietTimer := if loud then some { start := s.ms, len := 1000 } else m.quietTimer }) ∧
      (m.state = .noLink → t.monitors.get l = m) := by
  have monitor : t.monitors.get l = m.heardBlock s.ms loud := by rw [monitors, setAt_get_self]
  refine ⟨fun k hk => by rw [monitors, setAt_get_of_ne _ _ (Ne.symm hk)], fun hs quiet => ?_, fun hs is few => ?_,
    fun hs is eighth => ?_, fun ha => ?_, fun hn => ?_⟩
  · rw [monitor, heardBlock_silent hs, (judged_effect s.ms loud m hs).1 quiet]
  · rw [monitor, heardBlock_silent hs, (judged_effect s.ms loud m hs).2.1 is few]
  · have active := ((judged_effect s.ms loud m hs).2.2 is eighth).1
    refine eighth_block done noReset noPower (hm ▸ hs) ?_
    rw [monitor, heardBlock_silent hs, active, ← hm]
  · rw [monitor, heardBlock_active ha]
    rfl
  · rw [monitor, heardBlock_noLink hn]

/-- Settles O22. -/
theorem monitorEvents : Obligations.MonitorEvents := by
  refine ⟨⟨fun s l h => monitorActive_effect h, fun s l h => quietTimerExpiry_waits h,
      fun s l h up => quietTimerExpiry_effect h up⟩,
    fun s l f d g rest x m loud locked delivery both grid hm hx hl => ⟨fun more => ?_,
      fun r next e last rate inTime hn which other => ?_⟩,
    fun s l f r d m mant loud locked n short rate inTime none hm bsf hmant which => ?_,
    fun s l i h standby input auto lowest => autoOn_effect h standby input auto lowest, fun s l h lapse => autoOn_lapses h lapse⟩
  · exact ⟨_, rfl, frame_monitor ⟨locked, delivery, both, grid⟩ hm (frameRead_samples hx) hl more⟩
  · subst last
    have sending : (s.links.get l).sending d g [] f := ⟨locked, delivery, both, grid⟩
    exact lastFrame_monitor sending hm (frameRead_samples hx) hl
      ⟨lastOfBlock_of_sending sending, rate, inTime, hn.symm⟩ which other
  · have done := blockEnd_step f (.inl locked) n
    have monitors := linkFrame_monitors_bsf (loud := loud) ⟨⟨locked, n, short⟩, rate, inTime⟩ none bsf hmant
      (which.imp_left fun good => ⟨good.1, eq_of_iff_true (bsfLoud_iff d mant) good.2⟩)
    rw [← hm] at monitors
    exact ⟨_, done, block_monitor done nofun nofun hm monitors⟩

end Sys2Proof.Machine
end

section
/-! What the entry of a link to LOCKED does to the zones on it (R68, R71, R78, R79). -/

namespace Sys2Proof.Machine

/-! ## A zone that keeps its binding -/

/-- What the entry of link `x` to LOCKED leaves of the record of a zone that keeps its binding. -/
def Zone.atLock (x : Link) (r y : Zone) : Prop :=
  r.bindingKept y ∧ y.mutes.noSignal = false ∧ y.mutes.format = x.unplayable ∧ y.qr = r.qr ∧
  (r.clockInEffect = .follow → y.clockState = (if x.rate = some r.rate then .lockedToSource else .holdover) ∧
    y.mutes.rateMismatch = false) ∧
  ∀ k, ((r.clockInEffect = .local48 ∧ k = .r48) ∨ (r.clockInEffect = .local44 ∧ k = .r44)) →
    y.clockState = r.clockState ∧ y.mutes.rateMismatch = decide (x.rate ≠ some k)

theorem atLock_of_onLink {x : Link} {r y : Zone} (h : x.state = .locked) (e : y.sansArbiter = (r.onLink x).sansArbiter) :
    r.atLock x y ∧ y.path = r.path := by
  obtain ⟨kept, signal, format, path, qr, clock⟩ := onLink_locked h e
  exact ⟨⟨kept, signal, format, qr, clock⟩, path⟩

/-- Frames before the entry and a countdown do not count. -/
theorem atLock_before {x : Link} {n : Nat} {r r' y : Zone} {c : Option Timer} (took : Zone.took n { r with countdown := c } r')
    (h : r'.atLock x y) : r.atLock x y := by
  have apart (r : Zone) : r.atLock x y = Zone.atLock x { r.sansFrames with countdown := none } y := rfl
  have same : ({ r'.sansFrames with countdown := none } : Zone) = { r.sansFrames with countdown := none } :=
    (congrArg (fun r : Zone => ({ r with countdown := none } : Zone)) (took_sansFrames took) :)
  rw [apart, ← same, ← apart]
  exact h

/-- Frames after it do not count. -/
theorem atLock_after {x : Link} {n : Nat} {r y y' : Zone} (h : r.atLock x y) (took : y.took n y') : r.atLock x y' := by
  have apart (y : Zone) : r.atLock x y = r.atLock x y.sansFrames := rfl
  rw [apart, took_sansFrames took, ← apart]
  exact h

theorem atLock_core {x x' : Link} {r y : Zone} (core : x'.core = x.core) (h : r.atLock x y) : r.atLock x' y := by
  have apart (x : Link) : r.atLock x y = r.atLock x.core y := rfl
  rw [apart, core, ← apart]
  exact h

/-! ## A rebind cause -/

/-- A zone that plays fades at a rebind cause (R68). -/
theorem rebindCause_plays {s : State} {z : ZoneId} (power : (s.zones.get z).power.isBound = true)
    (running : (s.zones.get z).power ≠ .starting) (path : (s.zones.get z).path = .playing) (qr : (s.zones.get z).qr ≠ none) :
    rebindCause s z = s.autoZone z fun r => { r with path := .fading } := by
  unfold rebindCause
  dsimp only
  rw [path]
  cases h : (s.zones.get z).power with
  | starting => exact absurd h running
  | standby => rw [h] at power; exact absurd power (by decide)
  | drain => rw [h] at power; exact absurd power (by decide)
  | on => exact if_neg qr
  | rampDown => exact if_neg qr

/-- A zone binds at once at a rebind cause: in STARTING, and where it neither plays audibly nor fades (R68). -/
def Zone.bindsNow (r : Zone) : Prop :=
  r.power.isBound = true ∧ (r.power = .starting ∨ r.path = .idle ∨ r.path = .filling ∨ (r.path = .playing ∧ r.qr = none))

theorem rebindCause_binds {s : State} {z : ZoneId} (h : (s.zones.get z).bindsNow) : rebindCause s z = bindZone s z true := by
  obtain ⟨bound, which⟩ := h
  unfold rebindCause
  dsimp only
  cases power : (s.zones.get z).power with
  | starting => rfl
  | standby => rw [power] at bound; exact absurd bound (by decide)
  | drain => rw [power] at bound; exact absurd bound (by decide)
  | on =>
    obtain start | path | path | ⟨path, qr⟩ := which
    · rw [power] at start; exact absurd start (by decide)
    · rw [path]
    · rw [path]
    · rw [path]; exact if_pos qr
  | rampDown =>
    obtain start | path | path | ⟨path, qr⟩ := which
    · rw [power] at start; exact absurd start (by decide)
    · rw [path]
    · rw [path]
    · rw [path]; exact if_pos qr

/-- Whether a zone binds at once does not hang on what the announcement or the arbiter writes. -/
theorem bindsNow_onLink {x : Link} {r y : Zone} (e : y.sansArbiter = (r.onLink x).sansArbiter) (h : r.bindsNow) : y.bindsNow := by
  rw [Zone.onLink_eq] at e
  have power : y.power = r.power := (congrArg Zone.power e :)
  have path : y.path = r.path := (congrArg Zone.path e :)
  have qr : y.qr = r.qr := (congrArg Zone.qr e :)
  rw [Zone.bindsNow, power, path, qr]
  exact h

/-- A zone whose rate is to change and that binds at once. -/
theorem zoneOnLink_binds {l : LinkId} {s : State} {z : ZoneId} (link : (s.zones.get z).link = some l)
    (moved : rateChanged (s.links.get l) (s.zones.get z) = true) (h : (s.zones.get z).bindsNow) :
    zoneOnLink l s z = bindZone (s.autoZone z (Zone.onLink (s.links.get l))) z true := by
  have record := autoZone_zone_sansArbiter s z (Zone.onLink (s.links.get l))
  rw [zoneOnLink_on link, if_pos moved]
  generalize s.autoZone z (Zone.onLink (s.links.get l)) = t at record ⊢
  exact rebindCause_binds (bindsNow_onLink record h)

/-- The record of a zone that binds at once at the announcement of its link. -/
theorem zoneOnLink_justTaken {l : LinkId} {s : State} {z : ZoneId} (link : (s.zones.get z).link = some l)
    (moved : rateChanged (s.links.get l) (s.zones.get z) = true) (h : (s.zones.get z).bindsNow) :
    ((zoneOnLink l s z).zones.get z).justBound s (s.zones.get z).selected (s.zones.get z).rate ∧
      ((zoneOnLink l s z).zones.get z).power = (s.zones.get z).power := by
  have record := autoZone_zone_sansArbiter s z (Zone.onLink (s.links.get l))
  obtain ⟨links, monitors, sources, -, tuner, -, ms, -⟩ := autoZone_frame s z (Zone.onLink (s.links.get l))
  rw [Zone.onLink_eq] at record
  rw [zoneOnLink_binds link moved h]
  generalize s.autoZone z (Zone.onLink (s.links.get l)) = t at record links monitors sources tuner ms ⊢
  obtain ⟨⟨taken, empty⟩, power, -⟩ := bindZone_justBound t z true
  generalize (bindZone t z true).zones.get z = x at taken empty power ⊢
  have selected : (t.zones.get z).selected = (s.zones.get z).selected := (congrArg Zone.selected record :)
  have rate : (t.zones.get z).rate = (s.zones.get z).rate := (congrArg Zone.rate record :)
  have before : (t.zones.get z).power = (s.zones.get z).power := (congrArg Zone.power record :)
  rw [selected, rate] at taken
  refine ⟨⟨justTaken_state (fun k => by rw [links]) sources.symm (by rw [tuner]) (fun _ => ⟨ms.symm, ?_⟩) taken, empty⟩,
    power.trans before⟩
  rw [Zone.quiet, Zone.quiet, monitors]

/-- A zone whose rate is to change and that plays goes to FADING (R68). -/
theorem zoneOnLink_fades {l : LinkId} {s : State} {z : ZoneId} (link : (s.zones.get z).link = some l)
    (moved : rateChanged (s.links.get l) (s.zones.get z) = true) (bound : (s.zones.get z).power.isBound = true)
    (running : (s.zones.get z).power ≠ .starting) (path : (s.zones.get z).path = .playing) (qr : (s.zones.get z).qr ≠ none) :
    ((zoneOnLink l s z).zones.get z).sansArbiter =
      { (s.zones.get z).onLink (s.links.get l) with path := .fading }.sansArbiter := by
  have record := autoZone_zone_sansArbiter s z (Zone.onLink (s.links.get l))
  rw [zoneOnLink_on link, if_pos moved]
  generalize s.autoZone z (Zone.onLink (s.links.get l)) = t at record ⊢
  have kept := record
  rw [Zone.onLink_eq] at kept
  have power : (t.zones.get z).power = (s.zones.get z).power := (congrArg Zone.power kept :)
  have plays : (t.zones.get z).path = (s.zones.get z).path := (congrArg Zone.path kept :)
  have level : (t.zones.get z).qr = (s.zones.get z).qr := (congrArg Zone.qr kept :)
  rw [rebindCause_plays (by rwa [power]) (by rwa [power]) (plays.trans path) (by rwa [level]), autoZone_zone_sansArbiter]
  exact congrArg (fun r : Zone => ({ r with path := .fading } : Zone)) record

/-! ## Frames after a binding -/

/-- Frames after a binding, fewer than 64, leave what it took. -/
theorem justTaken_took {n : Nat} {y y' : Zone} {s : State} {selected : Option SrcId} {rate : Rate}
    (h : y.justBound s selected rate) (took : y.took n y') (few : n < 64) :
    y'.justTaken s selected rate ∧ y'.power = y.power := by
  have apart (y : Zone) : y.justTaken s selected rate =
      Zone.justTaken { y.sansFrames with path := y.path, refilling := y.refilling } s selected rate := rfl
  obtain ⟨taken, empty⟩ := h
  obtain ⟨path, refilling⟩ := took_below took (by rw [empty]; exact (Nat.zero_add n).trans_lt few)
  refine ⟨?_, (congrArg Zone.power (took_sansFrames took) :)⟩
  rw [apart, path, refilling, took_sansFrames took, ← apart]
  exact taken

end Sys2Proof.Machine
end

section
/-! The entry of a link to LOCKED, from ALIGN and from RECOVER (R14, R16). -/

namespace Sys2Proof.Machine

/-! ## The zones at the entry -/

/-- What stands between the announcement of a lock and the end of its step, as a zone sees it. -/
def lockSettles (v t : State) (l : LinkId) : Prop :=
  (∀ k, (t.links.get k).core = (v.links.get k).core) ∧ t.sources = v.sources ∧ t.tuner = v.tuner ∧ t.ms = v.ms ∧
  ∀ k, (t.monitors.get k).state = .active ↔ ((monitorOnLink v l).monitors.get k).state = .active

/-- A zone's record as the announcement finds it: some frames, and a countdown. -/
theorem monitorOnLink_took {s v : State} (l : LinkId) {z : ZoneId} (before : (s.zones.get z).took 1 (v.zones.get z)) :
    ∃ c, Zone.took 1 { s.zones.get z with countdown := c } ((monitorOnLink v l).zones.get z) := by
  obtain ⟨c, record, -⟩ := sense_countdown v l ((v.monitors.get l).onLink (v.links.get l) v.ms) z
  refine ⟨c, ?_⟩
  rw [monitorOnLink_eq, record]
  exact took_countdown c before

/-- What a zone that kept its binding at a lock shows at the end of the step. -/
theorem atLock_final {t : State} {l : LinkId} {x : Link} {r w y : Zone} {n m : Nat} {c : Option Timer} {u : Zone}
    (core : (t.links.get l).core = x.core) (took : Zone.took n { r with countdown := c } u) (h : u.atLock x w)
    (after : w.took m y) :
    r.bindingKept y ∧ y.atLockMutes t l ∧ y.qr = r.qr ∧
      (r.clockInEffect = .follow → y.clockState = (if x.rate = some r.rate then .lockedToSource else .holdover) ∧
        y.mutes.rateMismatch = false) ∧
      ∀ k, ((r.clockInEffect = .local48 ∧ k = .r48) ∨ (r.clockInEffect = .local44 ∧ k = .r44)) →
        y.clockState = r.clockState ∧ y.mutes.rateMismatch = decide (x.rate ≠ some k) := by
  obtain ⟨kept, signal, format, qr, clock⟩ := atLock_after (atLock_before took h) after
  have unplayable : (t.links.get l).unplayable = x.unplayable := (congrArg Link.unplayable core :)
  exact ⟨kept, ⟨signal, format.trans unplayable.symm⟩, qr, clock⟩

theorem rateChanged_iff {x : Link} (h : x.state = .locked) (r : Zone) :
    rateChanged x r = true ↔ r.clockInEffect = .follow ∧ x.rate ≠ some r.rate := by simp [rateChanged, h]

/-- The state in which the announcement of a lock reaches a zone, and what it makes of it. -/
theorem lock_turn {s v : State} {l : LinkId} {z : ZoneId} (link : (s.zones.get z).link = some l)
    (before : (s.zones.get z).took 1 (v.zones.get z)) : ∃ u c,
      zoneFrameKept (monitorOnLink v l) u ∧ (u.zones.get z).link = some l ∧
      Zone.took 1 { s.zones.get z with countdown := c } (u.zones.get z) ∧
      ((announceState v l).zones.get z).sansArbiter = ((zoneOnLink l u z).zones.get z).sansArbiter := by
  obtain ⟨u, seen, told⟩ := announceState_turn v l z
  obtain ⟨c, took⟩ := monitorOnLink_took l before
  have took' : Zone.took 1 { s.zones.get z with countdown := c } (u.zones.get z) :=
    took.trans (took_of_sansArbiter (n := 0) (about_zone seen))
  obtain ⟨-, onLink, -⟩ := took_kept took'
  exact ⟨u, c, about_frame seen, onLink.trans link, took', about_zone told⟩

/-- A zone that fades, or that plays and is to fade, goes on at the lock as it is, and fades after it. -/
theorem fades_at_lock {u : State} {l : LinkId} {z : ZoneId} {r : Zone} {x : Link} {c : Option Timer} (state : x.state = .locked)
    (link : u.links.get l = x) (onLink : (u.zones.get z).link = some l) (bound : (u.zones.get z).power.isBound = true)
    (moved : rateChanged x (u.zones.get z) = true) (took : Zone.took 1 { r with countdown := c } (u.zones.get z))
    (running : r.power ≠ .starting) (path : r.path = .fading ∨ (r.path = .playing ∧ r.qr ≠ none)) :
    ∃ w, (u.zones.get z).atLock x w ∧ w.path = .fading ∧ w.power = (u.zones.get z).power ∧
      ((zoneOnLink l u z).zones.get z).sansArbiter = w.sansArbiter := by
  obtain ⟨-, -, power⟩ := took_kept took
  have runs : (u.zones.get z).power ≠ .starting := by rwa [power]
  have ofOnLink := (u.zones.get z).onLink_eq x
  rcases path with path | ⟨path, qr⟩
  · have pathThen : (u.zones.get z).path = .fading := (took_path took (by rw [path]; decide)).trans path
    have record : ((zoneOnLink l u z).zones.get z).sansArbiter = ((u.zones.get z).onLink x).sansArbiter := by
      rw [zoneOnLink_goesOn onLink fun _ => ⟨runs, pathThen⟩, autoZone_zone_sansArbiter, link]
    obtain ⟨atLock, same⟩ := atLock_of_onLink state rfl
    exact ⟨_, atLock, same.trans pathThen, by rw [ofOnLink], record⟩
  · have pathThen : (u.zones.get z).path = .playing := (took_path took (by rw [path]; decide)).trans path
    have qrThen : (u.zones.get z).qr ≠ none := by
      have level : (u.zones.get z).qr = r.qr := (congrArg Zone.qr (took_sansFrames took) :)
      rwa [level]
    have record := zoneOnLink_fades onLink (by rwa [link]) bound runs pathThen qrThen
    rw [link] at record
    have atLock := (atLock_of_onLink (r := u.zones.get z) state rfl).1
    exact ⟨{ (u.zones.get z).onLink x with path := .fading }, atLock, rfl, by rw [ofOnLink], record⟩

/-- A zone that is to bind anew still is after the frame that comes before the announcement. -/
theorem binds_at_lock {r y : Zone} {c : Option Timer} (took : Zone.took 1 { r with countdown := c } y) (bound : y.power.isBound = true)
    (which : r.power = .starting ∨ r.path = .idle ∨ (r.path = .filling ∧ (r.qr = none ∨ r.buffer.length ≠ 63)) ∨
      (r.path = .playing ∧ r.qr = none)) : y.bindsNow := by
  obtain ⟨-, -, power⟩ := took_kept took
  have level : y.qr = r.qr := (congrArg Zone.qr (took_sansFrames took) :)
  refine ⟨bound, ?_⟩
  obtain start | path | ⟨path, qr⟩ | ⟨path, qr⟩ := which
  · exact .inl (power.trans start)
  · exact .inr (.inl ((took_path took (by rw [path]; decide)).trans path))
  · rcases qr with qr | short
    · rcases took_ends took path with filling | playing
      · exact .inr (.inr (.inl filling))
      · exact .inr (.inr (.inr ⟨playing, level.trans qr⟩))
    · exact .inr (.inr (.inl ((took_one_path took short).trans path)))
  · exact .inr (.inr (.inr ⟨(took_path took (by rw [path]; decide)).trans path, level.trans qr⟩))

/-- What the entry of a link to LOCKED does to a zone on it, from the announcement and the frames around it. -/
theorem zoneAtLock_of {s v t : State} {l : LinkId} {z : ZoneId} (state : (v.links.get l).state = .locked)
    (rate : (v.links.get l).rate = (s.links.get l).rate) (before : (s.zones.get z).took 1 (v.zones.get z))
    (settles : lockSettles v t l)
    (after : ((announceState v l).zones.get z).power.isBound = true → ((announceState v l).zones.get z).took 2 (t.zones.get z)) :
    zoneAtLock s t l z := by
  intro link bound
  obtain ⟨cores, sources, tuner, ms, monitors⟩ := settles
  obtain ⟨u, c, ⟨links, hears, sourcesThen, -, tunerThen, -, msThen, -⟩, onLink, took, told⟩ := lock_turn link before
  have linksThen : u.links = v.links := by rw [links, monitorOnLink_eq]; rfl
  obtain ⟨⟨-, -, clock, ofRate⟩, -, power⟩ := took_kept took
  have boundThen : (u.zones.get z).power.isBound = true := by rwa [power]
  have moves := rateChanged_iff state (u.zones.get z)
  rw [clock, ofRate, rate] at moves
  generalize (announceState v l).zones.get z = w at after told
  -- a zone that goes on keeps its binding
  have goes (go : (u.zones.get z).goesOn (v.links.get l)) :
      (u.zones.get z).atLock (v.links.get l) w ∧ w.path = (u.zones.get z).path ∧ w.took 2 (t.zones.get z) := by
    rw [zoneOnLink_goesOn onLink (by rwa [linksThen]), autoZone_zone_sansArbiter, linksThen] at told
    obtain ⟨atLock, path⟩ := atLock_of_onLink state told
    have running : w.power = (u.zones.get z).power := by
      rw [Zone.onLink_eq] at told
      exact (congrArg Zone.power told :)
    exact ⟨atLock, path, after (by rwa [running])⟩
  have stays (still : ¬((s.zones.get z).clockInEffect = .follow ∧ (s.links.get l).rate ≠ some (s.zones.get z).rate)) :
      (u.zones.get z).goesOn (v.links.get l) := fun moved => absurd (moves.mp moved) still
  refine ⟨fun k hk => ?_, fun follow same => ?_, fun follow differs => ⟨fun running path => ?_, fun which => ?_⟩⟩
  · obtain ⟨-, notFollow⟩ := localRate_of hk
    obtain ⟨atLock, -, later⟩ := goes (stays fun e => notFollow e.1)
    obtain ⟨kept, mutes, -, -, locals⟩ := atLock_final (cores l) took atLock later
    rw [rate] at locals
    exact ⟨kept, mutes, locals k hk⟩
  · obtain ⟨atLock, -, later⟩ := goes (stays fun e => e.2 same)
    obtain ⟨kept, mutes, -, follows, -⟩ := atLock_final (cores l) took atLock later
    rw [rate, if_pos same] at follows
    exact ⟨kept, mutes, follows follow⟩
  · have moved := moves.mpr ⟨follow, differs⟩
    obtain ⟨w', atLock, fading, runs, record⟩ :=
      fades_at_lock state (congrArg (·.get l) linksThen) onLink boundThen moved took running path
    have same : w.sansArbiter = w'.sansArbiter := told.trans record
    have powers : w.power = w'.power := (congrArg Zone.power same :)
    have later : w'.took 2 (t.zones.get z) :=
      (took_of_sansArbiter (n := 0) same).trans (after (by rwa [powers, runs]))
    obtain ⟨kept, mutes, qr, follows, -⟩ := atLock_final (cores l) took atLock later
    rw [rate, if_neg differs] at follows
    obtain ⟨holdover, mismatch⟩ := follows follow
    exact ⟨kept, mutes, holdover, mismatch, (took_path later (by rw [fading]; decide)).trans fading, qr⟩
  · have binds := binds_at_lock took boundThen which
    obtain ⟨justBound, powerNow⟩ := zoneOnLink_justTaken onLink (by rw [linksThen]; exact moves.mpr ⟨follow, differs⟩) binds
    have running : w.power = (u.zones.get z).power := ((congrArg Zone.power told :) : w.power = _).trans powerNow
    have later : ((zoneOnLink l u z).zones.get z).took 2 (t.zones.get z) :=
      (took_of_sansArbiter (n := 0) told).trans (after (by rwa [running]))
    obtain ⟨taken, powerEnd⟩ := justTaken_took justBound later (by decide)
    have selected : (u.zones.get z).selected = (s.zones.get z).selected := (congrArg Zone.selected (took_sansFrames took) :)
    rw [selected, ofRate] at taken
    refine ⟨justTaken_state (fun k => ?_) (sources.trans ?_) ?_ (fun _ => ⟨ms.trans ?_, ?_⟩) taken,
      powerEnd.trans (powerNow.trans power)⟩
    · rw [cores, linksThen]
    · rw [sourcesThen, monitorOnLink_eq]; rfl
    · rw [tuner, tunerThen, monitorOnLink_eq]; rfl
    · rw [msThen, monitorOnLink_eq]; rfl
    · refine forall_congr' fun k => imp_congr_right fun _ => not_congr ?_
      rw [monitors, hears]

end Sys2Proof.Machine
end

section
/-! A link enters LOCKED at a good block, and the frames of RECOVER (R9, R14, R16). -/

namespace Sys2Proof.Machine

/-! ## A good block enters LOCKED -/

/-- The link's record as it enters LOCKED, before the block that does it is released (R14). -/
def Link.locks (d : Descriptor) (r : Link) : Link :=
  { r with state := .locked, hold := Vector.replicate 8 .zero, stateTimer := none, candidate := none, lastGood := some d }

/-- What the entry to LOCKED at a block with descriptor `d` leaves of a link's record. -/
def Link.lockedOn (d : Descriptor) (r x : Link) : Prop :=
  x.state = .locked ∧ x.rate = r.rate ∧ x.lastGood = some d ∧ x.expectedSeq = d.seq + 1 ∧ x.reading = [] ∧ x.stateTimer = none

/-- The monitor of a link that has just locked: SILENT, with no block begun. -/
def Monitor.restarts (m : Monitor) : Prop := m.state = .silent ∧ m.whole = false

theorem onLink_restarts {x : Link} (h : x.state = .locked) (now : Millis) (m : Monitor) : (m.onLink x now).restarts := by
  rw [Monitor.onLink, if_pos h]
  exact ⟨rfl, rfl⟩

theorem announceState_monitor_locked {v : State} {l : LinkId} (h : (v.links.get l).state = .locked) :
    ((announceState v l).monitors.get l).restarts ∧ ((announceState v l).monitors.get l).run = 0 := by
  rw [announceState_monitors, setAt_get_self]
  refine ⟨onLink_restarts h _ _, ?_⟩
  rw [Monitor.onLink, if_pos h]
  rfl

/-- The first block after a lock, for a unit, moves no monitor: it is one loud block at most (R32). -/
theorem monitorBlock_afterLock {w : State} {l : LinkId} (h : (w.monitors.get l).restarts) (run : (w.monitors.get l).run = 0)
    (loud : Bool) : ∃ m, monitorBlock w l loud = w.monitored l m ∧ m.restarts := by
  obtain ⟨silent, part⟩ := h
  have judged : ((w.monitors.get l).judged w.ms loud).restarts := by
    cases loud with
    | false => exact ⟨silent, part⟩
    | true =>
      rw [(judged_effect w.ms true _ silent).2.1 rfl (by omega)]
      exact ⟨silent, part⟩
  refine ⟨(w.monitors.get l).judged w.ms loud, ?_, judged⟩
  rw [monitorBlock_eq, heardBlock_silent silent, setMonitor_same (silent.trans judged.1.symm)]

/-- The state at the announcement of a lock and the one after the block is released. -/
def lockReleases (d : Descriptor) (s v e : State) (l : LinkId) : Prop :=
  (s.links.get l).lockedOn d (v.links.get l) ∧ (s.links.get l).lockedOn d (e.links.get l) ∧
  (∀ z, (v.zones.get z).sansArbiter = (s.zones.get z).sansArbiter) ∧ e.zones = (announceState v l).zones ∧
  linkAround (announceState v l) e l ∧ (e.monitors.get l).restarts

/-- A good block that enters LOCKED: its announcement and its release (R9, R14, R16). -/
theorem enterLocked_does (s : State) (l : LinkId) (d : Descriptor) (fs : List RawFrame) :
    ∃ v, lockReleases d s v (enterLocked s l d fs) l := by
  have eq : enterLocked s l d fs = releaseGood (s.updLink l (Link.locks d)) l d fs fun t => announceState t l := rfl
  by_cases bsf : d.format = .bsf
  · rw [eq, releaseGood_bsf _ _ bsf]
    generalize (readMantissas d.map _ fs).1 = m
    have record : (s.links.get l).lockedOn d (((s.updLink l (Link.locks d)).updLink l (Link.adoptBsf d fs)).links.get l) := by
      rw [State.updLink_get_self, State.updLink_get_self]
      exact ⟨rfl, rfl, rfl, rfl, rfl, rfl⟩
    have zones : ((s.updLink l (Link.locks d)).updLink l (Link.adoptBsf d fs)).zones = s.zones := rfl
    generalize (s.updLink l (Link.locks d)).updLink l (Link.adoptBsf d fs) = v at record zones ⊢
    have counted : (s.links.get l).lockedOn d ((unitTurn v l d m).links.get l) := by
      obtain ⟨count, counted⟩ := unitTurn_link v l d m
      rw [counted]
      exact record
    have turned (z : ZoneId) := unitTurn_zone v l d m z
    generalize unitTurn v l d m = w at counted turned ⊢
    obtain ⟨restarts, run⟩ := announceState_monitor_locked counted.1
    obtain ⟨mon, released, monitor⟩ := monitorBlock_afterLock restarts run (bsfLoud d m)
    rw [zones] at turned
    refine ⟨w, counted, ?_, turned, ?_, ?_, ?_⟩
    · rw [monitorBlock_links, announceState_links]
      exact counted
    · rw [released, monitored_zones]
    · rw [released]
      exact monitored_around _ l mon
    · rw [released, monitored_get]
      exact monitor
  · rw [eq, releaseGood_other _ _ bsf]
    have record : (s.links.get l).lockedOn d (((s.updLink l (Link.locks d)).updLink l (Link.adopt d)).links.get l) := by
      rw [State.updLink_get_self, State.updLink_get_self]
      exact ⟨rfl, rfl, rfl, rfl, rfl, rfl⟩
    have zones : ((s.updLink l (Link.locks d)).updLink l (Link.adopt d)).zones = s.zones := rfl
    generalize (s.updLink l (Link.locks d)).updLink l (Link.adopt d) = v at record zones ⊢
    obtain ⟨restarts, -⟩ := announceState_monitor_locked record.1
    refine ⟨v, record, ?_, fun z => by rw [zones], ?_, updLink_around _ l _, ?_⟩
    · rw [State.updLink_get_self, announceState_links]
      exact record
    · rw [updLink_zones]
    · rw [updLink_monitors]
      exact restarts

theorem core_of_lockedOn {d : Descriptor} {r x y : Link} (h : r.lockedOn d x) (k : r.lockedOn d y) : y.core = x.core := by
  obtain ⟨state, rate, last, -⟩ := h
  obtain ⟨state', rate', last', -⟩ := k
  rw [Link.core, Link.core, state, rate, last, state', rate', last']

/-- What follows a lock settles it: of the link and its monitor what the zones see stands. -/
theorem lockSettles_of {d : Descriptor} {s v e t : State} {l : LinkId} (h : lockReleases d s v e l) (around : linkAround e t l)
    (core : (t.links.get l).core = (v.links.get l).core) (monitor : (t.monitors.get l).state = .silent) : lockSettles v t l := by
  obtain ⟨record, -, -, -, released, -⟩ := h
  obtain ⟨others, sources, -, tuner, -, ms, -⟩ := ((announceState_around v l).trans released).trans around
  obtain ⟨laters, -⟩ := released.trans around
  obtain ⟨-, monitors, -⟩ := announceState_frame v l
  refine ⟨fun k => ?_, sources, tuner, ms, fun k => ?_⟩
  · by_cases e : k = l
    · rw [e]
      exact core
    · rw [(others k e).1]
  · by_cases e : k = l
    · rw [e, monitor, ← monitors, (announceState_monitor_locked record.1).1.1]
    · rw [(laters k e).2, monitors]

/-! ## From ALIGN -/

theorem alignFrame_locks {s : State} {l : LinkId} {f : LinkFrame} {d : Descriptor} (h : (s.links.get l).state = .alignRead)
    (n : (s.links.get l).reading.length = 64) (long : 49 ≤ f.fsHigh)
    (good : blockDescriptor (s.links.get l).rate (s.links.get l).reading = some d)
    (next : (s.links.get l).candidate = some (d.seq - 1)) :
    alignFrame (restartLoss s l) l f = lockedFrame (enterLocked (restartLoss s l) l d (s.links.get l).reading) l f := by
  have state : ((restartLoss s l).links.get l).state ≠ .alignSeek := by rw [restartLoss_get]; exact h.symm ▸ by decide
  have reading : ((restartLoss s l).links.get l).reading = (s.links.get l).reading := by rw [restartLoss_get]; rfl
  have rate : ((restartLoss s l).links.get l).rate = (s.links.get l).rate := by rw [restartLoss_get]; rfl
  have candidate : ((restartLoss s l).links.get l).candidate = (s.links.get l).candidate := by rw [restartLoss_get]; rfl
  have follows : (some (d.seq - 1)).map (· + 1) = some d.seq := by simp
  rw [alignFrame, if_neg state, reading, rate, candidate, if_pos n, if_pos (by rwa [LinkFrame.longSync_eq])]
  simp only [good]
  rw [if_pos (by rw [next]; exact follows)]

/-- The frame that follows the block which locked the link opens the next one. -/
theorem lockedFrame_opens {e : State} {l : LinkId} (f : LinkFrame) (h : (e.links.get l).reading = []) :
    lockedFrame e l f = lockedTaken e l f := by
  have one : ((lockedTaken e l f).links.get l).reading.length ≠ 64 := by
    obtain ⟨⟨code, hold, delivery, record⟩, -⟩ := lockedTaken_link e l f
    rw [record, h]
    simp
  rw [lockedFrame_onGrid fun c => c.2 h, if_neg one]

/-- The entry to LOCKED from ALIGN (R14). -/
theorem linkFrame_alignLocks {s : State} {l : LinkId} {f : LinkFrame} {d : Descriptor} (h : (s.links.get l).state = .alignRead)
    (n : (s.links.get l).reading.length = 64) (long : 49 ≤ f.fsHigh)
    (good : blockDescriptor (s.links.get l).rate (s.links.get l).reading = some d)
    (next : (s.links.get l).candidate = some (d.seq - 1)) :
    ∃ t, exec (.linkFrame l f) s = .next t ∧ (t.links.get l).state = .locked ∧ (t.links.get l).lastGood = some d ∧
      (t.links.get l).expectedSeq = d.seq + 1 ∧ (t.links.get l).reading = [rawFrame f] ∧
      (t.links.get l).stateTimer = none ∧ (t.links.get l).rate = (s.links.get l).rate ∧ ∀ z, zoneAtLock s t l z := by
  obtain ⟨v, released⟩ := enterLocked_does (restartLoss s l) l d (s.links.get l).reading
  have ⟨atAnnounce, ⟨state, rate, last, seq, empty, timer⟩, zones, told, _, silent, part⟩ := released
  have done : linkFrame s l f = lockedTaken (enterLocked (restartLoss s l) l d (s.links.get l).reading) l f := by
    rw [linkFrame_align f (.inr h), alignFrame_locks h n long good next, lockedFrame_opens f empty]
  generalize enterLocked (restartLoss s l) l d (s.links.get l).reading = e at *
  have around := lockedTaken_around e l f
  have stays := passes_state_part (lockedTaken_monitor e l f) part
  obtain ⟨⟨code, hold, delivery, record⟩, -⟩ := lockedTaken_link e l f
  have sameRate : ((restartLoss s l).links.get l).rate = (s.links.get l).rate := by rw [restartLoss_get]; rfl
  have taken : ((lockedTaken e l f).links.get l).core = (e.links.get l).core := by
    rw [record]
    rfl
  have core := taken.trans (core_of_lockedOn atAnnounce ⟨state, rate, last, seq, empty, timer⟩)
  refine ⟨_, congrArg Host.Outcome.next done, ?_, ?_, ?_, ?_, ?_, ?_, fun z => ?_⟩
  · rw [record]; exact state
  · rw [record]; exact last
  · rw [record]; exact seq
  · rw [record, empty]; rfl
  · rw [record]; exact timer
  · rw [record]; exact rate.trans sameRate
  · refine zoneAtLock_of atAnnounce.1 (atAnnounce.2.1.trans sameRate) (took_of_sansArbiter (zones z))
      (lockSettles_of released around core (stays.trans silent)) fun bound => ?_
    obtain ⟨c, took, still⟩ := lockedTaken_zone e l f (z := z) (by rw [told]; exact isBound_ne_standby bound)
    have frames := took_sameCountdown took (still stays)
    rwa [told] at frames

end Sys2Proof.Machine
end

section
/-! A link from rest to LOCKED and back: the frames of RECOVER, and the obligation. -/

namespace Sys2Proof.Machine

/-! ## Frames in RECOVER -/

/-- A link in RECOVER has sent its frame of zeros, the loss window restarted (R16). -/
def recoverStep (s : State) (l : LinkId) : State := recoverZero (restartLoss s l) l

theorem recoverStep_passes (s : State) (l : LinkId) : framesPass (restartLoss s l) (recoverStep s l) :=
  recoverZero_passes (restartLoss s l) l

theorem recoverStep_link (s : State) (l : LinkId) : (recoverStep s l).links.get l = (s.links.get l).restarted s.ms := by
  obtain ⟨⟨links, -⟩, -⟩ := recoverStep_passes s l
  rw [links, restartLoss_get]

theorem recoverFrame_seek {s : State} {l : LinkId} (f : LinkFrame) (h : (s.links.get l).state = .recoverSeek) :
    linkFrame s l f = if 49 ≤ f.fsHigh then (recoverStep s l).updLink l fun r => { r.startBlock f with state := .recoverRead }
      else recoverStep s l := by
  have state : ((recoverStep s l).links.get l).state = .recoverSeek := by rw [recoverStep_link]; exact h
  rw [linkFrame_recover f (.inl h)]
  refine (if_pos state).trans ?_
  simp only [LinkFrame.longSync_eq]
  rfl

/-- The link reads a block in RECOVER. -/
theorem recoverStep_reads {s : State} {l : LinkId} (h : (s.links.get l).state = .recoverRead) :
    ((recoverStep s l).links.get l).state ≠ .recoverSeek := by
  rw [recoverStep_link]
  exact fun e => nomatch h.symm.trans e

theorem recoverFrame_starts {s : State} {l : LinkId} {f : LinkFrame} (h : (s.links.get l).state = .recoverRead)
    (long : 49 ≤ f.fsHigh) : linkFrame s l f = (recoverStep s l).updLink l fun r => r.startBlock f := by
  have sync : f.longSync = true := by rwa [LinkFrame.longSync_eq]
  rw [linkFrame_recover f (.inr h)]
  refine (if_neg (recoverStep_reads h)).trans ?_
  by_cases n : ((recoverStep s l).links.get l).reading.length = 64
  · exact (if_pos n).trans (if_pos sync)
  · exact (if_neg n).trans (if_pos sync)

theorem recoverFrame_waits {s : State} {l : LinkId} {f : LinkFrame} (h : (s.links.get l).state = .recoverRead)
    (n : (s.links.get l).reading.length = 64) (short : f.fsHigh < 49) : linkFrame s l f =
      (recoverStep s l).updLink l fun r => { r with state := .recoverSeek, reading := [], blockTicks := 0 } := by
  have sync : ¬f.longSync = true := by rw [LinkFrame.longSync_eq]; omega
  have reading : ((recoverStep s l).links.get l).reading.length = 64 := by rw [recoverStep_link]; exact n
  rw [linkFrame_recover f (.inr h)]
  exact ((if_neg (recoverStep_reads h)).trans (if_pos reading)).trans (if_neg sync)

/-- A link in RECOVER whose frame has joined the block in reading. -/
def recoverTaken (s : State) (l : LinkId) (f : LinkFrame) : State := (recoverStep s l).updLink l fun r => r.readFrame f

theorem recoverTaken_link (s : State) (l : LinkId) (f : LinkFrame) : (recoverTaken s l f).links.get l =
    { s.links.get l with lossTimer := some (newTimer s.ms (s.links.get l).lossWindow)
                         reading := (s.links.get l).reading ++ [rawFrame f]
                         blockTicks := (s.links.get l).blockTicks + f.ticks } := by
  rw [recoverTaken, State.updLink_get_self, recoverStep_link]
  rfl

theorem recoverFrame_reads {s : State} {l : LinkId} {f : LinkFrame} (h : (s.links.get l).state = .recoverRead)
    (n : (s.links.get l).reading.length ≠ 64) (short : f.fsHigh < 49) : linkFrame s l f =
      if (s.links.get l).reading.length + 1 = 64 then
        match blockDescriptor (s.links.get l).rate ((s.links.get l).reading ++ [rawFrame f]) with
        | some d => enterLocked (recoverTaken s l f) l d ((s.links.get l).reading ++ [rawFrame f])
        | none => (recoverTaken s l f).updLink l Link.countDescriptor
      else recoverTaken s l f := by
  have sync : ¬f.longSync = true := by rw [LinkFrame.longSync_eq]; omega
  have reading : ((recoverStep s l).links.get l).reading.length ≠ 64 := by rw [recoverStep_link]; exact n
  have rate : ((recoverStep s l).links.get l).rate = (s.links.get l).rate := by rw [recoverStep_link]; rfl
  have block : ((recoverTaken s l f).links.get l).reading = (s.links.get l).reading ++ [rawFrame f] := by rw [recoverTaken_link]
  rw [linkFrame_recover f (.inr h)]
  refine (((if_neg (recoverStep_reads h)).trans (if_neg reading)).trans (if_neg sync)).trans ?_
  show (if ((recoverTaken s l f).links.get l).reading.length = 64 then
      match blockDescriptor ((recoverStep s l).links.get l).rate ((recoverTaken s l f).links.get l).reading with
      | some d => enterLocked (recoverTaken s l f) l d ((recoverTaken s l f).links.get l).reading
      | none => (recoverTaken s l f).updLink l Link.countDescriptor
    else recoverTaken s l f) = _
  rw [block, rate, List.length_append, List.length_singleton]

/-- The entry to LOCKED from RECOVER (R16). -/
theorem linkFrame_recoverLocks {s : State} {l : LinkId} {f : LinkFrame} {d : Descriptor}
    (h : (s.links.get l).state = .recoverRead) (short : f.fsHigh < 49) (n : (s.links.get l).reading.length = 63)
    (good : blockDescriptor (s.links.get l).rate ((s.links.get l).reading ++ [rawFrame f]) = some d) :
    ∃ t, exec (.linkFrame l f) s = .next t ∧ (t.links.get l).state = .locked ∧ (t.links.get l).lastGood = some d ∧
      (t.links.get l).expectedSeq = d.seq + 1 ∧ (t.links.get l).stateTimer = none ∧
      (t.links.get l).rate = (s.links.get l).rate ∧ ∀ z, zoneAtLock s t l z := by
  have done : linkFrame s l f = enterLocked (recoverTaken s l f) l d ((s.links.get l).reading ++ [rawFrame f]) := by
    rw [recoverFrame_reads h (by omega) short, if_pos (by omega), good]
  obtain ⟨v, released⟩ := enterLocked_does (recoverTaken s l f) l d ((s.links.get l).reading ++ [rawFrame f])
  have ⟨atAnnounce, locked, zones, told, _, silent, _⟩ := released
  have ⟨state, rate, last, seq, _, timer⟩ := locked
  have sameRate : ((recoverTaken s l f).links.get l).rate = (s.links.get l).rate := by rw [recoverTaken_link]
  obtain ⟨-, passed⟩ := recoverStep_passes s l
  generalize enterLocked (recoverTaken s l f) l d ((s.links.get l).reading ++ [rawFrame f]) = e at *
  refine ⟨e, congrArg Host.Outcome.next done, state, last, seq, timer, rate.trans sameRate, fun z => ?_⟩
  have zero : (s.zones.get z).took 1 ((recoverTaken s l f).zones.get z) := passed z
  have before : (s.zones.get z).took 1 (v.zones.get z) := zero.trans (took_of_sansArbiter (n := 0) (zones z))
  exact zoneAtLock_of atAnnounce.1 (atAnnounce.2.1.trans sameRate) before
    (lockSettles_of released (.refl e l) (core_of_lockedOn atAnnounce locked) silent)
    fun _ => by rw [told]; exact took_of_sansArbiter rfl

/-! ## The statement's groups -/

/-- Rest and the first edge (R11, R12, R23). -/
theorem linkFrame_quiet {s : State} {l : LinkId} (f : LinkFrame) (h : (s.links.get l).state = .detectQuiet) :
    linkFrame s l f = { s with
      links := setAt s.links l { s.links.get l with
        state := .detectActive, detectCount := 1
        lossTimer := some { start := s.ms, len := (s.links.get l).lossWindow } }
      ports := s.ports.raise (.link l) } := by
  have reported : ((s.links.get l).restarted s.ms).reportedChange
      { (s.links.get l).restarted s.ms with state := .detectActive, detectCount := 1 } = true := by
    simp [Link.reportedChange, Link.restarted, h]
  rw [linkFrame_detect f (.inl h), detectFrame_quiet h, frameTo_eq, reported]
  rfl

theorem linkFrame_counts {s : State} {l : LinkId} (f : LinkFrame) (h : (s.links.get l).state = .detectActive)
    (few : (s.links.get l).detectCount < 15) : linkFrame s l f = { s with links := setAt s.links l { s.links.get l with
      detectCount := (s.links.get l).detectCount + 1
      lossTimer := some { start := s.ms, len := (s.links.get l).lossWindow } } } := by
  rw [linkFrame_detect f (.inr h), detectFrame_counts h few]
  exact frameTo_unreported (Link.reportedChange_self _)

theorem linkFrame_sixteenth {s : State} {l : LinkId} (f : LinkFrame) (h : (s.links.get l).state = .detectActive)
    (many : 15 ≤ (s.links.get l).detectCount) : linkFrame s l f = detectReached s l := by
  rw [linkFrame_detect f (.inr h), detectFrame_sixteenth h many, detectReached, if_pos h]

theorem linkFrame_measures {s : State} {l : LinkId} (f : LinkFrame) (h : (s.links.get l).state.isMeasure = true) {g : Link → Link}
    (done : measureFrame (restartLoss s l) l f = s.frameTo l g)
    (silent : ((s.links.get l).restarted s.ms).reportedChange (g ((s.links.get l).restarted s.ms)) = false) :
    linkFrame s l f = { s with links := setAt s.links l (g ((s.links.get l).restarted s.ms)) } := by
  rw [linkFrame_measure f h, done]
  exact frameTo_unreported silent

theorem linkFrame_measured {s : State} {l : LinkId} {m : Measurement} (f : LinkFrame)
    (h : (s.links.get l).state.isMeasure = true) (hm : (s.links.get l).measurement = some m) (many : 63 ≤ m.edges) :
    linkFrame s l f = measurementEnds s l (m.ticks + f.ticks) (m.allWellFormed && decide (f.data.length = 256)) := by
  rw [linkFrame_measure f h, measureFrame_last f hm many, measurementEnds_eq _ _ h, LinkFrame.wellFormed_eq]

/-- The frames of ALIGN that do not lock the link (R14). -/
theorem linkFrame_alignSeeks {s : State} {l : LinkId} (f : LinkFrame) (h : (s.links.get l).state = .alignSeek) :
    linkFrameKept s (linkFrame s l f) l ∧ ((linkFrame s l f).links.get l).rate = (s.links.get l).rate ∧
      (if 49 ≤ f.fsHigh then ((linkFrame s l f).links.get l).state = .alignRead ∧
          ((linkFrame s l f).links.get l).reading = [rawFrame f]
        else ((linkFrame s l f).links.get l).state = .alignSeek ∧
          ((linkFrame s l f).links.get l).reading = (s.links.get l).reading) := by
  rw [linkFrame_align f (.inl h), alignFrame_seek f h]
  split
  · rw [frameTo_link]
    exact ⟨frameTo_linkFrameKept s l _, rfl, rfl, rfl⟩
  · rw [restartLoss_get]
    exact ⟨restartLoss_linkFrameKept s l, rfl, h, rfl⟩

/-- A frame of ALIGN that writes its link's record alone. -/
theorem linkFrame_alignWrites {s : State} {l : LinkId} {f : LinkFrame} {g : Link → Link} (h : (s.links.get l).state = .alignRead)
    (done : alignFrame (restartLoss s l) l f = s.frameTo l g) :
    linkFrameKept s (linkFrame s l f) l ∧ (linkFrame s l f).links.get l = g ((s.links.get l).restarted s.ms) := by
  rw [linkFrame_align f (.inr h), done]
  exact ⟨frameTo_linkFrameKept s l g, frameTo_link s l g⟩

theorem linkFrame_alignReads {s : State} {l : LinkId} (f : LinkFrame) (h : (s.links.get l).state = .alignRead)
    (n : (s.links.get l).reading.length ≠ 64) :
    linkFrameKept s (linkFrame s l f) l ∧ ((linkFrame s l f).links.get l).state = .alignRead ∧
      ((linkFrame s l f).links.get l).reading =
        (if 49 ≤ f.fsHigh then [rawFrame f] else (s.links.get l).reading ++ [rawFrame f]) ∧
      ((linkFrame s l f).links.get l).candidate = if 49 ≤ f.fsHigh then none else (s.links.get l).candidate := by
  obtain ⟨kept, link⟩ := linkFrame_alignWrites h (alignFrame_inBlock f h n)
  refine ⟨kept, ?_⟩
  rw [link]
  by_cases long : 49 ≤ f.fsHigh
  · simp only [if_pos long]
    exact ⟨h, rfl, rfl⟩
  · simp only [if_neg long]
    exact ⟨h, rfl, rfl⟩

/-- A frame of RECOVER within a block, or at the end of one in error (R16). -/
theorem linkFrame_recoverReads {s : State} {l : LinkId} {f : LinkFrame} (h : (s.links.get l).state = .recoverRead)
    (short : f.fsHigh < 49) :
    ((s.links.get l).reading.length < 63 → ((linkFrame s l f).links.get l).state = .recoverRead ∧
      ((linkFrame s l f).links.get l).reading = (s.links.get l).reading ++ [rawFrame f]) ∧
    ((s.links.get l).reading.length = 63 →
      blockDescriptor (s.links.get l).rate ((s.links.get l).reading ++ [rawFrame f]) = none →
      ((linkFrame s l f).links.get l).state = .recoverRead ∧
      ((linkFrame s l f).links.get l).counters.descriptor = (s.links.get l).counters.descriptor.bump 1) := by
  refine ⟨fun few => ?_, fun n bad => ?_⟩
  · rw [recoverFrame_reads h (by omega) short, if_neg (by omega), recoverTaken_link]
    exact ⟨h, rfl⟩
  · have done : linkFrame s l f = (recoverTaken s l f).updLink l Link.countDescriptor := by
      rw [recoverFrame_reads h (by omega) short, if_pos (by omega), bad]
    rw [done, State.updLink_get_self, recoverTaken_link]
    exact ⟨h, rfl⟩

/-! ## Timers and the measurement -/

theorem detectReached_measures {s : State} {l : LinkId} (h : (s.links.get l).state = .detectActive) :
    detectReached s l = enterMeasure (restartLoss s l) l := if_pos h

theorem enterMeasure_effect (s : State) (l : LinkId) : ((enterMeasure s l).links.get l).state = .measureCounting ∧
    ((enterMeasure s l).links.get l).cleared ∧ zonesOffLock s (enterMeasure s l) l ∧ linkFrameKept s (enterMeasure s l) l :=
  measured_of_attend (.refl s l) (.refl s l)

theorem lossOfSignal_effect {s : State} {l : LinkId} (up : ranOut (s.links.get l).lossTimer s.ms) :
    ((lossOfSignal s l).links.get l).state = .detectQuiet ∧ ((lossOfSignal s l).links.get l).cleared ∧
      (∀ n, ((lossOfSignal s l).links.get l).hold.get n = .zero) ∧ ((lossOfSignal s l).links.get l).lossTimer = none ∧
      zonesOffLock s (lossOfSignal s l) l ∧ linkFrameKept s (lossOfSignal s l) l := by
  rw [lossOfSignal_up up, announced_link]
  exact ⟨rfl, giveUp_cleared (s.links.get l) .detectQuiet, fun n => replicate_get _ n, rfl,
    announced_zonesOffLock nofun (.refl s l), announced_linkFrameKept nofun⟩

/-- A measurement that matches a rate (R13). -/
theorem measurement_matches {s : State} {l : LinkId} {ticks : Nat} {r : Rate} (h : (s.links.get l).state.isMeasure = true)
    (near : 1000 * ((ticks : Int) - r.nominal).natAbs ≤ 4 * r.nominal) :
    ((measurementEnds s l ticks true).links.get l).state = .alignSeek ∧
      ((measurementEnds s l ticks true).links.get l).rate = some r ∧
      ((measurementEnds s l ticks true).links.get l).candidate = none ∧
      ((measurementEnds s l ticks true).links.get l).stateTimer = some { start := s.ms, len := 100 } ∧
      zonesOffLock s (measurementEnds s l ticks true) l ∧ linkFrameKept s (measurementEnds s l ticks true) l := by
  have off : (Link.aligned (restartLoss s l).ms r ((restartLoss s l).links.get l)).state ≠ .locked := fun e => nomatch e
  have ms : (restartLoss s l).ms = s.ms := rfl
  rw [measurementEnds_eq ticks true h, closeMeasurement_match (matchRate_of_match near), announced_link]
  rw [ms] at off ⊢
  exact ⟨rfl, rfl, rfl, rfl, announced_zonesOffLock off (zonesAttend_restartLoss (.refl _ l)),
    (restartLoss_linkFrameKept s l).trans (announced_linkFrameKept off)⟩

/-- A measurement that matches none (R13). -/
theorem measurement_misses {s : State} {l : LinkId} {ticks : Nat} {wf : Bool} (h : (s.links.get l).state.isMeasure = true)
    (miss : wf = false ∨ ∀ r : Rate, 4 * r.nominal < 1000 * ((ticks : Int) - r.nominal).natAbs) :
    ((measurementEnds s l ticks wf).links.get l).state = .measureUnrecognised ∧
      ((measurementEnds s l ticks wf).links.get l).rate = none ∧
      ((measurementEnds s l ticks wf).links.get l).measurement = some { edges := 0, ticks := 0, allWellFormed := true } ∧
      linkFrameKept s (measurementEnds s l ticks wf) l := by
  rw [measurementEnds_eq ticks wf h, closeMeasurement_miss (miss.imp_right matchRate_none), State.updLink_get_self]
  exact ⟨rfl, rfl, rfl, (restartLoss_linkFrameKept s l).trans (updLink_linkFrameKept _ l _)⟩

/-! ## The obligation -/

/-- Settles O19. -/
theorem linkAcquisition : Obligations.LinkAcquisition := by
  refine ⟨⟨fun s l f h => congrArg Host.Outcome.next (linkFrame_disabled f h),
      fun s l f h => congrArg Host.Outcome.next (linkFrame_quiet f h)⟩,
    ⟨fun s l f h few => congrArg Host.Outcome.next (linkFrame_counts f h few),
      fun s l f h many => congrArg Host.Outcome.next (linkFrame_sixteenth f h many),
      fun s l f h none => congrArg Host.Outcome.next (linkFrame_measures f h (measureFrame_first f none) (Link.reportedChange_self _)),
      fun s l f m h hm few => congrArg Host.Outcome.next ?_,
      fun s l f m h hm many => congrArg Host.Outcome.next (linkFrame_measured f h hm many),
      fun s l f h => ⟨_, rfl, linkFrame_alignSeeks f h⟩, fun s l f h n => ⟨_, rfl, linkFrame_alignReads f h n⟩,
      fun s l f h n => ⟨fun short => ⟨_, rfl, ?_⟩, fun long bad => ⟨_, rfl, ?_⟩, fun d long good miss => ⟨_, rfl, ?_⟩,
        fun d long good next => linkFrame_alignLocks h n long good next⟩,
      fun s l f h => ⟨_, rfl, ?_⟩,
      fun s l f h short => ⟨fun few => ⟨_, rfl, (linkFrame_recoverReads h short).1 few⟩,
        fun n bad => ⟨_, rfl, (linkFrame_recoverReads h short).2 n bad⟩,
        fun d n good => linkFrame_recoverLocks h short n good⟩,
      fun s l f h long => ⟨_, rfl, ?_⟩, fun s l f h n short => ⟨_, rfl, ?_⟩⟩,
    ⟨fun s l h up => ⟨_, congrArg Host.Outcome.next (if_pos ⟨h, (ranOut_iff_timeUp _ _).mp up⟩), enterMeasure_effect s l⟩,
      fun s l h up => ⟨_, congrArg Host.Outcome.next (if_pos ⟨h, (ranOut_iff_timeUp _ _).mp up⟩), enterMeasure_effect s l⟩,
      fun s l h => ⟨_, congrArg Host.Outcome.next (detectReached_measures h),
        measured_of_attend (zonesAttend_restartLoss (.refl _ l)) (restartLoss_linkFrameKept s l)⟩,
      fun s l up => ⟨_, rfl, lossOfSignal_effect up⟩,
      fun s l waits => congrArg Host.Outcome.next (if_neg fun e => waits ((ranOut_iff_timeUp _ _).mpr e)),
      fun s l waits => ⟨congrArg Host.Outcome.next (if_neg fun e => waits ((ranOut_iff_timeUp _ _).mpr e.2)),
        congrArg Host.Outcome.next (if_neg fun e => waits ((ranOut_iff_timeUp _ _).mpr e.2))⟩⟩,
    ⟨fun s l ticks r h near => ⟨_, rfl, measurement_matches h near⟩,
      fun s l ticks wf h miss => ⟨_, rfl, measurement_misses h miss⟩⟩,
    fun rate fs b hfs hb => blockDescriptor_fields rate fs b hfs hb⟩
  · rw [linkFrame_measures f h (measureFrame_counts f hm few) (Link.reportedChange_self _), LinkFrame.wellFormed_eq]
    rfl
  · obtain ⟨kept, link⟩ := linkFrame_alignWrites h (alignFrame_shortAfterBlock h n short)
    rw [link]
    exact ⟨kept, rfl, rfl, rfl⟩
  · obtain ⟨kept, link⟩ := linkFrame_alignWrites h
      (alignFrame_blockMiss h n long fun d good => absurd (bad.symm.trans good).symm (Option.some_ne_none d))
    rw [link, bad]
    exact ⟨kept, h, rfl, rfl⟩
  · obtain ⟨kept, link⟩ := linkFrame_alignWrites h
      (alignFrame_blockMiss h n long fun e other => Option.some.inj (good.symm.trans other) ▸ miss)
    rw [link, good]
    exact ⟨kept, h, rfl, rfl⟩
  · rw [recoverFrame_seek f h]
    split
    · rw [State.updLink_get_self, recoverStep_link]
      exact ⟨rfl, rfl, rfl⟩
    · rw [recoverStep_link]
      exact ⟨rfl, h, rfl⟩
  · rw [recoverFrame_starts h long, State.updLink_get_self, recoverStep_link]
    exact ⟨h, rfl, rfl, rfl, rfl, rfl⟩
  · rw [recoverFrame_waits h n short, State.updLink_get_self]
    exact ⟨rfl, rfl⟩

end Sys2Proof.Machine
end

section
/-! The source table as GET_SOURCE reports it (R28). -/

namespace Sys2Proof.Machine

/-! ## GET_SOURCE -/

/-- The bytes of a source entry (R28). -/
theorem sourceRecord_eq (e : SourceEntry) : sourceRecord e =
    [BitVec.ofNat 8 ((e.input.map Fin.val).getD 255), BitVec.ofInt 8 e.trim, BitVec.ofNat 8 (e.lipSync / 65536),
      BitVec.ofNat 8 (e.lipSync / 256), BitVec.ofNat 8 e.lipSync, if e.autoOn then 1 else 0,
      (match e.mode with
        | .auto => 0
        | .direct => 1
        | .stereo => 2
        | .upmix => 3),
      e.label] := by
  have auto : flagByte e.autoOn = [if e.autoOn then 1 else 0] := by cases e.autoOn <;> rfl
  have mode : enumByte surroundModes e.mode =
      [match e.mode with
        | .auto => 0
        | .direct => 1
        | .stereo => 2
        | .upmix => 3] := by cases e.mode <;> rfl
  rw [sourceRecord, auto, mode]
  rfl

/-- Settles O15: the owner answers with the entry's bytes or with a refusal, and leaves the state. -/
theorem getSourceRule : Obligations.GetSourceRule := by
  refine ⟨fun s p tag ib i e h hi he => congrArg Host.Outcome.next ?_,
    fun s p tag ib h out => congrArg Host.Outcome.next ?_, fun s p tag payload h other short => congrArg Host.Outcome.next ?_⟩
  · subst he
    rw [serve_unchanged h one_le (oneIndex_in_range _ _ hi)]
    exact congrArg (s.answered p (s.status p) tag 1 .ok) (sourceRecord_eq (s.sources.get i))
  · exact serve_unchanged h one_le (oneIndex_out_of_range _ _ out)
  · exact serve_unchanged h short (oneIndex_wrong_length _ _ other)

end Sys2Proof.Machine
end

section
/-! What the turns of the other zones leave of one zone when an entry edit is announced (R27): its record apart from the arbiter's
part, an origin that is AUTO, and the flags that are set. -/

namespace Sys2Proof.Machine

/-! ## The recorded origin through the turns of other zones -/

/-- The origin recorded of the zone is AUTO (R84). -/
def State.recordsAuto (s : State) (z : ZoneId) : Prop := (s.zones.get z).lastChanged = .auto

theorem recordsAuto_of_alone {s t : State} {y z : ZoneId} (ne : y ≠ z) (alone : zoneAlone s t y) (h : s.recordsAuto z) :
    t.recordsAuto z := by
  rw [State.recordsAuto, alone.2 z ne]
  exact h

/-- A decode position is told without an origin other than AUTO (R55, R84). -/
theorem setDecode_recordsAuto {s : State} {z : ZoneId} (y : ZoneId) (pos : DecodePos) (h : s.recordsAuto z) :
    (setDecode s y pos).recordsAuto z := by
  by_cases e : y = z
  · subst e
    rw [State.recordsAuto, setDecode_zones, State.autoZone_get_self]
    split
    · rfl
    · exact h
  · exact recordsAuto_of_alone e (setDecode_alone s y pos) h

theorem grantUnit_recordsAuto {s : State} {z : ZoneId} (u : UnitId) (h : s.recordsAuto z) : (grantUnit s u).recordsAuto z := by
  unfold grantUnit
  split
  · exact h
  · split
    · exact h
    · exact State.forEach_keeps (State.recordsAuto · z) _ (fun _ y => setDecode_recordsAuto y _) _ _ h

theorem freeIfEmpty_recordsAuto {s : State} {z : ZoneId} (u : UnitId) (h : s.recordsAuto z) :
    (freeIfEmpty s u).recordsAuto z := by
  unfold freeIfEmpty
  split
  · exact grantUnit_recordsAuto u h
  · exact h

theorem releaseDecode_recordsAuto {s : State} {z : ZoneId} (y : ZoneId) (h : s.recordsAuto z) :
    (releaseDecode s y).recordsAuto z := by
  unfold releaseDecode
  split
  · exact h
  · exact setDecode_recordsAuto y _ h
  · exact freeIfEmpty_recordsAuto _ (setDecode_recordsAuto y _ h)

theorem placeDecode_recordsAuto {s : State} {z : ZoneId} (y : ZoneId) (l : LinkId) (h : s.recordsAuto z) :
    (placeDecode s y l).recordsAuto z := by
  unfold placeDecode
  split
  · exact setDecode_recordsAuto y _ h
  · split
    · exact setDecode_recordsAuto y _ h
    · exact setDecode_recordsAuto y _ h

theorem rebindDecode_recordsAuto {s : State} {z : ZoneId} (y : ZoneId) (old new : Option LinkId) (h : s.recordsAuto z) :
    (rebindDecode s y old new).recordsAuto z := by
  unfold rebindDecode
  split
  · exact releaseDecode_recordsAuto y h
  · split
    · split
      · exact setDecode_recordsAuto y _ h
      · exact placeDecode_recordsAuto y _ (releaseDecode_recordsAuto y h)
    · exact releaseDecode_recordsAuto y h

/-- The steps of R66 after the arbiter's are the zone's own. -/
theorem bindZone_alone_placed (s : State) (z : ZoneId) (rebind : Bool) :
    zoneAlone (bindingPlaced s z rebind) (bindZone s z rebind) z := by
  rw [bindZone_eq]
  generalize bindingPlaced s z rebind = t
  exact ((((bindingEntered_alone t z).trans (primeDelays_alone _ z)).trans (bindCarrier_alone _ z _)).trans
    (bindCountdown_alone _ z)).trans (raise_alone _ _ z)

theorem bindZone_recordsAuto {s : State} {y z : ZoneId} (ne : y ≠ z) (rebind : Bool) (h : s.recordsAuto z) :
    (bindZone s y rebind).recordsAuto z :=
  recordsAuto_of_alone ne (bindZone_alone_placed s y rebind)
    (rebindDecode_recordsAuto y _ _ (recordsAuto_of_alone ne (bindingTaken_alone s y rebind) h))

theorem rebindCause_recordsAuto {s : State} {y z : ZoneId} (ne : y ≠ z) (h : s.recordsAuto z) :
    (rebindCause s y).recordsAuto z := by
  have bound : (bindZone s y true).recordsAuto z := bindZone_recordsAuto ne true h
  have fading : (s.autoZone y fun r => { r with path := .fading }).recordsAuto z :=
    recordsAuto_of_alone ne (autoZone_alone s y _) h
  unfold rebindCause
  dsimp only
  split
  · exact bound
  · exact h
  · exact h
  · split
    · exact bound
    · exact fading
  · split
    · exact bound
    · exact fading
  · exact bound
  · exact bound
  · exact h

/-! ## The turns of other zones -/

/-- What operations of other zones and of the ports leave of zone `z`: `t` is as `s` to it, apart from the arbiter's part. -/
structure Aside (z : ZoneId) (s t : State) : Prop where
  about : t.about z = s.about z
  recordsAuto : s.recordsAuto z → t.recordsAuto z
  cleared : ∀ p f, t.lacks p f → s.lacks p f

theorem Aside.refl (z : ZoneId) (s : State) : Aside z s s := ⟨rfl, id, fun _ _ => id⟩

theorem Aside.trans {z : ZoneId} {s t u : State} (h : Aside z s t) (k : Aside z t u) : Aside z s u :=
  ⟨k.about.trans h.about, fun a => k.recordsAuto (h.recordsAuto a), fun p f l => h.cleared p f (k.cleared p f l)⟩

/-- A flag that is set stays set. -/
theorem Aside.flag {z : ZoneId} {s t : State} (h : Aside z s t) {p : Port} {f : Flag}
    (set : (s.ports.get p).flags.get f.index = true) : (t.ports.get p).flags.get f.index = true := by
  by_contra missing
  exact absurd set (Bool.eq_false_iff.mp (h.cleared p f (Bool.eq_false_iff.mpr missing)))

theorem putPort_aside (z : ZoneId) {s : State} {p : Port} {r : PortState} (h : r.flags = (s.ports.get p).flags) :
    Aside z s (s.putPort p r) := ⟨rfl, id, (putPort_writes s p r h).flagged.cleared⟩

theorem zoneOnEdit_of_ne {i : SrcId} {s : State} {z : ZoneId} (h : (s.zones.get z).bound ≠ some i) : zoneOnEdit i s z = s :=
  if_neg fun e => h e.2

theorem zoneOnEdit_on {i : SrcId} {s : State} {z : ZoneId} (power : (s.zones.get z).power.isBound = true)
    (bound : (s.zones.get z).bound = some i) : zoneOnEdit i s z = rebindCause s z := if_pos ⟨power, bound⟩

theorem zoneOnEdit_frame (i : SrcId) (s : State) (z : ZoneId) : zoneFrameKept s (zoneOnEdit i s z) := by
  unfold zoneOnEdit
  split
  · exact rebindCause_frame s z
  · exact .refl s

/-- Another zone's turn at an entry edit (R27). -/
theorem zoneOnEdit_aside (i : SrcId) (s : State) {y z : ZoneId} (ne : y ≠ z) : Aside z s (zoneOnEdit i s y) := by
  unfold zoneOnEdit
  split
  · exact ⟨rebindCause_about s ne, rebindCause_recordsAuto ne, (rebindCause_writes s y).flagged.cleared⟩
  · exact .refl z s

/-- A zone's turn in a loop over the zones, between the turns of the zones before it and of those after it. -/
theorem forEach_zone_between {R : State → State → Prop} (refl : ∀ s, R s s) (trans : ∀ s t u, R s t → R t u → R s u)
    {op : State → ZoneId → State} {z : ZoneId} (h : ∀ s y, y ≠ z → R s (op s y)) (s : State) :
    ∃ u, R s u ∧ R (op u z) (s.forEach zoneIds op) := by
  show ∃ u, R s u ∧ R (op u z) (op (op (op s 0) 1) 2)
  fin_cases z
  · exact ⟨s, refl s, trans _ _ _ (h _ 1 (by decide)) (h _ 2 (by decide))⟩
  · exact ⟨op s 0, h s 0 (by decide), h _ 2 (by decide)⟩
  · exact ⟨op (op s 0) 1, trans _ _ _ (h s 0 (by decide)) (h _ 1 (by decide)), refl _⟩

/-- A loop over the zones in which one zone alone has something to do. -/
theorem forEach_zone_only {op : State → ZoneId → State} {z : ZoneId} {s : State} (before : ∀ y, y ≠ z → op s y = s)
    (after : ∀ y, y ≠ z → op (op s z) y = op s z) : s.forEach zoneIds op = op s z := by
  show op (op (op s 0) 1) 2 = op s z
  fin_cases z
  · exact (congrArg (op · 2) (after 1 (by decide))).trans (after 2 (by decide))
  · exact (congrArg (fun t => op (op t 1) 2) (before 0 (by decide))).trans (after 2 (by decide))
  · exact congrArg (op · 2) ((congrArg (op · 1) (before 0 (by decide))).trans (before 1 (by decide)))

/-- A loop over the zones in which none has anything to do. -/
theorem forEach_zone_none {op : State → ZoneId → State} {s : State} (h : ∀ z, op s z = s) : s.forEach zoneIds op = s :=
  (forEach_zone_only (z := 0) (fun y _ => h y) fun y _ => by rw [h 0, h y]).trans (h 0)

/-- The edit of an entry as one zone meets it (R26, R27). -/
theorem writeSource_turn (s : State) (i : SrcId) (e : SourceEntry) (z : ZoneId) :
    ∃ u, Aside z (s.putSource i e) u ∧ Aside z (zoneOnEdit i u z) (writeSource s i e) :=
  forEach_zone_between (Aside.refl z) (fun _ _ _ => Aside.trans) (fun t _ => zoneOnEdit_aside i t) (s.putSource i e)

theorem writeSource_frame (s : State) (i : SrcId) (e : SourceEntry) : zoneFrameKept (s.putSource i e) (writeSource s i e) :=
  .forEach _ (zoneOnEdit_frame i) _ _

end Sys2Proof.Machine
end

section
/-! SET_SOURCE: the entry as written, and the zones that play it (R26, R27). -/

namespace Sys2Proof.Machine

/-! ## The request -/

/-- LIMITED where either of two values was clamped, by the model's test and in the statement's words (00_scope.md, section 5.6). -/
theorem okOrLimited_eq_okIf (a b : Int) (c d : Nat) :
    (if (a != b || c != d) = true then Result.limited else Result.ok) = okIf (decide (a = b ∧ c = d)) := by
  by_cases trim : a = b <;> by_cases lip : c = d <;> simp [okIf, trim, lip]

/-- SET_SOURCE writes the entry with trim and lip-sync clamped, and says whether it clamped them (R26). -/
theorem reqSetSource_eq {eb ib tb l2 l1 l0 ab mb label : Byte} {i : SrcId} {input : Option LinkId} {auto : Bool}
    {mode : SurroundMode} {e : SourceEntry} (s : State) (index : eb.toNat = i.1) (link : orNone 9 ib = some input)
    (autoOn : yesNo ab = some auto) (surround : surroundModes[mb.toNat]? = some mode)
    (entry : e = { input := input, trim := max (-24) (min 24 tb.toInt)
                   lipSync := min 250000 ((l2.toNat * 256 + l1.toNat) * 256 + l0.toNat), autoOn := auto, mode := mode
                   label := label }) :
    reqSetSource [eb, ib, tb, l2, l1, l0, ab, mb, label] s =
      { state := writeSource s i e, data := sourceRecord e
        result := okIf (decide (e.trim = tb.toInt ∧ e.lipSync = (l2.toNat * 256 + l1.toNat) * 256 + l0.toNat)) } := by
  have trim : clampInt (-24) 24 (signed8 tb) = e.trim := by rw [clampInt_eq _ _ _ (by decide), entry]; rfl
  have lip : clampNat 0 250000 (unsigned24 l2 l1 l0) = e.lipSync := by
    rw [clampNat_eq _ _ _ (by decide), entry]
    exact Nat.zero_max _
  have whole : e = { input := input, trim := e.trim, lipSync := e.lipSync, autoOn := auto, mode := mode, label := label } := by
    rw [entry]
  have found : enumOf surroundModes mb = some mode := surround
  simp only [reqSetSource, indexOf_of_toNat index, link, autoOn, found, trim, lip, ← whole, State.okOrLimited,
    okOrLimited_eq_okIf]
  rfl

/-- A request whose owner writes the source table and the zones and sets one flag at most (R199). -/
theorem serve_sources {s : State} {p : Port} {tag : Byte} {payload : List Byte} {owner : State → Reply} {r : Result}
    {data : List Byte} {src : Vector SourceEntry 16} {zs : Vector Zone 3} {b : Bool} {f : Flag} (h : Ready s p)
    (hl : payload.length ≤ 250)
    (ho : owner (s.taking p payload.length) =
      { state := { s.taking p payload.length with
          sources := src, zones := zs, ports := (s.taking p payload.length).ports.raiseIf b f }, result := r, data := data }) :
    serve s p tag payload owner =
      State.answered { s with sources := src, zones := zs, ports := s.ports.raiseIf b f } p (s.status p) tag payload.length
        r data := by
  have ports := Ports.raiseIf_answered s.ports b f p ((s.ports.get p).complete false (List.replicate (2 + payload.length) 0))
    (some { tag := tag, result := r, data := data })
  rw [serve_eq h hl ho, State.answered, Ports.raiseIf_port s.ports b f p]
  exact congrArg (fun ps => ({ s with sources := src, zones := zs, ports := ps } : State)) ports

/-! ## A zone's turn -/

/-- A zone that plays goes to FADING at an entry edit, which is a change without a request (R27, R68, R84, R86). -/
theorem zoneOnEdit_plays {i : SrcId} {s : State} {z : ZoneId} (bound : (s.zones.get z).bound = some i)
    (power : (s.zones.get z).power = .on ∨ (s.zones.get z).power = .rampDown) (path : (s.zones.get z).path = .playing)
    (qr : (s.zones.get z).qr ≠ none) : zoneOnEdit i s z =
      { s with zones := setAt s.zones z { s.zones.get z with path := .fading, lastChanged := .auto }
               ports := s.ports.raise (.zone z) } := by
  have runs : (s.zones.get z).power.isBound = true ∧ (s.zones.get z).power ≠ .starting := by
    rcases power with e | e <;> rw [e] <;> decide
  have leaves : (s.zones.get z).path != .fading := by rw [path]; decide
  rw [zoneOnEdit_on runs.1 bound, rebindCause_plays runs.1 runs.2 path qr]
  simp [State.autoZone, State.updZone, State.putZone, Zone.auditedChange, Zone.reportedChange, leaves]

theorem zoneOnEdit_fades {i : SrcId} {s : State} {z : ZoneId} (power : (s.zones.get z).power ≠ .starting)
    (path : (s.zones.get z).path = .fading) : zoneOnEdit i s z = s := by
  unfold zoneOnEdit
  rw [rebindCause_fading power path, ite_self]

theorem zoneOnEdit_binds {i : SrcId} {s : State} {z : ZoneId} (bound : (s.zones.get z).bound = some i)
    (binds : (s.zones.get z).bindsNow) : zoneOnEdit i s z = bindZone s z true := by
  rw [zoneOnEdit_on binds.1 bound, rebindCause_binds binds]

/-! ## The requested volume through a binding -/

theorem bindRecord_qv (s : State) (r : Zone) : (bindRecord s r).qv = r.qv := by
  cases h : (takeCopy s.sources r).link with
  | none => rw [bindRecord_unlinked h, bindClock_kept]; rfl
  | some l => rw [bindRecord_linked h, bindClock_kept]; rfl

theorem qv_of_sansContent {r x : Zone} (h : x.sansContent = r.sansContent) : x.qv = r.qv := (congrArg Zone.qv h :)

theorem qv_of_sansArbiter {r x : Zone} (h : x.sansArbiter = r.sansArbiter) : x.qv = r.qv := (congrArg Zone.qv h :)

theorem bindingPlaced_qv (s : State) (z : ZoneId) (rebind : Bool) :
    ((bindingPlaced s z rebind).zones.get z).qv = (s.zones.get z).qv := by
  have yielded : (Zone.yielded rebind (s.zones.get z)).qv = (s.zones.get z).qv := by cases rebind <;> rfl
  have wrote (t : State) (f : Zone → Zone) : ((t.autoZone z f).zones.get z).qv = (f (t.zones.get z)).qv :=
    qv_of_sansArbiter (autoZone_zone_sansArbiter t z f)
  have placed : ((bindingPlaced s z rebind).zones.get z).qv = ((bindingTaken s z rebind).zones.get z).qv :=
    qv_of_sansArbiter (sansArbiter_zone (rebindDecode_sansArbiter _ z _ _) z)
  rw [placed, bindingTaken_eq, wrote, bindRecord_qv, wrote, yielded]

theorem driven_qv {r x : Zone} (h : r.driven x) : x.qv = r.qv := by
  obtain ⟨m, p, rfl⟩ := h
  rfl

theorem counted_qv {x y : Zone} {c : Option Timer} (h : y = { x with countdown := c }) : y.qv = x.qv := (congrArg Zone.qv h :)

/-- A binding leaves qv (R66, R77). -/
theorem bindZone_qv (s : State) (z : ZoneId) (rebind : Bool) : ((bindZone s z rebind).zones.get z).qv = (s.zones.get z).qv := by
  have entered := qv_of_sansContent (bindingEntered_zone (bindingPlaced s z rebind) z).2
  have carried := driven_qv
    (bindCarrier_zone (primeDelays (bindingEntered (bindingPlaced s z rebind) z) z) z (s.zones.get z).rate)
  rw [primeDelays_zones] at carried
  obtain ⟨c, counted, -⟩ := bindZone_counted s z rebind
  calc ((bindZone s z rebind).zones.get z).qv
    _ = ((bindingCarried s z rebind).zones.get z).qv := counted_qv counted
    _ = ((bindingEntered (bindingPlaced s z rebind) z).zones.get z).qv := carried
    _ = ((bindingPlaced s z rebind).zones.get z).qv := entered
    _ = (s.zones.get z).qv := bindingPlaced_qv s z rebind

/-! ## A zone that binds -/

/-- The decode arbiter does not write what a zone is bound to, its path, level, selection, rate or power. -/
theorem sansArbiter_kept {r x : Zone} (h : x.sansArbiter = r.sansArbiter) :
    x.bound = r.bound ∧ x.copy = r.copy ∧ x.path = r.path ∧ x.qr = r.qr ∧ x.selected = r.selected ∧ x.rate = r.rate ∧
      x.power = r.power :=
  ⟨(congrArg Zone.bound h :), (congrArg Zone.copy h :), (congrArg Zone.path h :), (congrArg Zone.qr h :),
    (congrArg Zone.selected h :), (congrArg Zone.rate h :), (congrArg Zone.power h :)⟩

/-- A binding sets the ZONE flag, whatever it changes (R66, R86). -/
theorem bindZone_flag (s : State) (z : ZoneId) (rebind : Bool) (p : Port) :
    ((bindZone s z rebind).ports.get p).flags.get (Flag.zone z).index = true := by
  rw [bindZone_eq, State.raise_ports, Ports.raise_flag]
  simp

theorem justBound_of_sansArbiter {x y : Zone} {s : State} {selected : Option SrcId} {rate : Rate}
    (h : y.sansArbiter = x.sansArbiter) (k : x.justBound s selected rate) : y.justBound s selected rate := by
  have apart (x : Zone) : x.justBound s selected rate = x.sansArbiter.justBound s selected rate := rfl
  rw [apart, h, ← apart]
  exact k

/-- A zone that has bound its source at an entry edit, in what the rest of the announcement leaves of it (R27, R66). -/
theorem bindZone_settles {s u t : State} {z : ZoneId} (before : u.about z = s.about z)
    (after : Aside z (bindZone u z true) t) :
    (t.zones.get z).justBound s (s.zones.get z).selected (s.zones.get z).rate ∧
      (t.zones.get z).selected = (s.zones.get z).selected ∧ (t.zones.get z).power = (s.zones.get z).power ∧
      (t.zones.get z).qv = (s.zones.get z).qv ∧ ∀ k, (t.ports.get k).flags.get (Flag.zone z).index = true := by
  obtain ⟨links, monitors, sources, -, tuner, -, ms, -⟩ := about_frame before
  obtain ⟨-, -, -, -, selectedThen, rateThen, powerThen⟩ := sansArbiter_kept (about_zone before)
  obtain ⟨-, -, -, -, selectedEnd, -, powerEnd⟩ := sansArbiter_kept (about_zone after.about)
  obtain ⟨⟨taken, empty⟩, power, selected, -⟩ := bindZone_justBound u z true
  have qvThen := qv_of_sansArbiter (about_zone before)
  have qvEnd := qv_of_sansArbiter (about_zone after.about)
  rw [selectedThen, rateThen] at taken
  have now : ((bindZone u z true).zones.get z).justTaken s (s.zones.get z).selected (s.zones.get z).rate :=
    justTaken_state (fun k => by rw [links]) sources.symm (by rw [tuner])
      (fun _ => ⟨ms.symm, by rw [Zone.quiet, Zone.quiet, monitors]⟩) taken
  exact ⟨justBound_of_sansArbiter (about_zone after.about) ⟨now, empty⟩, selectedEnd.trans (selected.trans selectedThen),
    powerEnd.trans (power.trans powerThen), qvEnd.trans ((bindZone_qv u z true).trans qvThen),
    fun k => after.flag (bindZone_flag u z true k)⟩

end Sys2Proof.Machine
end

section
/-! SET_SOURCE as a whole: what its zones meet (R26, R27). -/

namespace Sys2Proof.Machine

/-! ## Zones that fade -/

/-- A zone that played goes to FADING with the copy it has, and the announcement leaves it there (R27, R68, R84, R86). -/
theorem zoneOnEdit_plays_settles {s u t : State} {i : SrcId} {z : ZoneId}
    (before : (u.zones.get z).sansArbiter = (s.zones.get z).sansArbiter) (after : Aside z (zoneOnEdit i u z) t)
    (bound : (s.zones.get z).bound = some i)
    (power : (s.zones.get z).power = .on ∨ (s.zones.get z).power = .rampDown) (path : (s.zones.get z).path = .playing)
    (qr : (s.zones.get z).qr ≠ none) :
    (t.zones.get z).path = .fading ∧ (t.zones.get z).copy = (s.zones.get z).copy ∧ (t.zones.get z).bound = some i ∧
      (t.zones.get z).qr = (s.zones.get z).qr ∧ (t.zones.get z).power = (s.zones.get z).power ∧
      (t.zones.get z).lastChanged = .auto ∧ ∀ k, (t.ports.get k).flags.get (Flag.zone z).index = true := by
  obtain ⟨boundThen, copyThen, pathThen, qrThen, -, -, powerThen⟩ := sansArbiter_kept before
  have turn := zoneOnEdit_plays (boundThen.trans bound) (by rwa [powerThen]) (pathThen.trans path) (by rwa [qrThen])
  have zone : (zoneOnEdit i u z).zones.get z = { u.zones.get z with path := .fading, lastChanged := .auto } := by
    rw [turn, setAt_get_self]
  have flags (k : Port) : ((zoneOnEdit i u z).ports.get k).flags.get (Flag.zone z).index = true := by
    rw [turn, Ports.raise_flag]
    simp
  have record := about_zone after.about
  have last := after.recordsAuto (by rw [State.recordsAuto, zone])
  rw [zone] at record
  obtain ⟨boundEnd, copyEnd, pathEnd, qrEnd, -, -, powerEnd⟩ := sansArbiter_kept record
  exact ⟨pathEnd, copyEnd.trans copyThen, boundEnd.trans (boundThen.trans bound), qrEnd.trans qrThen, powerEnd.trans powerThen,
    last, fun k => after.flag (flags k)⟩

/-- A zone that fades goes on with it (R68). -/
theorem zoneOnEdit_fades_settles {s u t : State} {i : SrcId} {z : ZoneId}
    (before : (u.zones.get z).sansArbiter = (s.zones.get z).sansArbiter) (after : Aside z (zoneOnEdit i u z) t)
    (power : (s.zones.get z).power ≠ .starting) (path : (s.zones.get z).path = .fading) :
    (t.zones.get z).path = .fading ∧ (t.zones.get z).copy = (s.zones.get z).copy ∧
      (t.zones.get z).bound = (s.zones.get z).bound ∧ (t.zones.get z).qr = (s.zones.get z).qr ∧
      (t.zones.get z).power = (s.zones.get z).power := by
  obtain ⟨-, -, pathThen, -, -, -, powerThen⟩ := sansArbiter_kept before
  rw [zoneOnEdit_fades (by rwa [powerThen]) (pathThen.trans path)] at after
  obtain ⟨bound, copy, pathEnd, qr, -, -, powerEnd⟩ := sansArbiter_kept ((about_zone after.about).trans before)
  exact ⟨pathEnd.trans path, copy, bound, qr, powerEnd⟩

/-- A zone that neither plays audibly nor fades binds its selected source at once (R27, R66, R68). -/
theorem zoneOnEdit_binds_settles {s u t : State} {i : SrcId} {z : ZoneId} (before : u.about z = s.about z)
    (after : Aside z (zoneOnEdit i u z) t) (bound : (s.zones.get z).bound = some i) (binds : (s.zones.get z).bindsNow) :
    (t.zones.get z).justBound s (s.zones.get z).selected (s.zones.get z).rate ∧
      (t.zones.get z).selected = (s.zones.get z).selected ∧ (t.zones.get z).power = (s.zones.get z).power ∧
      (t.zones.get z).qv = (s.zones.get z).qv ∧ ∀ k, (t.ports.get k).flags.get (Flag.zone z).index = true := by
  obtain ⟨boundThen, -, pathThen, qrThen, -, -, powerThen⟩ := sansArbiter_kept (about_zone before)
  have bindsThen : (u.zones.get z).bindsNow := by rwa [Zone.bindsNow, powerThen, pathThen, qrThen]
  rw [zoneOnEdit_binds (boundThen.trans bound) bindsThen] at after
  exact bindZone_settles before after

/-! ## Edits that do no more -/

/-- The edit of an entry that no zone plays, or none but zones that fade already, changes no zone (R27, R68). -/
theorem forEach_zoneOnEdit_unplayed {s : State} {i : SrcId}
    (h : ∀ z, (s.zones.get z).power.isBound = true → (s.zones.get z).bound = some i →
      (s.zones.get z).power ≠ .starting ∧ (s.zones.get z).path = .fading) : s.forEach zoneIds (zoneOnEdit i) = s := by
  refine forEach_zone_none fun z => ?_
  by_cases told : (s.zones.get z).power.isBound = true ∧ (s.zones.get z).bound = some i
  · obtain ⟨power, path⟩ := h z told.1 told.2
    exact zoneOnEdit_fades power path
  · exact if_neg told

/-- The edit of an entry that one zone alone plays (R27, R68). -/
theorem forEach_zoneOnEdit_played {s : State} {i : SrcId} {z : ZoneId} (bound : (s.zones.get z).bound = some i)
    (power : (s.zones.get z).power = .on ∨ (s.zones.get z).power = .rampDown) (path : (s.zones.get z).path = .playing)
    (qr : (s.zones.get z).qr ≠ none) (alone : ∀ y, y ≠ z → (s.zones.get y).bound ≠ some i) :
    s.forEach zoneIds (zoneOnEdit i) =
      { s with zones := setAt s.zones z { s.zones.get z with path := .fading, lastChanged := .auto }
               ports := s.ports.raise (.zone z) } := by
  have turn := zoneOnEdit_plays bound power path qr
  rw [forEach_zone_only (fun y ne => zoneOnEdit_of_ne (alone y ne)) fun y ne => zoneOnEdit_of_ne ?_, turn]
  rw [turn, setAt_get_of_ne _ _ (Ne.symm ne)]
  exact alone y ne

/-! ## The obligation -/

/-- What a taken SET_SOURCE leaves: the entry written and announced, and the response in the slot (R26, R27). -/
def sourceSet (s : State) (p : Port) (i : SrcId) (e : SourceEntry) (answer : Response) : State :=
  (writeSource (s.taking p 9) i e).updPort p fun x => { x with slot := some answer }

theorem sourceSet_frame (s : State) (p : Port) (i : SrcId) (e : SourceEntry) (answer : Response) :
    zoneFrameKept { s with sources := setAt s.sources i e } (sourceSet s p i e answer) := by
  have taken : zoneFrameKept { s with sources := setAt s.sources i e } ((s.taking p 9).putSource i e) :=
    ⟨rfl, rfl, rfl, rfl, rfl, rfl, rfl, rfl⟩
  exact (taken.trans (writeSource_frame _ i e)).trans (putPort_frame _ p _)

theorem sourceSet_slot (s : State) (p : Port) (i : SrcId) (e : SourceEntry) (answer : Response) :
    (sourceSet s p i e answer).slot p = some answer := by
  rw [sourceSet, State.updPort, State.slot, State.putPort_ports, Ports.put_get_self]

/-- SET_SOURCE as one zone meets it. -/
theorem sourceSet_turn (s : State) (p : Port) (i : SrcId) (e : SourceEntry) (answer : Response) (z : ZoneId) :
    ∃ u, u.about z = State.about z { s with sources := setAt s.sources i e } ∧
      Aside z (zoneOnEdit i u z) (sourceSet s p i e answer) := by
  obtain ⟨u, before, after⟩ := writeSource_turn (s.taking p 9) i e z
  exact ⟨u, before.about, after.trans (putPort_aside z rfl)⟩

/-- Settles O23. -/
theorem setSourceEffect : Obligations.SetSourceEffect := by
  intro s p tag eb ib tb l2 l1 l0 ab mb label i input auto mode e result ready index link autoOn surround entry answered
  have nine : [eb, ib, tb, l2, l1, l0, ab, mb, label].length ≤ 250 := Nat.le_of_ble_eq_true rfl
  have request := reqSetSource_eq (s.taking p 9) index link autoOn surround entry
  rw [← answered] at request
  have served := serve_eq (tag := tag) ready nine request
  obtain ⟨links, monitors, sources, speakers, tuner, encoders, ms, -⟩ :=
    sourceSet_frame s p i e { tag := tag, result := result, data := sourceRecord e }
  refine ⟨_, congrArg Host.Outcome.next served, sources, sourceSet_slot s p i e _, links, monitors, speakers, tuner, encoders,
    ms, fun unplayed => ?_, fun z bound => ?_⟩
  · have edited := forEach_zoneOnEdit_unplayed (s := (s.taking p 9).putSource i e) unplayed
    rw [writeSource, edited] at request
    -- no zone changes, so no flag is set: which one makes no difference
    exact served.symm.trans (serve_sources (b := false) (f := .reset) ready nine request)
  · obtain ⟨u, before, after⟩ := sourceSet_turn s p i e { tag := tag, result := result, data := sourceRecord e } z
    have record : (u.zones.get z).sansArbiter = (s.zones.get z).sansArbiter :=
      about_zone (s := { s with sources := setAt s.sources i e }) before
    refine ⟨fun power path qr => ⟨zoneOnEdit_plays_settles record after bound power path qr, fun alone => ?_⟩,
      fun power path => ?_, fun which => zoneOnEdit_binds_settles before after bound ?_⟩
    · have edited := forEach_zoneOnEdit_played (s := (s.taking p 9).putSource i e) bound power path qr alone
      rw [writeSource, edited] at request
      exact served.symm.trans (serve_sources (b := true) ready nine request)
    · have running : (s.zones.get z).power ≠ .starting := by rcases power with h | h <;> rw [h] <;> decide
      obtain ⟨fading, copy, boundEnd, qr, powerEnd⟩ := zoneOnEdit_fades_settles record after running path
      exact ⟨fading, copy, boundEnd.trans bound, qr, powerEnd⟩
    · rcases which with starting | ⟨on | rampDown, path⟩
      · exact ⟨by rw [starting]; rfl, .inl starting⟩
      · exact ⟨by rw [on]; rfl, .inr path⟩
      · exact ⟨by rw [rampDown]; rfl, .inr path⟩

end Sys2Proof.Machine
end

section
/-! The decode arbiter by itself: its part of the state, its operations on that part, and what they are in the model (R49 to R55). -/

namespace Sys2Proof.Machine

/-! ## The arbiter's part of the state -/

/-- What the decode arbiter reads and writes: the zones' links, decode positions and DECODE, the units, the wait list, and the
count of free values. -/
structure Seats where
  link : ZoneId → Option LinkId
  pos : ZoneId → DecodePos
  muted : ZoneId → Bool
  units : Vector DecodeUnit 2
  wait : List ZoneId
  fresh : Nat

/-- The arbiter's part of a state. -/
def State.seats (s : State) : Seats :=
  { link := fun y => (s.zones.get y).link, pos := fun y => (s.zones.get y).decode
    muted := fun y => (s.zones.get y).mutes.decode, units := s.units, wait := s.waitList, fresh := s.fresh }

theorem seats_link {s t : State} (h : t.seats = s.seats) (y : ZoneId) : (t.zones.get y).link = (s.zones.get y).link :=
  congrFun (congrArg Seats.link h) y

theorem seats_muted {s t : State} (h : t.seats = s.seats) (y : ZoneId) :
    (t.zones.get y).mutes.decode = (s.zones.get y).mutes.decode := congrFun (congrArg Seats.muted h) y

/-- Two states with the same zones' links, positions and DECODE, units, wait list and count of free values. -/
theorem seats_eq {s t : State} (link : ∀ y, (t.zones.get y).link = (s.zones.get y).link)
    (pos : ∀ y, (t.zones.get y).decode = (s.zones.get y).decode)
    (muted : ∀ y, (t.zones.get y).mutes.decode = (s.zones.get y).mutes.decode) (units : t.units = s.units)
    (wait : t.waitList = s.waitList) (fresh : t.fresh = s.fresh) : t.seats = s.seats := by
  simp only [State.seats, link, pos, muted, units, wait, fresh]

/-! ## Its operations -/

/-- DECODE of a zone at a position (R55, R73). -/
def Seats.mutes (a : Seats) : DecodePos → Bool
  | .none => false
  | .waiting => true
  | .attached u => (a.units.get u).state == .syncing

/-- Some zones are told a decode position, which they record with DECODE (R55). -/
def Seats.tell (a : Seats) (ys : List ZoneId) (p : DecodePos) : Seats :=
  { a with pos := fun y => if y ∈ ys then p else a.pos y
           muted := fun y => if y ∈ ys then a.mutes p else a.muted y }

/-- The wait list is written. -/
def Seats.queue (a : Seats) (w : List ZoneId) : Seats := { a with wait := w }

/-- A unit that has been bound to a link (R45, R46). -/
def DecodeUnit.syncingOn (l : LinkId) (n : Nat) : DecodeUnit :=
  { state := .syncing, link := some l, output := []
    vals := { map := 0, drc := min 48 (Config.syncingDrc n).toNat, pref := Config.syncingPref n
              lfe := Config.syncingLfe n, stream := Config.syncingStream n }
    owed := false, store := none, mark := false, concealed := 0, silenced := 0 }

/-- A unit that has become FREE (R47). -/
def DecodeUnit.freed (d : DecodeUnit) : DecodeUnit := { d with state := .free, link := none, output := [], owed := false }

/-- A unit is bound to a link (R45). -/
def Seats.bind (a : Seats) (u : UnitId) (l : LinkId) : Seats :=
  { a with units := setAt a.units u (.syncingOn l a.fresh), fresh := a.fresh + 1 }

/-- A unit becomes FREE (R47). -/
def Seats.clear (a : Seats) (u : UnitId) : Seats := { a with units := setAt a.units u (a.units.get u).freed }

/-- A freed unit is granted to the head of the wait list and to the waiters on the same link (R52). -/
def Seats.grant (a : Seats) (u : UnitId) : Seats :=
  match a.wait with
  | [] => a
  | z :: rest =>
    match a.link z with
    | none => a
    | some l =>
      ((a.queue (rest.filter fun y => decide (a.link y ≠ some l))).bind u l).tell
        (z :: rest.filter fun y => decide (a.link y = some l)) (.attached u)

/-- A unit with no attached zone becomes FREE and is granted (R47, R51, R52). -/
def Seats.freeIfEmpty (a : Seats) (u : UnitId) : Seats := if ∀ y, a.pos y ≠ .attached u then (a.clear u).grant u else a

/-- A zone leaves its decode position (R51). -/
def Seats.release (a : Seats) (z : ZoneId) : Seats :=
  match a.pos z with
  | .none => a
  | .waiting => (a.queue (a.wait.filter fun y => decide (y ≠ z))).tell [z] .none
  | .attached u => (a.tell [z] .none).freeIfEmpty u

/-- The unit that serves a link (R38). -/
def Seats.serving (a : Seats) (l : LinkId) : Option UnitId := unitIds.find? fun u => decide ((a.units.get u).link = some l)

/-- The lowest-numbered FREE unit (R50). -/
def Seats.lowestFree (a : Seats) : Option UnitId := unitIds.find? fun u => decide ((a.units.get u).state = .free)

/-- A zone comes to need decode for a link (R50). -/
def Seats.place (a : Seats) (z : ZoneId) (l : LinkId) : Seats :=
  match a.serving l with
  | some u => a.tell [z] (.attached u)
  | none =>
    match a.lowestFree with
    | some u => (a.bind u l).tell [z] (.attached u)
    | none => (a.queue (if z = 0 then z :: a.wait else a.wait ++ [z])).tell [z] .waiting

/-- A zone is bound or rebound, `need` saying which links give need of decode (R53). -/
def Seats.rebind (need : LinkId → Bool) (a : Seats) (z : ZoneId) (old new : Option LinkId) : Seats :=
  match new with
  | none => a.release z
  | some l =>
    if need l then
      if old = new ∧ a.pos z ≠ .none then a.tell [z] (a.pos z) else (a.release z).place z l
    else a.release z

theorem grant_nil {a : Seats} (u : UnitId) (h : a.wait = []) : a.grant u = a := by
  unfold Seats.grant
  rw [h]

theorem grant_unlinked {a : Seats} {z : ZoneId} {rest : List ZoneId} (u : UnitId) (h : a.wait = z :: rest)
    (link : a.link z = none) : a.grant u = a := by
  unfold Seats.grant
  rw [h]
  dsimp only
  rw [link]

theorem grant_cons {a : Seats} {z : ZoneId} {rest : List ZoneId} {l : LinkId} (u : UnitId) (h : a.wait = z :: rest)
    (link : a.link z = some l) : a.grant u =
      ((a.queue (rest.filter fun y => decide (a.link y ≠ some l))).bind u l).tell
        (z :: rest.filter fun y => decide (a.link y = some l)) (.attached u) := by
  unfold Seats.grant
  rw [h]
  dsimp only
  rw [link]

theorem release_none {a : Seats} {z : ZoneId} (h : a.pos z = .none) : a.release z = a := by
  unfold Seats.release
  rw [h]

theorem release_waiting {a : Seats} {z : ZoneId} (h : a.pos z = .waiting) :
    a.release z = (a.queue (a.wait.filter fun y => decide (y ≠ z))).tell [z] .none := by
  unfold Seats.release
  rw [h]

theorem release_attached {a : Seats} {z : ZoneId} {u : UnitId} (h : a.pos z = .attached u) :
    a.release z = (a.tell [z] .none).freeIfEmpty u := by
  unfold Seats.release
  rw [h]

theorem place_served {a : Seats} {l : LinkId} {u : UnitId} (z : ZoneId) (h : a.serving l = some u) :
    a.place z l = a.tell [z] (.attached u) := by
  unfold Seats.place
  rw [h]

theorem place_free {a : Seats} {l : LinkId} {u : UnitId} (z : ZoneId) (h : a.serving l = none)
    (free : a.lowestFree = some u) : a.place z l = (a.bind u l).tell [z] (.attached u) := by
  unfold Seats.place
  rw [h]
  dsimp only
  rw [free]

theorem place_full {a : Seats} {l : LinkId} (z : ZoneId) (h : a.serving l = none) (full : a.lowestFree = none) :
    a.place z l = (a.queue (if z = 0 then z :: a.wait else a.wait ++ [z])).tell [z] .waiting := by
  unfold Seats.place
  rw [h]
  dsimp only
  rw [full]

theorem rebind_unlinked (need : LinkId → Bool) (a : Seats) (z : ZoneId) (old : Option LinkId) :
    a.rebind need z old none = a.release z := rfl

theorem rebind_unneeded {need : LinkId → Bool} (a : Seats) (z : ZoneId) (old : Option LinkId) {l : LinkId}
    (h : need l = false) : a.rebind need z old (some l) = a.release z := by simp [Seats.rebind, h]

theorem rebind_same {need : LinkId → Bool} {a : Seats} {z : ZoneId} {old : Option LinkId} {l : LinkId} (h : need l = true)
    (same : old = some l) (pos : a.pos z ≠ .none) : a.rebind need z old (some l) = a.tell [z] (a.pos z) := by
  simp [Seats.rebind, h, same, pos]

theorem rebind_moves {need : LinkId → Bool} {a : Seats} {z : ZoneId} {old : Option LinkId} {l : LinkId} (h : need l = true)
    (moves : ¬(old = some l ∧ a.pos z ≠ .none)) : a.rebind need z old (some l) = (a.release z).place z l := by
  simp only [Seats.rebind, h, if_true, if_neg moves]

/-! ## What they are in the model -/

theorem decodeMuted_seats (s : State) (p : DecodePos) : decodeMuted s p = s.seats.mutes p := by cases p <;> rfl

/-- An operation on the seats of one zone. -/
theorem seats_of_told {s t : State} {z : ZoneId} {p : DecodePos} (link : ∀ y, (t.zones.get y).link = (s.zones.get y).link)
    (self : (t.zones.get z).decode = p ∧ (t.zones.get z).mutes.decode = decodeMuted s p)
    (others : ∀ y, z ≠ y → t.zones.get y = s.zones.get y) (units : t.units = s.units) (wait : t.waitList = s.waitList)
    (fresh : t.fresh = s.fresh) : t.seats = s.seats.tell [z] p := by
  have pos (y : ZoneId) : (t.zones.get y).decode = if y ∈ [z] then p else (s.zones.get y).decode := by
    by_cases e : z = y
    · subst e; simp [self.1]
    · simp [others y e, Ne.symm e]
  have muted (y : ZoneId) : (t.zones.get y).mutes.decode =
      if y ∈ [z] then s.seats.mutes p else (s.zones.get y).mutes.decode := by
    by_cases e : z = y
    · subst e; simp [self.2, decodeMuted_seats]
    · simp [others y e, Ne.symm e]
  simp only [State.seats, Seats.tell, link, pos, muted, units, wait, fresh]

theorem raiseAttached_waitList (s : State) (p : DecodePos) : (raiseAttached s p).waitList = s.waitList := by cases p <;> rfl

theorem raiseAttached_fresh (s : State) (p : DecodePos) : (raiseAttached s p).fresh = s.fresh := by cases p <;> rfl

theorem setDecode_waitList (s : State) (z : ZoneId) (p : DecodePos) : (setDecode s z p).waitList = s.waitList := by
  rw [setDecode_eq]
  dsimp only
  split
  · rfl
  · rw [raiseAttached_waitList, raiseAttached_waitList]; rfl

theorem setDecode_fresh (s : State) (z : ZoneId) (p : DecodePos) : (setDecode s z p).fresh = s.fresh := by
  rw [setDecode_eq]
  dsimp only
  split
  · rfl
  · rw [raiseAttached_fresh, raiseAttached_fresh]; rfl

theorem setDecode_seats (s : State) (z : ZoneId) (p : DecodePos) : (setDecode s z p).seats = s.seats.tell [z] p := by
  obtain ⟨units, others⟩ := setDecode_alone s z p
  refine seats_of_told (fun y => sansArbiter_link (sansArbiter_zone (setDecode_sansArbiter s z p) y)) ?_ others units
    (setDecode_waitList s z p) (setDecode_fresh s z p)
  rw [setDecode_zones, State.autoZone_get_self]
  split
  · exact ⟨rfl, rfl⟩
  · exact ⟨rfl, rfl⟩

@[simp] theorem tell_mutes (a : Seats) (ys : List ZoneId) (p q : DecodePos) : (a.tell ys p).mutes q = a.mutes q := by
  cases q <;> rfl

/-- Telling one zone after another is telling them all. -/
theorem tell_tell (a : Seats) (xs ys : List ZoneId) (p : DecodePos) : (a.tell xs p).tell ys p = a.tell (xs ++ ys) p := by
  have pos : ((a.tell xs p).tell ys p).pos = (a.tell (xs ++ ys) p).pos := by
    funext y
    by_cases x : y ∈ xs <;> simp [Seats.tell, x]
  have muted : ((a.tell xs p).tell ys p).muted = (a.tell (xs ++ ys) p).muted := by
    funext y
    show (if y ∈ ys then (a.tell xs p).mutes p else _) = _
    rw [tell_mutes]
    by_cases x : y ∈ xs <;> simp [Seats.tell, x]
  exact congrArg₂ (fun p m => ({ a with pos := p, muted := m } : Seats)) pos muted

theorem forEach_setDecode_seats (p : DecodePos) (ys : List ZoneId) (s : State) :
    (s.forEach ys fun s y => setDecode s y p).seats = s.seats.tell ys p := by
  induction ys generalizing s with
  | nil => simp [Seats.tell, State.seats]
  | cons y ys ih =>
    rw [State.forEach_cons, ih, setDecode_seats, tell_tell]
    rfl

theorem bindUnit_seats (s : State) (u : UnitId) (l : LinkId) : (bindUnit s u l).seats = s.seats.bind u l := rfl

theorem clearUnit_seats (s : State) (u : UnitId) : (clearUnit s u).seats = s.seats.clear u := rfl

theorem putWaitList_seats (s : State) (w : List ZoneId) : (s.putWaitList w).seats = s.seats.queue w := rfl

theorem grantUnit_seats (s : State) (u : UnitId) : (grantUnit s u).seats = s.seats.grant u := by
  unfold grantUnit
  split
  next e => exact (grant_nil u e).symm
  next z rest e =>
    split
    next link => exact (grant_unlinked u e link).symm
    next l link =>
      rw [grant_cons u e link]
      exact forEach_setDecode_seats _ _ _

theorem attachedZones_empty (s : State) (u : UnitId) :
    (attachedZones s u).isEmpty = true ↔ ∀ y, s.seats.pos y ≠ .attached u := by
  have all : ∀ y : ZoneId, y ∈ zoneIds := by decide
  simp [attachedZones, List.isEmpty_iff, List.filter_eq_nil_iff, all, State.seats]

theorem freeIfEmpty_seats (s : State) (u : UnitId) : (freeIfEmpty s u).seats = s.seats.freeIfEmpty u := by
  unfold freeIfEmpty Seats.freeIfEmpty
  by_cases h : (attachedZones s u).isEmpty = true
  · rw [if_pos h, if_pos ((attachedZones_empty s u).mp h), grantUnit_seats, clearUnit_seats]
  · rw [if_neg h, if_neg fun e => h ((attachedZones_empty s u).mpr e)]

theorem releaseDecode_seats (s : State) (z : ZoneId) : (releaseDecode s z).seats = s.seats.release z := by
  unfold releaseDecode
  split
  next h => rw [release_none h]
  next h =>
    rw [release_waiting h]
    exact setDecode_seats _ _ _
  next u h => rw [release_attached h, freeIfEmpty_seats, setDecode_seats]

theorem servingUnit_seats (s : State) (l : LinkId) : servingUnit s l = s.seats.serving l := rfl

theorem lowestFree_seats (s : State) : lowestFree s = s.seats.lowestFree := rfl

theorem placeDecode_seats (s : State) (z : ZoneId) (l : LinkId) : (placeDecode s z l).seats = s.seats.place z l := by
  unfold placeDecode
  split
  next u h =>
    rw [place_served (a := s.seats) z h]
    exact setDecode_seats _ _ _
  next h =>
    split
    next u free =>
      rw [place_free (a := s.seats) z h free]
      exact setDecode_seats _ _ _
    next full =>
      rw [place_full (a := s.seats) z h full]
      exact setDecode_seats _ _ _

theorem rebindDecode_seats (s : State) (z : ZoneId) (old new : Option LinkId) :
    (rebindDecode s z old new).seats = s.seats.rebind (linkNeedsDecode s) z old new := by
  cases new with
  | none => exact releaseDecode_seats s z
  | some l =>
    unfold rebindDecode
    dsimp only
    split
    next need =>
      split
      next same =>
        rw [rebind_same need same.1 same.2]
        exact setDecode_seats _ _ _
      next moves => rw [rebind_moves need moves, placeDecode_seats, releaseDecode_seats]
    next need => rw [rebind_unneeded _ _ _ (Bool.eq_false_iff.mpr need), releaseDecode_seats]

/-! ## What the searches find -/

theorem serving_eq_some {a : Seats} {l : LinkId} {u : UnitId} : a.serving l = some u ↔
    (a.units.get u).link = some l ∧ ∀ v, v < u → (a.units.get v).link ≠ some l :=
  servingUnit_eq_some { State.reset with units := a.units } l u

theorem serving_eq_none {a : Seats} {l : LinkId} : a.serving l = none ↔ ∀ v, (a.units.get v).link ≠ some l :=
  servingUnit_eq_none { State.reset with units := a.units } l

theorem lowestFree_seats_eq_some {a : Seats} {u : UnitId} : a.lowestFree = some u ↔
    (a.units.get u).state = .free ∧ ∀ v, v < u → (a.units.get v).state ≠ .free :=
  lowestFree_eq_some { State.reset with units := a.units } u

theorem lowestFree_seats_eq_none {a : Seats} : a.lowestFree = none ↔ ∀ v, (a.units.get v).state ≠ .free :=
  lowestFree_eq_none { State.reset with units := a.units }

end Sys2Proof.Machine
end

section
/-! The decode arbiter's laws, and that each of its operations keeps them (R38, R49 to R55). -/

namespace Sys2Proof.Machine

/-! ## The laws -/

/-- What holds of the units and the wait list whatever the zones' links are: a unit's link is none exactly when it is FREE, an
attached zone's unit serves a link, and the wait list names each zone that waits, once, and no other (R38, R49). -/
structure Seats.Base (a : Seats) : Prop where
  free : ∀ u, (a.units.get u).state = .free ↔ (a.units.get u).link = none
  served : ∀ y u, a.pos y = .attached u → (a.units.get u).link ≠ none
  nodup : a.wait.Nodup
  waits : ∀ y, y ∈ a.wait ↔ a.pos y = .waiting

/-- A zone's link goes with its position: that of the unit it is attached to, and, where the arbiter's laws are asked for
(`P`), one that no unit serves while the zone waits (R38, R50). -/
structure Seats.OnLink (P : Prop) (a : Seats) (y : ZoneId) : Prop where
  attached : ∀ u, a.pos y = .attached u → a.link y = (a.units.get u).link
  waiting : P → a.pos y = .waiting → a.link y ≠ none ∧ ∀ u, (a.units.get u).link ≠ a.link y

/-- A zone has DECODE by its position, and a link that goes with it (R38, R55, R73). -/
structure Seats.Seated (P : Prop) (a : Seats) (y : ZoneId) : Prop extends a.OnLink P y where
  muted : a.muted y = a.mutes (a.pos y)

/-- No zone waits while a unit is FREE, a unit that is not FREE has an attached zone or serves link `x`, and no two units serve
one link (R38, R50, R52). -/
structure Seats.Tight (x : Option LinkId) (a : Seats) : Prop where
  busy : ∀ u, (a.units.get u).state = .free → a.wait = []
  attended : ∀ u, (a.units.get u).state ≠ .free → (a.units.get u).link = x ∨ ∃ y, a.pos y = .attached u
  distinct : ∀ u v, u ≠ v → (a.units.get u).link = (a.units.get v).link → (a.units.get u).link = none

/-- The laws, with the arbiter's own (`P`) where they are asked for, `x` being the link whose unit may have no zone. -/
structure Seats.Lawful (P : Prop) (x : Option LinkId) (a : Seats) : Prop where
  base : a.Base
  seated : ∀ y, a.Seated P y
  tight : P → a.Tight x

/-- The laws but for zone `z`, which is about to leave its position. -/
structure Seats.LawfulBut (P : Prop) (z : ZoneId) (a : Seats) : Prop where
  base : a.Base
  seated : ∀ y, y ≠ z → a.Seated P y
  tight : P → a.Tight none
  unmuted : a.pos z = .none → a.muted z = false

/-- A zone keeps its link, and has a position exactly when it had one. -/
def Seats.Stays (a b : Seats) (y : ZoneId) : Prop := b.link y = a.link y ∧ (b.pos y = .none ↔ a.pos y = .none)

theorem Seats.Stays.refl (a : Seats) (y : ZoneId) : a.Stays a y := ⟨rfl, Iff.rfl⟩

theorem Seats.Stays.trans {a b c : Seats} {y : ZoneId} (h : a.Stays b y) (k : b.Stays c y) : a.Stays c y :=
  ⟨k.1.trans h.1, k.2.trans h.2⟩

/-- A unit of link none is no exception, for it is FREE. -/
theorem Seats.Tight.exempt {a : Seats} (x : Option LinkId) (base : a.Base) (h : a.Tight none) : a.Tight x :=
  ⟨h.busy, fun u busy => (h.attended u busy).imp_left fun link => absurd ((base.free u).mpr link) busy, h.distinct⟩

/-! ## Zones that are told a position -/

theorem tell_pos_self (a : Seats) (z : ZoneId) (p : DecodePos) : (a.tell [z] p).pos z = p := if_pos (List.mem_singleton_self z)

theorem tell_muted_self (a : Seats) (z : ZoneId) (p : DecodePos) : (a.tell [z] p).muted z = a.mutes p :=
  if_pos (List.mem_singleton_self z)

theorem tell_pos_of_ne (a : Seats) {y z : ZoneId} (p : DecodePos) (h : y ≠ z) : (a.tell [z] p).pos y = a.pos y :=
  if_neg (by simpa using h)

theorem tell_muted_of_ne (a : Seats) {y z : ZoneId} (p : DecodePos) (h : y ≠ z) : (a.tell [z] p).muted y = a.muted y :=
  if_neg (by simpa using h)

theorem tell_stays (a : Seats) {y z : ZoneId} (p : DecodePos) (h : y ≠ z) : a.Stays (a.tell [z] p) y :=
  ⟨rfl, by rw [tell_pos_of_ne a p h]⟩

/-- A zone's own laws look at its link, its position, its DECODE and the units' states and links. -/
theorem seated_congr {P : Prop} {a b : Seats} {y : ZoneId} (link : b.link y = a.link y) (pos : b.pos y = a.pos y)
    (muted : b.muted y = a.muted y)
    (units : ∀ u, (b.units.get u).state = (a.units.get u).state ∧ (b.units.get u).link = (a.units.get u).link)
    (h : a.Seated P y) : b.Seated P y := by
  have mutes (p : DecodePos) : b.mutes p = a.mutes p := by cases p <;> simp [Seats.mutes, units]
  refine ⟨⟨fun u at_ => ?_, fun hP waits => ?_⟩, by rw [muted, pos, mutes, h.muted]⟩
  · rw [link, (units u).2]
    exact h.attached u (pos ▸ at_)
  · simp only [link, (units _).2]
    exact h.waiting hP (pos ▸ waits)

/-- A zone with no position has no DECODE, and any link goes with that. -/
theorem seated_of_none {P : Prop} {a : Seats} {y : ZoneId} (pos : a.pos y = .none) (muted : a.muted y = false) : a.Seated P y :=
  ⟨⟨fun u at_ => (nomatch pos.symm.trans at_), fun _ waits => (nomatch pos.symm.trans waits)⟩, by rw [muted, pos]; rfl⟩

/-! ## A freed unit -/

theorem clear_get (a : Seats) (u v : UnitId) :
    ((a.clear u).units.get v) = if u = v then (a.units.get u).freed else a.units.get v := by
  show (setAt _ _ _).get v = _
  rw [setAt_get]

/-- The wait list's head and the others on its link are attached to the unit granted; nobody else's position changes. -/
theorem grant_pos {a : Seats} {z : ZoneId} {rest : List ZoneId} {l : LinkId} (u : UnitId) (h : a.wait = z :: rest)
    (link : a.link z = some l) (y : ZoneId) :
    (a.grant u).pos y = if y ∈ a.wait ∧ a.link y = some l then .attached u else a.pos y := by
  have told : y ∈ (z :: rest.filter fun y => decide (a.link y = some l)) ↔ y ∈ a.wait ∧ a.link y = some l := by
    rw [h]
    by_cases e : y = z
    · subst e; simp [link]
    · simp [e]
  rw [grant_cons u h link]
  exact if_congr told rfl rfl

theorem grant_muted {a : Seats} {z : ZoneId} {rest : List ZoneId} {l : LinkId} (u : UnitId) (h : a.wait = z :: rest)
    (link : a.link z = some l) (y : ZoneId) :
    (a.grant u).muted y = if y ∈ a.wait ∧ a.link y = some l then true else a.muted y := by
  have told : y ∈ (z :: rest.filter fun y => decide (a.link y = some l)) ↔ y ∈ a.wait ∧ a.link y = some l := by
    rw [h]
    by_cases e : y = z
    · subst e; simp [link]
    · simp [e]
  rw [grant_cons u h link]
  refine if_congr told ?_ rfl
  show ((setAt a.units u (.syncingOn l a.fresh)).get u).state == .syncing
  rw [setAt_get_self]
  rfl

theorem grant_units {a : Seats} {z : ZoneId} {rest : List ZoneId} {l : LinkId} (u : UnitId) (h : a.wait = z :: rest)
    (link : a.link z = some l) : (a.grant u).units = setAt a.units u (.syncingOn l a.fresh) := by
  rw [grant_cons u h link]
  rfl

theorem grant_wait {a : Seats} {z : ZoneId} {rest : List ZoneId} {l : LinkId} (u : UnitId) (h : a.wait = z :: rest)
    (link : a.link z = some l) : (a.grant u).wait = rest.filter fun y => decide (a.link y ≠ some l) := by
  rw [grant_cons u h link]
  rfl

theorem grant_link (a : Seats) (u : UnitId) : (a.grant u).link = a.link := by
  unfold Seats.grant
  split
  · rfl
  · split <;> rfl

/-- A grant gives positions to zones that waited alone. -/
theorem grant_stays (a : Seats) (u : UnitId) (y : ZoneId) (waits : y ∈ a.wait → a.pos y = .waiting) :
    a.Stays (a.grant u) y := by
  refine ⟨congrFun (grant_link a u) y, ?_⟩
  cases h : a.wait with
  | nil => rw [grant_nil u h]
  | cons z rest =>
    cases link : a.link z with
    | none => rw [grant_unlinked u h link]
    | some l =>
      rw [grant_pos u h link]
      split
      next told => simp [waits told.1]
      · rfl

theorem freeIfEmpty_stays (a : Seats) (u : UnitId) (y : ZoneId) (waits : y ∈ a.wait → a.pos y = .waiting) :
    a.Stays (a.freeIfEmpty u) y := by
  unfold Seats.freeIfEmpty
  split
  · exact grant_stays (a.clear u) u y waits
  · exact .refl a y

/-- A unit without attached zones, cleared and granted to the head of the wait list. -/
theorem grant_lawful {P : Prop} {a : Seats} {u : UnitId} {z : ZoneId} {rest : List ZoneId} {l : LinkId}
    (h : a.Lawful P (a.units.get u).link) (empty : ∀ y, a.pos y ≠ .attached u) (wait : a.wait = z :: rest)
    (link : a.link z = some l) : ((a.clear u).grant u).Lawful P none := by
  obtain ⟨base, seated, tight⟩ := h
  have queued : (a.clear u).wait = z :: rest := wait
  have pos := grant_pos u queued (show (a.clear u).link z = some l from link)
  have muted := grant_muted u queued (show (a.clear u).link z = some l from link)
  have units (v : UnitId) : (((a.clear u).grant u).units.get v) =
      if u = v then .syncingOn l a.fresh else a.units.get v := by
    rw [grant_units u queued (show (a.clear u).link z = some l from link), setAt_get, clear_get]
    split
    · rfl
    · rfl
  have left := grant_wait u queued (show (a.clear u).link z = some l from link)
  have links (y : ZoneId) : ((a.clear u).grant u).link y = a.link y := congrFun (grant_link (a.clear u) u) y
  have waitsBefore (y : ZoneId) : y ∈ a.wait ↔ a.pos y = .waiting := base.waits y
  have once : z ∉ rest ∧ rest.Nodup := by simpa [wait] using base.nodup
  generalize (a.clear u).grant u = b at pos muted units left links ⊢
  have pos' (y : ZoneId) : b.pos y = if y ∈ a.wait ∧ a.link y = some l then .attached u else a.pos y := pos y
  have muted' (y : ZoneId) : b.muted y = if y ∈ a.wait ∧ a.link y = some l then true else a.muted y := muted y
  have left' : b.wait = rest.filter fun y => decide (a.link y ≠ some l) := left
  have own : (b.units.get u) = .syncingOn l a.fresh := by rw [units, if_pos rfl]
  have other (v : UnitId) (ne : v ≠ u) : b.units.get v = a.units.get v := by rw [units, if_neg (Ne.symm ne)]
  have attached {y : ZoneId} {v : UnitId} (at_ : a.pos y = .attached v) : v ≠ u ∧ b.pos y = .attached v := by
    refine ⟨fun e => empty y (e ▸ at_), ?_⟩
    rw [pos', if_neg fun told => ?_, at_]
    exact nomatch at_.symm.trans ((waitsBefore y).mp told.1)
  refine ⟨⟨fun v => ?_, fun y v at_ => ?_, ?_, fun y => ?_⟩, fun y => ⟨⟨fun v at_ => ?_, fun hP waits => ?_⟩, ?_⟩, fun hP => ?_⟩
  · by_cases e : v = u
    · rw [e, own]; simp [DecodeUnit.syncingOn]
    · rw [other v e]; exact base.free v
  · by_cases e : v = u
    · rw [e, own]; simp [DecodeUnit.syncingOn]
    · rw [other v e]
      rw [pos'] at at_
      split at at_
      · cases at_; exact absurd rfl e
      · exact base.served y v at_
  · rw [left']
    exact once.2.filter _
  · rw [left', pos', List.mem_filter]
    by_cases told : y ∈ a.wait ∧ a.link y = some l
    · simp [told]
    · rw [if_neg told, ← waitsBefore, wait, List.mem_cons]
      constructor
      · exact fun k => .inr k.1
      · rintro (rfl | k)
        · exact absurd ⟨by rw [wait]; exact List.mem_cons_self, link⟩ told
        · exact ⟨k, decide_eq_true fun e => told ⟨by rw [wait]; exact List.mem_cons_of_mem _ k, e⟩⟩
  · rw [links]
    rw [pos'] at at_
    split at at_
    next told =>
      cases at_
      rw [own]
      exact told.2
    next =>
      rw [other v fun e => empty y (e ▸ at_)]
      exact (seated y).attached v at_
  · rw [pos'] at waits
    split at waits
    · cases waits
    next told =>
      obtain ⟨linked, unserved⟩ := (seated y).waiting hP waits
      refine ⟨by rwa [links], fun v => ?_⟩
      rw [links]
      by_cases e : v = u
      · rw [e, own]
        exact fun same => told ⟨(waitsBefore y).mpr waits, same.symm⟩
      · rw [other v e]
        exact unserved v
  · rw [muted', pos']
    split
    · show true = ((b.units.get u).state == .syncing)
      rw [own]
      rfl
    next =>
      rw [(seated y).muted]
      cases at_ : a.pos y with
      | none => rfl
      | waiting => rfl
      | attached v =>
        show ((a.units.get v).state == _) = ((b.units.get v).state == _)
        rw [other v fun e => empty y (e ▸ at_)]
  · obtain ⟨busy, attended, distinct⟩ := tight hP
    have waitsHead : a.pos z = .waiting := (waitsBefore z).mp (by rw [wait]; exact List.mem_cons_self)
    have unserved (v : UnitId) : (a.units.get v).link ≠ some l := link ▸ ((seated z).waiting hP waitsHead).2 v
    have unitLink : (b.units.get u).link = some l := by rw [own]; rfl
    refine ⟨fun v idle => ?_, fun v busyNow => .inr ?_, fun v w ne same => ?_⟩
    · by_cases e : v = u
      · rw [e, own] at idle
        cases idle
      · rw [other v e] at idle
        exact absurd (busy v idle) (by rw [wait]; exact List.cons_ne_nil _ _)
    · by_cases e : v = u
      · exact ⟨z, by rw [pos', if_pos ⟨by rw [wait]; exact List.mem_cons_self, link⟩, e]⟩
      · rw [other v e] at busyNow
        rcases attended v busyNow with same | ⟨y, at_⟩
        · exact absurd ((base.free v).mpr (distinct v u e same)) busyNow
        · exact ⟨y, (attached at_).2⟩
    · by_cases ev : v = u
      · have ew : w ≠ u := fun e => ne (ev.trans e.symm)
        rw [ev, unitLink, other w ew] at same
        exact absurd same.symm (unserved w)
      · by_cases ew : w = u
        · rw [ew, unitLink, other v ev] at same
          exact absurd same (unserved v)
        · rw [other v ev, other w ew] at same
          rw [other v ev]
          exact distinct v w ne same

/-- A unit without attached zones, cleared, with nobody to grant it to. -/
theorem clear_lawful {P : Prop} {a : Seats} {u : UnitId} (h : a.Lawful P (a.units.get u).link)
    (empty : ∀ y, a.pos y ≠ .attached u) (alone : P → a.wait = []) : (a.clear u).Lawful P none := by
  obtain ⟨base, seated, tight⟩ := h
  have own : (a.clear u).units.get u = (a.units.get u).freed := by rw [clear_get, if_pos rfl]
  have other (v : UnitId) (ne : v ≠ u) : (a.clear u).units.get v = a.units.get v := by rw [clear_get, if_neg (Ne.symm ne)]
  refine ⟨⟨fun v => ?_, fun y v at_ => ?_, base.nodup, base.waits⟩, fun y => ⟨⟨fun v at_ => ?_, fun hP waits => ?_⟩, ?_⟩,
    fun hP => ?_⟩
  · by_cases e : v = u
    · rw [e, own]; simp [DecodeUnit.freed]
    · rw [other v e]; exact base.free v
  · rw [other v fun e => empty y (e ▸ at_)]
    exact base.served y v at_
  · rw [other v fun e => empty y (e ▸ at_)]
    exact (seated y).attached v at_
  · exact absurd ((base.waits y).mpr waits) (by rw [alone hP]; exact List.not_mem_nil)
  · show a.muted y = (a.clear u).mutes (a.pos y)
    rw [(seated y).muted]
    cases at_ : a.pos y with
    | none => rfl
    | waiting => rfl
    | attached v =>
      show ((a.units.get v).state == _) = (((a.clear u).units.get v).state == _)
      rw [other v fun e => empty y (e ▸ at_)]
  · obtain ⟨-, attended, distinct⟩ := tight hP
    have idle : ((a.clear u).units.get u).link = none := by rw [own]; rfl
    refine ⟨fun _ _ => alone hP, fun v busy => .inr ?_, fun v w ne same => ?_⟩
    · by_cases e : v = u
      · rw [e, own] at busy
        exact absurd rfl busy
      · rw [other v e] at busy
        rcases attended v busy with same | at_
        · exact absurd ((base.free v).mpr (distinct v u e same)) busy
        · exact at_
    · by_cases ev : v = u
      · rw [ev]; exact idle
      · by_cases ew : w = u
        · rw [same, ew]; exact idle
        · rw [other v ev, other w ew] at same
          rw [other v ev]
          exact distinct v w ne same

/-- A unit that may have no zone left is freed where it has none, and all laws hold (R47, R51, R52). -/
theorem freeIfEmpty_lawful {P : Prop} {a : Seats} {u : UnitId} (h : a.Lawful P (a.units.get u).link) :
    (a.freeIfEmpty u).Lawful P none := by
  unfold Seats.freeIfEmpty
  split
  next empty =>
    cases wait : a.wait with
    | nil =>
      rw [grant_nil u (show (a.clear u).wait = [] from wait)]
      exact clear_lawful h empty fun _ => wait
    | cons z rest =>
      have waits : a.pos z = .waiting := (h.base.waits z).mp (by rw [wait]; exact List.mem_cons_self)
      cases link : a.link z with
      | none =>
        rw [grant_unlinked u (show (a.clear u).wait = z :: rest from wait) link]
        exact clear_lawful h empty fun hP => absurd link ((h.seated z).waiting hP waits).1
      | some l => exact grant_lawful h empty wait link
  next some_ =>
    obtain ⟨y, at_⟩ : ∃ y, a.pos y = .attached u := by simpa using some_
    refine ⟨h.base, h.seated, fun hP => ?_⟩
    obtain ⟨busy, attended, distinct⟩ := h.tight hP
    refine ⟨busy, fun v busyNow => .inr ?_, distinct⟩
    by_cases e : v = u
    · exact ⟨y, e ▸ at_⟩
    · rcases attended v busyNow with same | at_
      · exact absurd ((h.base.free v).mpr (distinct v u e same)) busyNow
      · exact at_

/-! ## A zone leaves its position -/

/-- A zone is taken off the wait list and told that it has no position. -/
theorem leave_lawful {P : Prop} {a : Seats} {z : ZoneId} {x : Option LinkId} (base : a.Base)
    (seated : ∀ y, y ≠ z → a.Seated P y)
    (tight : P → (∀ u, (a.units.get u).state = .free → a.wait = []) ∧
      (∀ u, (a.units.get u).state ≠ .free → (a.units.get u).link = x ∨ ∃ y, y ≠ z ∧ a.pos y = .attached u) ∧
      ∀ u v, u ≠ v → (a.units.get u).link = (a.units.get v).link → (a.units.get u).link = none) :
    ((a.queue (a.wait.filter fun y => decide (y ≠ z))).tell [z] .none).Lawful P x := by
  have wait : ((a.queue (a.wait.filter fun y => decide (y ≠ z))).tell [z] .none).wait =
      a.wait.filter fun y => decide (y ≠ z) := rfl
  have units : ((a.queue (a.wait.filter fun y => decide (y ≠ z))).tell [z] .none).units = a.units := rfl
  have link : ((a.queue (a.wait.filter fun y => decide (y ≠ z))).tell [z] .none).link = a.link := rfl
  have pos (y : ZoneId) (ne : y ≠ z) : ((a.queue (a.wait.filter fun y => decide (y ≠ z))).tell [z] .none).pos y = a.pos y :=
    tell_pos_of_ne _ .none ne
  have muted (y : ZoneId) (ne : y ≠ z) :
      ((a.queue (a.wait.filter fun y => decide (y ≠ z))).tell [z] .none).muted y = a.muted y := tell_muted_of_ne _ .none ne
  have posSelf := tell_pos_self (a.queue (a.wait.filter fun y => decide (y ≠ z))) z .none
  have mutedSelf : ((a.queue (a.wait.filter fun y => decide (y ≠ z))).tell [z] .none).muted z = false := tell_muted_self _ z .none
  generalize (a.queue (a.wait.filter fun y => decide (y ≠ z))).tell [z] .none = b at wait units link pos muted posSelf mutedSelf ⊢
  refine ⟨⟨by rw [units]; exact base.free, fun y u at_ => ?_, by rw [wait]; exact base.nodup.filter _, fun y => ?_⟩,
    fun y => ?_, fun hP => ?_⟩
  · rw [units]
    by_cases e : y = z
    · rw [e, posSelf] at at_
      cases at_
    · exact base.served y u ((pos y e).symm.trans at_)
  · rw [wait]
    by_cases e : y = z
    · rw [e, posSelf]; simp
    · rw [pos y e]; simpa [e] using base.waits y
  · by_cases e : y = z
    · rw [e]; exact seated_of_none posSelf mutedSelf
    · exact seated_congr (by rw [link]) (pos y e) (muted y e) (fun _ => by rw [units]; exact ⟨rfl, rfl⟩) (seated y e)
  · obtain ⟨busy, attended, distinct⟩ := tight hP
    rw [← units] at busy attended distinct
    refine ⟨fun u idle => by rw [wait, busy u idle]; rfl, fun u busyNow => (attended u busyNow).imp_right
      fun ⟨y, ne, at_⟩ => ⟨y, (pos y ne).trans at_⟩, distinct⟩

/-- A zone that does not wait is not on the wait list. -/
theorem queue_of_not_waiting {a : Seats} {z : ZoneId} (base : a.Base) (h : a.pos z ≠ .waiting) :
    a.queue (a.wait.filter fun y => decide (y ≠ z)) = a := by
  have same : (a.wait.filter fun y => decide (y ≠ z)) = a.wait :=
    List.filter_eq_self.mpr fun y hy => decide_eq_true fun e => h ((base.waits z).mp (e ▸ hy))
  rw [same]
  rfl

/-- A zone leaves its position, and all laws hold (R51, R52). -/
theorem release_lawful {P : Prop} {a : Seats} {z : ZoneId} (h : a.LawfulBut P z) : (a.release z).Lawful P none := by
  obtain ⟨base, seated, tight, unmuted⟩ := h
  cases pos : a.pos z with
  | none =>
    rw [release_none pos]
    refine ⟨base, fun y => ?_, tight⟩
    by_cases e : y = z
    · exact e ▸ seated_of_none pos (unmuted pos)
    · exact seated y e
  | waiting =>
    rw [release_waiting pos]
    refine leave_lawful base seated fun hP => ?_
    obtain ⟨busy, attended, distinct⟩ := tight hP
    refine ⟨busy, fun u busyNow => (attended u busyNow).imp_right fun ⟨y, at_⟩ => ⟨y, fun e => ?_, at_⟩, distinct⟩
    rw [e, pos] at at_
    cases at_
  | attached u =>
    rw [release_attached pos]
    have told : (a.tell [z] .none).Lawful P (a.units.get u).link := by
      have left := leave_lawful (P := P) (z := z) (x := (a.units.get u).link) base seated fun hP => by
        obtain ⟨busy, attended, distinct⟩ := tight hP
        refine ⟨busy, fun v busyNow => ?_, distinct⟩
        by_cases e : v = u
        · exact .inl (by rw [e])
        · rcases attended v busyNow with none | ⟨y, at_⟩
          · exact absurd ((base.free v).mpr none) busyNow
          · exact .inr ⟨y, fun same => e (by cases pos.symm.trans (same ▸ at_); rfl), at_⟩
      rwa [queue_of_not_waiting base (by rw [pos]; exact nofun)] at left
    exact freeIfEmpty_lawful (a := a.tell [z] .none) told

/-- A zone that leaves its position has none, whatever the freed unit is granted to. -/
theorem release_pos {a : Seats} {z : ZoneId} (waits : ∀ y, y ∈ a.wait → a.pos y = .waiting) : (a.release z).pos z = .none := by
  cases pos : a.pos z with
  | none => rw [release_none pos, pos]
  | waiting => rw [release_waiting pos, tell_pos_self]
  | attached u =>
    rw [release_attached pos]
    refine (freeIfEmpty_stays (a.tell [z] .none) u z fun listed => ?_).2.mpr (tell_pos_self a z .none)
    exact nomatch pos.symm.trans (waits z listed)

theorem release_stays {a : Seats} {y z : ZoneId} (ne : y ≠ z) (waits : y ∈ a.wait → a.pos y = .waiting) :
    a.Stays (a.release z) y := by
  cases pos : a.pos z with
  | none => rw [release_none pos]; exact .refl a y
  | waiting =>
    rw [release_waiting pos]
    exact tell_stays (a.queue (a.wait.filter fun y => decide (y ≠ z))) .none ne
  | attached u =>
    rw [release_attached pos]
    have told := tell_stays a .none ne
    exact told.trans (freeIfEmpty_stays (a.tell [z] .none) u y fun listed => (tell_pos_of_ne a .none ne).trans (waits listed))

theorem release_link (a : Seats) (z : ZoneId) : (a.release z).link = a.link := by
  unfold Seats.release
  split
  · rfl
  · rfl
  · unfold Seats.freeIfEmpty
    split
    · exact grant_link _ _
    · rfl

/-! ## A zone takes a position -/

theorem bind_get (a : Seats) (u v : UnitId) (l : LinkId) :
    ((a.bind u l).units.get v) = if u = v then .syncingOn l a.fresh else a.units.get v := by
  show (setAt _ _ _).get v = _
  rw [setAt_get]

/-- A zone with no position joins a unit on its link. -/
theorem join_lawful {P : Prop} {a : Seats} {z : ZoneId} {u : UnitId} (h : a.Lawful P (a.units.get u).link)
    (idle : a.pos z = .none) (link : a.link z = (a.units.get u).link) (linked : a.link z ≠ none) :
    (a.tell [z] (.attached u)).Lawful P none := by
  obtain ⟨base, seated, tight⟩ := h
  have pos (y : ZoneId) (ne : y ≠ z) := tell_pos_of_ne a (.attached u) ne
  have posSelf := tell_pos_self a z (.attached u)
  refine ⟨⟨base.free, fun y v at_ => ?_, base.nodup, fun y => ?_⟩, fun y => ?_, fun hP => ?_⟩
  · by_cases e : y = z
    · cases posSelf.symm.trans (e ▸ at_)
      exact link ▸ linked
    · exact base.served y v ((pos y e).symm.trans at_)
  · show y ∈ a.wait ↔ _
    by_cases e : y = z
    · subst e; rw [posSelf, base.waits, idle]; simp
    · rw [pos y e]; exact base.waits y
  · by_cases e : y = z
    · subst e
      refine ⟨⟨fun v at_ => ?_, fun _ waits => (nomatch posSelf.symm.trans waits)⟩, ?_⟩
      · cases posSelf.symm.trans at_
        exact link
      · rw [tell_muted_self, tell_mutes, posSelf]
    · exact seated_congr (a := a) rfl (pos y e) (tell_muted_of_ne a _ e) (fun _ => ⟨rfl, rfl⟩) (seated y)
  · obtain ⟨busy, attended, distinct⟩ := tight hP
    refine ⟨busy, fun v busyNow => .inr ?_, distinct⟩
    by_cases e : v = u
    · exact ⟨z, e ▸ posSelf⟩
    · rcases attended v busyNow with same | ⟨y, at_⟩
      · exact absurd ((base.free v).mpr (distinct v u e same)) busyNow
      · exact ⟨y, (pos y fun e => by rw [e, idle] at at_; cases at_).trans at_⟩

/-- A FREE unit is bound to a link that no unit serves, and may have no zone yet (R45). -/
theorem bind_lawful {P : Prop} {a : Seats} {u : UnitId} {l : LinkId} (h : a.Lawful P none)
    (free : (a.units.get u).state = .free) (unserved : ∀ v, (a.units.get v).link ≠ some l) :
    (a.bind u l).Lawful P (some l) := by
  obtain ⟨base, seated, tight⟩ := h
  have own : (a.bind u l).units.get u = .syncingOn l a.fresh := by rw [bind_get, if_pos rfl]
  have other (v : UnitId) (ne : v ≠ u) : (a.bind u l).units.get v = a.units.get v := by rw [bind_get, if_neg (Ne.symm ne)]
  have empty {y : ZoneId} {v : UnitId} (at_ : a.pos y = .attached v) : v ≠ u :=
    fun e => base.served y v at_ (e ▸ (base.free u).mp free)
  refine ⟨⟨fun v => ?_, fun y v at_ => ?_, base.nodup, base.waits⟩, fun y => ⟨⟨fun v at_ => ?_, fun hP waits => ?_⟩, ?_⟩,
    fun hP => ?_⟩
  · by_cases e : v = u
    · rw [e, own]; simp [DecodeUnit.syncingOn]
    · rw [other v e]; exact base.free v
  · rw [other v (empty at_)]
    exact base.served y v at_
  · rw [other v (empty at_)]
    exact (seated y).attached v at_
  · exact absurd ((base.waits y).mpr waits) (by rw [(tight hP).busy u free]; exact List.not_mem_nil)
  · show a.muted y = (a.bind u l).mutes (a.pos y)
    rw [(seated y).muted]
    cases at_ : a.pos y with
    | none => rfl
    | waiting => rfl
    | attached v =>
      show ((a.units.get v).state == _) = (((a.bind u l).units.get v).state == _)
      rw [other v (empty at_)]
  · obtain ⟨busy, attended, distinct⟩ := tight hP
    have unitLink : ((a.bind u l).units.get u).link = some l := by rw [own]; rfl
    refine ⟨fun _ _ => busy u free, fun v busyNow => ?_, fun v w ne same => ?_⟩
    · by_cases e : v = u
      · exact .inl (e ▸ unitLink)
      · rw [other v e] at busyNow
        rcases attended v busyNow with none | at_
        · exact absurd ((base.free v).mpr none) busyNow
        · exact .inr at_
    · by_cases ev : v = u
      · have ew : w ≠ u := fun e => ne (ev.trans e.symm)
        rw [ev, unitLink, other w ew] at same
        exact absurd same.symm (unserved w)
      · by_cases ew : w = u
        · rw [ew, unitLink, other v ev] at same
          exact absurd same (unserved v)
        · rw [other v ev, other w ew] at same
          rw [other v ev]
          exact distinct v w ne same

/-- A zone joins the wait list where no unit is FREE and none serves its link (R50). -/
theorem wait_lawful {P : Prop} {a : Seats} {z : ZoneId} {w : List ZoneId} (h : a.Lawful P none) (idle : a.pos z = .none)
    (linked : a.link z ≠ none) (unserved : ∀ v, (a.units.get v).link ≠ a.link z)
    (full : ∀ v, (a.units.get v).state ≠ .free) (nodup : w.Nodup) (mem : ∀ y, y ∈ w ↔ y = z ∨ y ∈ a.wait) :
    ((a.queue w).tell [z] .waiting).Lawful P none := by
  obtain ⟨base, seated, tight⟩ := h
  have pos (y : ZoneId) (ne : y ≠ z) : ((a.queue w).tell [z] .waiting).pos y = a.pos y := tell_pos_of_ne (a.queue w) .waiting ne
  have posSelf := tell_pos_self (a.queue w) z .waiting
  refine ⟨⟨base.free, fun y v at_ => ?_, nodup, fun y => ?_⟩, fun y => ?_, fun hP => ?_⟩
  · by_cases e : y = z
    · rw [e, posSelf] at at_
      cases at_
    · exact base.served y v ((pos y e).symm.trans at_)
  · refine (mem y).trans ?_
    by_cases e : y = z
    · subst e; rw [posSelf]; simp
    · rw [pos y e]; simpa [e] using base.waits y
  · by_cases e : y = z
    · subst e
      refine ⟨⟨fun v at_ => (nomatch posSelf.symm.trans at_), fun _ _ => ⟨linked, unserved⟩⟩, ?_⟩
      rw [tell_muted_self, tell_mutes, posSelf]
    · exact seated_congr (a := a) rfl (pos y e) (tell_muted_of_ne (a.queue w) _ e) (fun _ => ⟨rfl, rfl⟩) (seated y)
  · obtain ⟨-, attended, distinct⟩ := tight hP
    refine ⟨fun u idleNow => absurd idleNow (full u), fun v busyNow => (attended v busyNow).imp_right fun ⟨y, at_⟩ =>
      ⟨y, (pos y fun e => ?_).trans at_⟩, distinct⟩
    rw [e, idle] at at_
    cases at_

/-- A zone with no position comes to need decode, and all laws hold (R50). -/
theorem place_lawful {P : Prop} {a : Seats} {z : ZoneId} {l : LinkId} (h : a.Lawful P none) (idle : a.pos z = .none)
    (link : a.link z = some l) : (a.place z l).Lawful P none := by
  cases served : a.serving l with
  | some u =>
    have unitLink := (serving_eq_some.mp served).1
    rw [place_served z served]
    exact join_lawful ⟨h.base, h.seated, fun hP => (h.tight hP).exempt _ h.base⟩ idle (link.trans unitLink.symm)
      (by rw [link]; exact Option.some_ne_none l)
  | none =>
    have unserved := serving_eq_none.mp served
    cases free : a.lowestFree with
    | some u =>
      have unitLink : ((a.bind u l).units.get u).link = some l := by rw [bind_get, if_pos rfl]; rfl
      rw [place_free z served free]
      refine join_lawful (a := a.bind u l) ?_ idle (link.trans unitLink.symm)
        (show a.link z ≠ none by rw [link]; exact Option.some_ne_none l)
      rw [unitLink]
      exact bind_lawful h (lowestFree_seats_eq_some.mp free).1 unserved
    | none =>
      have absent : z ∉ a.wait := fun listed => nomatch idle.symm.trans ((h.base.waits z).mp listed)
      rw [place_full z served free]
      refine wait_lawful h idle (by rw [link]; exact Option.some_ne_none l) (by rw [link]; exact unserved)
        (lowestFree_seats_eq_none.mp free) ?_ fun y => ?_
      · split
        · exact List.nodup_cons.mpr ⟨absent, h.base.nodup⟩
        · exact h.base.nodup.append (List.nodup_singleton z) (by simpa using absent)
      · split
        · exact List.mem_cons
        · rw [List.mem_append, List.mem_singleton, or_comm]

theorem place_pos (a : Seats) (z : ZoneId) (l : LinkId) : (a.place z l).pos z ≠ .none := by
  unfold Seats.place
  split
  · rw [tell_pos_self]; exact nofun
  · split
    · rw [tell_pos_self]; exact nofun
    · rw [tell_pos_self]; exact nofun

theorem place_stays (a : Seats) {y z : ZoneId} (l : LinkId) (ne : y ≠ z) : a.Stays (a.place z l) y := by
  unfold Seats.place
  split
  · exact tell_stays a _ ne
  · split
    · exact tell_stays (a.bind _ l) _ ne
    · exact tell_stays (a.queue _) _ ne

theorem place_link (a : Seats) (z : ZoneId) (l : LinkId) : (a.place z l).link = a.link := by
  unfold Seats.place
  split
  · rfl
  · split <;> rfl

/-! ## A binding -/

/-- A zone keeps its position, and DECODE follows it (R53). -/
theorem keep_lawful {P : Prop} {a : Seats} {z : ZoneId} (h : a.LawfulBut P z) (onLink : a.OnLink P z) :
    (a.tell [z] (a.pos z)).Lawful P none := by
  have pos (y : ZoneId) : (a.tell [z] (a.pos z)).pos y = a.pos y := by
    by_cases e : y = z
    · rw [e, tell_pos_self]
    · exact tell_pos_of_ne a _ e
  obtain ⟨base, seated, tight, -⟩ := h
  refine ⟨⟨base.free, fun y u at_ => base.served y u ((pos y).symm.trans at_), base.nodup, fun y => by rw [pos]; exact base.waits y⟩,
    fun y => ?_, fun hP => ?_⟩
  · by_cases e : y = z
    · subst e
      refine ⟨⟨fun u at_ => onLink.attached u ((pos y).symm.trans at_), fun hP waits =>
        onLink.waiting hP ((pos y).symm.trans waits)⟩, ?_⟩
      rw [tell_muted_self, tell_mutes, pos]
    · exact seated_congr (a := a) rfl (pos y) (tell_muted_of_ne a _ e) (fun _ => ⟨rfl, rfl⟩) (seated y e)
  · obtain ⟨busy, attended, distinct⟩ := tight hP
    exact ⟨busy, fun u b => (attended u b).imp_right fun ⟨y, at_⟩ => ⟨y, (pos y).trans at_⟩, distinct⟩

/-- A zone that has taken its new link, and is to leave or keep its position, is placed by the arbiter, and all laws hold: it has a
position exactly when its link needs decode (R49, R53). -/
theorem rebind_lawful {P : Prop} {need : LinkId → Bool} {a : Seats} {z : ZoneId} {old : Option LinkId} (h : a.LawfulBut P z)
    (onLink : old = a.link z → a.OnLink P z) :
    (a.rebind need z old (a.link z)).Lawful P none ∧
      ((a.rebind need z old (a.link z)).pos z ≠ .none ↔ ∃ l, a.link z = some l ∧ need l = true) := by
  have left := release_lawful h
  have gone := release_pos (a := a) (z := z) fun y => (h.base.waits y).mp
  cases link : a.link z with
  | none => exact ⟨left, by simp [rebind_unlinked, gone]⟩
  | some l =>
    cases needed : need l with
    | false =>
      rw [rebind_unneeded a z old needed]
      exact ⟨left, by simp [gone, needed]⟩
    | true =>
      have needs : ∃ k, some l = some k ∧ need k = true := ⟨l, rfl, needed⟩
      by_cases same : old = some l ∧ a.pos z ≠ .none
      · rw [rebind_same needed same.1 same.2]
        exact ⟨keep_lawful h (onLink (same.1.trans link.symm)), by rw [tell_pos_self]; exact iff_of_true same.2 needs⟩
      · rw [rebind_moves needed same]
        exact ⟨place_lawful left gone (by rw [release_link, link]), iff_of_true (place_pos _ z l) needs⟩

theorem rebind_stays {need : LinkId → Bool} {a : Seats} {y z : ZoneId} {old new : Option LinkId} (ne : y ≠ z)
    (waits : y ∈ a.wait → a.pos y = .waiting) : a.Stays (a.rebind need z old new) y := by
  have left : a.Stays (a.release z) y := release_stays ne waits
  unfold Seats.rebind
  split
  · exact left
  · split
    · split
      · exact tell_stays a _ ne
      · exact left.trans (place_stays _ _ ne)
    · exact left

theorem rebind_link (need : LinkId → Bool) (a : Seats) (z : ZoneId) (old new : Option LinkId) :
    (a.rebind need z old new).link = a.link := by
  unfold Seats.rebind
  split
  · exact release_link a z
  · split
    · split
      · rfl
      · rw [place_link, release_link]
    · exact release_link a z

end Sys2Proof.Machine
end

section
/-! What the laws of the decode units and the zones read of a state, and the writes that leave it as it is. -/

namespace Sys2Proof.Machine

/-! ## What a zone's own laws read -/

/-- The mute reasons that a zone's link sets (R71, R72). -/
def Mutes.ofLink (m : Mutes) : Bool × Bool × Bool := (m.noSignal, m.format, m.tuning)

/-- A zone that is not bound holds nothing that a binding brings, its decode position aside (R59, R60, R63). -/
def Zone.bare (r : Zone) : Prop :=
  r.power.isBound = false →
    r.bound = none ∧ r.copy = none ∧ r.buffer = [] ∧ r.path = .idle ∧ r.vals = none ∧ r.alloc = none

/-- A zone's record is rewritten without a change of what its link's laws read, and stays bare where it is not bound. -/
structure Zone.Steady (r x : Zone) : Prop where
  bound : x.power.isBound = r.power.isBound
  bare : r.bare → x.bare
  copy : x.copy = r.copy
  mutes : x.mutes.ofLink = r.mutes.ofLink

theorem Zone.Steady.refl (r : Zone) : r.Steady r := ⟨rfl, id, rfl, rfl⟩

theorem Zone.Steady.trans {r x y : Zone} (h : r.Steady x) (k : x.Steady y) : r.Steady y :=
  ⟨k.bound.trans h.bound, fun b => k.bare (h.bare b), k.copy.trans h.copy, k.mutes.trans h.mutes⟩

theorem Zone.Steady.link {r x : Zone} (h : r.Steady x) : x.link = r.link := by rw [Zone.link, h.copy, Zone.link]

theorem steady_of_sansArbiter {r x : Zone} (h : x.sansArbiter = r.sansArbiter) : r.Steady x := by
  have bare (r : Zone) : r.bare ↔ r.sansArbiter.bare := Iff.rfl
  exact ⟨(congrArg (fun r : Zone => r.power.isBound) h :), fun b => by rwa [bare, h, ← bare], (congrArg Zone.copy h :),
    (congrArg (fun r : Zone => r.mutes.ofLink) h :)⟩

/-- What the zones and the arbiter see of a link: whether it is LOCKED, whether it carries, and its format (R49, R71). -/
def Link.sight (x : Link) : Bool × Bool × Option Format :=
  (decide (x.state = .locked), x.state.carries, x.lastGood.map (·.format))

/-- What the zones and the arbiter see around them stands: every link, and whether the tuner is LOCKED. -/
structure SameSight (s t : State) : Prop where
  links : ∀ l, (t.links.get l).sight = (s.links.get l).sight
  tuner : (t.tuner.state = .locked) = (s.tuner.state = .locked)

theorem SameSight.refl (s : State) : SameSight s s := ⟨fun _ => rfl, rfl⟩

theorem SameSight.trans {s t u : State} (h : SameSight s t) (k : SameSight t u) : SameSight s u :=
  ⟨fun l => (k.links l).trans (h.links l), k.tuner.trans h.tuner⟩

theorem sameSight_of_fields {s t : State} (links : t.links = s.links) (tuner : t.tuner = s.tuner) : SameSight s t :=
  ⟨fun l => by rw [links], by rw [tuner]⟩

theorem sameSight_of_frame {s t : State} (h : zoneFrameKept s t) : SameSight s t := by
  obtain ⟨links, -, -, -, tuner, -⟩ := h
  exact sameSight_of_fields links tuner

/-- What zone `y`'s own laws read stands. -/
structure Stays (y : ZoneId) (s t : State) : Prop where
  record : (s.zones.get y).Steady (t.zones.get y)
  seat : (t.zones.get y).decode = .none ↔ (s.zones.get y).decode = .none
  sight : SameSight s t

theorem Stays.refl (y : ZoneId) (s : State) : Stays y s s := ⟨.refl _, Iff.rfl, .refl s⟩

theorem Stays.trans {y : ZoneId} {s t u : State} (h : Stays y s t) (k : Stays y t u) : Stays y s u :=
  ⟨h.record.trans k.record, k.seat.trans h.seat, h.sight.trans k.sight⟩

theorem stays_of_zone {y : ZoneId} {s t : State} (sight : SameSight s t) (h : t.zones.get y = s.zones.get y) : Stays y s t :=
  ⟨by rw [h]; exact .refl _, by rw [h], sight⟩

/-! ## Writes that the laws do not read -/

/-- A zone's record is rewritten without a change of what the laws read. -/
structure Zone.Calm (r x : Zone) : Prop extends r.Steady x where
  decode : x.decode = r.decode
  muted : x.mutes.decode = r.mutes.decode

theorem Zone.Calm.refl (r : Zone) : r.Calm r := ⟨.refl r, rfl, rfl⟩

theorem Zone.Calm.trans {r x y : Zone} (h : r.Calm x) (k : x.Calm y) : r.Calm y :=
  ⟨h.toSteady.trans k.toSteady, k.decode.trans h.decode, k.muted.trans h.muted⟩

theorem Zone.Calm.ite {r x y : Zone} {b : Prop} [Decidable b] (h : r.Calm x) (k : r.Calm y) : r.Calm (if b then x else y) := by
  split <;> assumption

/-- The state is rewritten without a change of what the laws read. -/
structure Calm (s t : State) : Prop where
  seats : t.seats = s.seats
  stays : ∀ y, Stays y s t

theorem Calm.refl (s : State) : Calm s s := ⟨rfl, fun y => .refl y s⟩

theorem Calm.trans {s t u : State} (h : Calm s t) (k : Calm t u) : Calm s u :=
  ⟨k.seats.trans h.seats, fun y => (h.stays y).trans (k.stays y)⟩

theorem Calm.ite {s t u : State} {b : Prop} [Decidable b] (h : Calm s t) (k : Calm s u) : Calm s (if b then t else u) := by
  split <;> assumption

theorem Calm.forEach {α : Type} (f : State → α → State) (h : ∀ s x, Calm s (f s x)) (xs : List α) (s : State) :
    Calm s (s.forEach xs f) := State.forEach_rel Calm Calm.refl (fun _ _ _ a b => a.trans b) f h xs s

theorem Calm.sight {s t : State} (h : Calm s t) : SameSight s t := (h.stays 0).sight

/-- A write of other parts of the state. -/
theorem calm_of_fields {s t : State} (sight : SameSight s t) (zones : t.zones = s.zones) (units : t.units = s.units)
    (wait : t.waitList = s.waitList) (fresh : t.fresh = s.fresh) : Calm s t :=
  ⟨by simp only [State.seats, zones, units, wait, fresh], fun y => stays_of_zone sight (by rw [zones])⟩

theorem putZone_calm {s : State} {z : ZoneId} {r : Zone} (h : (s.zones.get z).Calm r) : Calm s (s.putZone z r) := by
  have record (y : ZoneId) : (s.zones.get y).Calm ((s.putZone z r).zones.get y) := by
    rw [State.putZone_zones, setAt_get]
    split
    next e => exact e ▸ h
    next => exact .refl _
  exact ⟨seats_eq (fun y => (record y).link) (fun y => (record y).decode) (fun y => (record y).muted) rfl rfl rfl,
    fun y => ⟨(record y).toSteady, by rw [(record y).decode], sameSight_of_fields rfl rfl⟩⟩

theorem updZone_calm (s : State) (z : ZoneId) (f : Zone → Zone)
    (h : ∀ r, Zone.Calm r (f r) := by exact fun _ => ⟨⟨rfl, id, rfl, rfl⟩, rfl, rfl⟩) : Calm s (s.updZone z f) :=
  putZone_calm (h _)

theorem updZone_calm_at {s : State} {z : ZoneId} {f : Zone → Zone} (h : (s.zones.get z).Calm (f (s.zones.get z))) :
    Calm s (s.updZone z f) := putZone_calm h

theorem autoZone_calm_at {s : State} {z : ZoneId} {f : Zone → Zone} (h : (s.zones.get z).Calm (f (s.zones.get z))) :
    Calm s (s.autoZone z f) := putZone_calm (.ite (h.trans ⟨⟨rfl, id, rfl, rfl⟩, rfl, rfl⟩) h)

theorem zoneOrigin_calm (s : State) (z : ZoneId) (o : Origin) : Calm s (s.zoneOrigin z o) := updZone_calm s z _

theorem raise_calm (s : State) (f : Flag) : Calm s (s.raise f) := calm_of_fields (sameSight_of_fields rfl rfl) rfl rfl rfl rfl

theorem putPort_calm (s : State) (p : Port) (r : PortState) : Calm s (s.putPort p r) :=
  calm_of_fields (sameSight_of_fields rfl rfl) rfl rfl rfl rfl

theorem updChannel_calm (s : State) (c : Chan) (f : Channel → Channel) : Calm s (s.updChannel c f) :=
  calm_of_fields (sameSight_of_fields rfl rfl) rfl rfl rfl rfl

theorem putPair_calm (s : State) (q : PairId) (r : Pair) : Calm s (s.putPair q r) :=
  calm_of_fields (sameSight_of_fields rfl rfl) rfl rfl rfl rfl

theorem updPair_calm (s : State) (q : PairId) (f : Pair → Pair) : Calm s (s.updPair q f) := putPair_calm s q _

theorem putSource_calm (s : State) (i : SrcId) (e : SourceEntry) : Calm s (s.putSource i e) :=
  calm_of_fields (sameSight_of_fields rfl rfl) rfl rfl rfl rfl

theorem putSpeaker_calm (s : State) (c : Chan) (e : Speaker) : Calm s (s.putSpeaker c e) :=
  calm_of_fields (sameSight_of_fields rfl rfl) rfl rfl rfl rfl

theorem putEncoder_calm (s : State) (e : EncId) (r : Encoder) : Calm s (s.putEncoder e r) :=
  calm_of_fields (sameSight_of_fields rfl rfl) rfl rfl rfl rfl

theorem putTuner_calm {s : State} {x : Tuner} (h : (x.state = .locked) = (s.tuner.state = .locked)) : Calm s (s.putTuner x) :=
  calm_of_fields ⟨fun _ => rfl, h⟩ rfl rfl rfl rfl

theorem putLink_sameSight {s : State} {l : LinkId} {r : Link} (h : r.sight = (s.links.get l).sight) :
    SameSight s (s.putLink l r) := by
  refine ⟨fun k => ?_, rfl⟩
  rw [State.putLink_links, setAt_get]
  split
  next e => exact e ▸ h
  next => rfl

theorem putLink_calm {s : State} {l : LinkId} {r : Link} (h : r.sight = (s.links.get l).sight) : Calm s (s.putLink l r) :=
  calm_of_fields (putLink_sameSight h) rfl rfl rfl rfl

theorem updLink_calm (s : State) (l : LinkId) (f : Link → Link) (h : ∀ r, (f r).sight = r.sight := by exact fun _ => rfl) :
    Calm s (s.updLink l f) := putLink_calm (h _)

/-! ## Output stage -/

theorem presentChannel_calm (z : ZoneId) (s : State) (c : Chan) : Calm s (presentChannel z s c) := by
  unfold presentChannel
  split
  · split <;> exact updChannel_calm _ _ _
  · exact .ite (updChannel_calm _ _ _) (.refl s)

theorem beginPeriod_calm (s : State) (z : ZoneId) : Calm s (beginPeriod s z) :=
  (Calm.forEach _ (presentChannel_calm z) _ s).trans
    (.forEach _ (by exact fun t q => .ite (updPair_calm t q _) (.refl t)) _ _)

theorem stopCarrier_calm (s : State) (z : ZoneId) : Calm s (stopCarrier s z) :=
  (Calm.forEach _ (presentChannel_calm z) _ s).trans
    (.forEach _ (by exact fun t q => .ite (updPair_calm t q _) (.refl t)) _ _)

theorem beginFrame_calm (s : State) (z : ZoneId) (m : DriveMode) : Calm s (beginFrame s z m) :=
  (updZone_calm s z _).trans (beginPeriod_calm _ z)

theorem handDrive_calm (s : State) (z : ZoneId) (m : DriveMode) : Calm s (handDrive s z m) :=
  (updZone_calm s z _).trans (.ite (beginFrame_calm _ z m) (.refl _))

theorem restartCarrier_calm (s : State) (z : ZoneId) : Calm s (restartCarrier s z) := .ite (.refl s) (beginFrame_calm s z _)

theorem takeDuties_calm (s : State) (z : ZoneId) : Calm s (takeDuties s z) := .forEach _ (fun t c => updChannel_calm t c _) _ s

theorem offerTrip_calm (s : State) (q : PairId) (cause : Cause) : Calm s (offerTrip s q cause) := by
  have hold (t : State) : Calm t (startHold t q) :=
    ((updChannel_calm t _ _).trans (updChannel_calm _ _ _)).trans (updPair_calm _ q _)
  unfold offerTrip
  split
  · exact (updPair_calm s q _).trans (hold _)
  · exact (updPair_calm s q _).trans (hold _)
  · exact .refl s

theorem probePair_calm (s : State) (q : PairId) : Calm s (probePair s q) := by
  unfold probePair
  split <;> exact updPair_calm s q _

theorem faultTrip_calm (s : State) (q : PairId) : Calm s (faultTrip s q) := (updPair_calm s q _).trans (offerTrip_calm _ q _)

theorem samplePair_calm (z : ZoneId) (flt : Vector Bool 6) (s : State) (q : PairId) : Calm s (samplePair z flt s q) :=
  (updPair_calm s q _).trans
    (.ite (.ite (.ite (faultTrip_calm _ q) (updPair_calm _ q _)) (updPair_calm _ q _)) (.refl _))

theorem carrierBoundary_calm (s : State) (z : ZoneId) (flt : Vector Bool 6) : Calm s (carrierBoundary s z flt) := by
  have next (t : State) (stop : Prop) [Decidable stop] (take : Bool) (h : Calm s t) :
      Calm s (if stop then stopCarrier t z else beginPeriod (if take then takeDuties t z else t) z) := by
    refine h.trans (.ite (stopCarrier_calm t z) ?_)
    split
    · exact (takeDuties_calm t z).trans (beginPeriod_calm _ z)
    · exact beginPeriod_calm t z
  exact .ite (.refl s) (next _ _ _ ((Calm.forEach _ (samplePair_calm z flt) pairIds s).trans (updZone_calm _ z _)))

/-! ## Zones -/

theorem startCountdown_calm (s : State) (z : ZoneId) : Calm s (startCountdown s z) := by
  unfold startCountdown
  exact updZone_calm s z _ fun r => .ite ⟨⟨rfl, id, rfl, rfl⟩, rfl, rfl⟩ (.refl r)

theorem bindCountdown_calm (s : State) (z : ZoneId) : Calm s (bindCountdown s z) :=
  (updZone_calm s z _ (by exact fun r => .ite ⟨⟨rfl, id, rfl, rfl⟩, rfl, rfl⟩ (.refl r))).trans (startCountdown_calm _ z)

theorem endTone_calm (s : State) (z : ZoneId) : Calm s (endTone s z) :=
  updZone_calm s z _ fun r => .ite ⟨⟨rfl, id, rfl, rfl⟩, rfl, rfl⟩ (.refl r)

theorem toneStep_calm (s : State) (z : ZoneId) : Calm s (toneStep s z) := (updZone_calm s z _).trans (raise_calm _ _)

theorem primeDelays_calm (s : State) (z : ZoneId) : Calm s (primeDelays s z) :=
  Calm.forEach (primeChannel _ _) (fun t c => by unfold primeChannel; exact updChannel_calm t c _) _ s

theorem zeroDuties_calm (s : State) (z : ZoneId) : Calm s (zeroDuties s z) := .forEach _ (fun t c => updChannel_calm t c _) _ s

theorem bindCarrier_calm (s : State) (z : ZoneId) (old : Rate) : Calm s (bindCarrier s z old) :=
  .ite (.ite (.refl s) (zeroDuties_calm s z)) ((zeroDuties_calm s z).trans (restartCarrier_calm _ z))

theorem setVolume_calm (s : State) (z : ZoneId) (q : Int) (o : Origin) : Calm s (setVolume s z q o) :=
  (updZone_calm s z _).trans (zoneOrigin_calm _ z o)

theorem panelVolume_calm (s : State) (z : ZoneId) (n : Int) : Calm s (panelVolume s z n) := by
  have taken := (setVolume_calm s z ((s.zones.get z).qv + n) .panel).trans (raise_calm _ (.zone z))
  exact .ite taken (taken.trans (raise_calm _ _))

theorem onActivity_calm (l : LinkId) (a : Activity) (now : Millis) (r : Zone) : r.Calm (r.onActivity l a now) :=
  .ite ⟨⟨rfl, id, rfl, rfl⟩, rfl, rfl⟩ (.refl r)

theorem sense_calm (s : State) (l : LinkId) (m : Monitor) : Calm s (s.sense l m) := by
  have record (y : ZoneId) : (s.zones.get y).Calm ((s.sense l m).zones.get y) := by
    rw [sense_zone]
    exact .ite (onActivity_calm l _ _ _) (.refl _)
  exact ⟨seats_eq (fun y => (record y).link) (fun y => (record y).decode) (fun y => (record y).muted) rfl rfl rfl,
    fun y => ⟨(record y).toSteady, by rw [(record y).decode], sameSight_of_fields rfl rfl⟩⟩

/-- A clock mode stored in a zone that is not bound. -/
theorem storeClock_calm (s : State) (z : ZoneId) (m : ClockMode) : Calm s (storeClock s z m) := by
  have restart (t : State) (old : Rate) (h : Calm s t) :
      Calm s (if (t.zones.get z).rate = old then t else restartCarrier t z) :=
    h.trans (.ite (.refl t) (restartCarrier_calm t z))
  exact restart _ _ (updZone_calm s z _)

/-! ## Frames -/

/-- A frame is written in a bound zone alone (R67). -/
theorem write_calm (r : Zone) (f : BufFrame) : r.Calm (r.write f) := by
  by_cases listens : r.listens
  · have rewritten := Zone.write_frame r f
    have power : (r.write f).power.isBound = r.power.isBound := (congrArg (fun r : Zone => r.power.isBound) rewritten :)
    exact ⟨⟨power, fun _ rest => absurd (power.symm.trans rest) (by rw [listens.1]; decide), (congrArg Zone.copy rewritten :),
      (congrArg (fun r : Zone => r.mutes.ofLink) rewritten :)⟩, (congrArg Zone.decode rewritten :),
      (congrArg (fun r : Zone => r.mutes.decode) rewritten :)⟩
  · rw [write_of_not_listens f listens]
    exact .refl r

theorem writeFrame_calm (s : State) (z : ZoneId) (f : BufFrame) : Calm s (writeFrame s z f) :=
  updZone_calm s z _ fun r => write_calm r f

theorem frameToZones_calm (s : State) (l : LinkId) (f : BufFrame) : Calm s (frameToZones s l f) :=
  .forEach _ (fun t z => .ite (writeFrame_calm t z f) (.refl t)) _ s

theorem bufferFills_calm (s : State) (z : ZoneId) (x : Vector Sample 8) : Calm s (bufferFills s z x) :=
  .ite (writeFrame_calm s z _) (.refl s)

/-- A record rewritten in a bound zone need not be bare. -/
theorem calm_of_bound {r x : Zone} (bound : r.power.isBound = true) (power : x.power = r.power) (copy : x.copy = r.copy)
    (mutes : x.mutes = r.mutes) (decode : x.decode = r.decode) : r.Calm x :=
  ⟨⟨by rw [power], fun _ rest => absurd rest (by rw [power, bound]; decide), copy, by rw [mutes]⟩, decode, by rw [mutes]⟩

/-- What an output frame reads and brings into force (R70, R81, R96). -/
theorem frameRead_calm {r : Zone} (spk : Vector Speaker 12) (z : ZoneId) (bound : r.power.isBound = true) :
    r.Calm (r.readFrame spk z).1.takeShadow.shiftTone := by
  have vals (r : Zone) (v : DescValues) : (r.takeVals spk z v).power = r.power ∧ (r.takeVals spk z v).copy = r.copy ∧
      (r.takeVals spk z v).mutes = r.mutes ∧ (r.takeVals spk z v).decode = r.decode := by
    unfold Zone.takeVals
    dsimp only
    split <;> exact ⟨rfl, rfl, rfl, rfl⟩
  have shadow (r : Zone) : r.Calm r.takeShadow := by
    unfold Zone.takeShadow
    split
    · exact ⟨⟨rfl, id, rfl, rfl⟩, rfl, rfl⟩
    · exact .refl r
  have tone (r : Zone) : r.Calm r.shiftTone := .ite ⟨⟨rfl, id, rfl, rfl⟩, rfl, rfl⟩ (.refl r)
  refine (Zone.Calm.trans ?_ (shadow _)).trans (tone _)
  unfold Zone.readFrame
  split
  · split
    · exact ⟨⟨rfl, id, rfl, rfl⟩, rfl, rfl⟩
    · dsimp only
      split
      · obtain ⟨power, copy, mutes, decode⟩ := vals { r with buffer := _ } _
        exact calm_of_bound bound power copy mutes decode
      · exact calm_of_bound bound rfl rfl rfl rfl
  · exact .refl r

theorem formFrame_calm {s : State} {z : ZoneId} (bound : (s.zones.get z).power.isBound = true) : Calm s (formFrame s z) := by
  have row (x : Vector Sample 8) (t : State) (c : CoefRow) : Calm t (frameRow z x t c) :=
    (updZone_calm t z _).trans (updChannel_calm _ _ _)
  have tone (t : State) : Calm t (t.updZone z Zone.countTone) :=
    updZone_calm t z _ fun r => .ite ⟨⟨rfl, id, rfl, rfl⟩, rfl, rfl⟩ (.refl r)
  exact ((updZone_calm_at (frameRead_calm s.speakers z bound)).trans (.forEach _ (row _) _ _)).trans (tone _)

end Sys2Proof.Machine
end

section
/-! What a binding and a release do to the decode arbiter, and the laws they leave (R51, R53, R63, R66). -/

namespace Sys2Proof.Machine

/-! ## A zone changes its link -/

/-- A zone's link and its DECODE are written. -/
def Seats.relink (a : Seats) (z : ZoneId) (l : Option LinkId) (m : Bool) : Seats :=
  { a with link := fun y => if y = z then l else a.link y, muted := fun y => if y = z then m else a.muted y }

theorem relink_link_self (a : Seats) (z : ZoneId) (l : Option LinkId) (m : Bool) : (a.relink z l m).link z = l := if_pos rfl

theorem relink_relink (a : Seats) (z : ZoneId) (k l : Option LinkId) (m n : Bool) :
    (a.relink z k m).relink z l n = a.relink z l n := by
  have link : ((a.relink z k m).relink z l n).link = (a.relink z l n).link := by
    funext y
    by_cases e : y = z <;> simp [Seats.relink, e]
  have muted : ((a.relink z k m).relink z l n).muted = (a.relink z l n).muted := by
    funext y
    by_cases e : y = z <;> simp [Seats.relink, e]
  exact congrArg₂ (fun l m => ({ a with link := l, muted := m } : Seats)) link muted

theorem relink_same (a : Seats) (z : ZoneId) : a.relink z (a.link z) (a.muted z) = a := by
  have link : (fun y => if y = z then a.link z else a.link y) = a.link := funext fun y => by
    by_cases e : y = z <;> simp [e]
  have muted : (fun y => if y = z then a.muted z else a.muted y) = a.muted := funext fun y => by
    by_cases e : y = z <;> simp [e]
  exact congrArg₂ (fun l m => ({ a with link := l, muted := m } : Seats)) link muted

theorem relink_stays (a : Seats) {y z : ZoneId} (l : Option LinkId) (m : Bool) (ne : y ≠ z) : a.Stays (a.relink z l m) y :=
  ⟨if_neg ne, Iff.rfl⟩

/-- The other zones' laws do not look at the link of zone `z`. -/
theorem relink_seated {P : Prop} {a : Seats} {y z : ZoneId} (l : Option LinkId) (m : Bool) (ne : y ≠ z) (h : a.Seated P y) :
    (a.relink z l m).Seated P y := seated_congr (if_neg ne) rfl (if_neg ne) (fun _ => ⟨rfl, rfl⟩) h

theorem relink_lawfulBut {P : Prop} {a : Seats} {z : ZoneId} (h : a.Lawful P none) (l : Option LinkId) {m : Bool}
    (unmuted : a.pos z = .none → m = false) : (a.relink z l m).LawfulBut P z :=
  ⟨⟨h.base.free, h.base.served, h.base.nodup, h.base.waits⟩, fun y ne => relink_seated l m ne (h.seated y),
    fun hP => ⟨(h.tight hP).busy, (h.tight hP).attended, (h.tight hP).distinct⟩,
    fun idle => (if_pos rfl).trans (unmuted idle)⟩

/-- A zone that has no position may change its link. -/
theorem relink_lawful {P : Prop} {a : Seats} {z : ZoneId} (h : a.Lawful P none) (l : Option LinkId) (idle : a.pos z = .none) :
    (a.relink z l false).Lawful P none := by
  refine ⟨⟨h.base.free, h.base.served, h.base.nodup, h.base.waits⟩, fun y => ?_,
    fun hP => ⟨(h.tight hP).busy, (h.tight hP).attended, (h.tight hP).distinct⟩⟩
  by_cases e : y = z
  · subst e
    exact seated_of_none (show (a.relink y l false).pos y = .none from idle) (if_pos rfl)
  · exact relink_seated l false e (h.seated y)

/-- A zone written by itself, its decode position kept. -/
theorem putZone_seats (s : State) (z : ZoneId) {r : Zone} (h : r.decode = (s.zones.get z).decode) :
    (s.putZone z r).seats = s.seats.relink z r.link r.mutes.decode := by
  have zone (y : ZoneId) : (s.putZone z r).zones.get y = if z = y then r else s.zones.get y := by
    rw [State.putZone_zones, setAt_get]
  have link (y : ZoneId) : ((s.putZone z r).zones.get y).link = if y = z then r.link else (s.zones.get y).link := by
    rw [zone]
    by_cases e : z = y
    · simp [e]
    · simp [e, Ne.symm e]
  have pos (y : ZoneId) : ((s.putZone z r).zones.get y).decode = (s.zones.get y).decode := by
    rw [zone]
    split
    next e => rw [h, e]
    next => rfl
  have muted (y : ZoneId) : ((s.putZone z r).zones.get y).mutes.decode =
      if y = z then r.mutes.decode else (s.zones.get y).mutes.decode := by
    rw [zone]
    by_cases e : z = y
    · simp [e]
    · simp [e, Ne.symm e]
  simp only [State.seats, Seats.relink, link, pos, muted]
  rfl

theorem autoZone_seats (s : State) (z : ZoneId) {f : Zone → Zone} (h : (f (s.zones.get z)).decode = (s.zones.get z).decode) :
    (s.autoZone z f).seats = s.seats.relink z (f (s.zones.get z)).link (f (s.zones.get z)).mutes.decode := by
  have audited (r : Zone) (b : Bool) (k : r.decode = (s.zones.get z).decode) :
      (s.putZone z (if b then { r with lastChanged := .auto } else r)).seats = s.seats.relink z r.link r.mutes.decode := by
    cases b
    · exact putZone_seats s z k
    · exact putZone_seats s z k
  exact audited _ _ h

/-- A zone written by itself with its link, position and DECODE kept leaves the seats as they are. -/
theorem autoZone_seats_same (s : State) (z : ZoneId) {f : Zone → Zone}
    (decode : (f (s.zones.get z)).decode = (s.zones.get z).decode) (link : (f (s.zones.get z)).link = (s.zones.get z).link)
    (muted : (f (s.zones.get z)).mutes.decode = (s.zones.get z).mutes.decode) : (s.autoZone z f).seats = s.seats := by
  rw [autoZone_seats s z decode, link, muted]
  exact relink_same s.seats z

theorem updZone_seats_same (s : State) (z : ZoneId) {f : Zone → Zone}
    (decode : (f (s.zones.get z)).decode = (s.zones.get z).decode) (link : (f (s.zones.get z)).link = (s.zones.get z).link)
    (muted : (f (s.zones.get z)).mutes.decode = (s.zones.get z).mutes.decode) : (s.updZone z f).seats = s.seats := by
  rw [State.updZone, putZone_seats s z decode, link, muted]
  exact relink_same s.seats z

/-! ## The seats that a binding leaves -/

/-- The link that a zone's binding takes: the input of its selected entry (R25, R66). -/
def State.selectedLink (s : State) (z : ZoneId) : Option LinkId :=
  (s.zones.get z).selected.bind fun i => (s.sources.get i).input

theorem takeCopy_link (sources : Vector SourceEntry 16) (r : Zone) :
    (takeCopy sources r).link = r.selected.bind fun i => (sources.get i).input := by
  unfold takeCopy Zone.link
  cases r.selected <;> rfl

theorem bindRecord_link (s : State) (r : Zone) : (bindRecord s r).link = r.selected.bind fun i => (s.sources.get i).input := by
  rw [← takeCopy_link]
  cases h : (takeCopy s.sources r).link with
  | none => rw [bindRecord_unlinked h, bindClock_link, h]
  | some l => rw [bindRecord_linked h]; exact (bindClock_link _ _).trans h

theorem bindRecord_muted (s : State) (r : Zone) : (bindRecord s r).mutes.decode = r.mutes.decode := by
  cases h : (takeCopy s.sources r).link with
  | none => rw [bindRecord_unlinked h, bindClock_kept]; rfl
  | some l => rw [bindRecord_linked h]; unfold linkMutes; rw [bindClock_kept]; rfl

theorem yielded_kept (rebind : Bool) (r : Zone) : (r.yielded rebind).selected = r.selected ∧ (r.yielded rebind).decode = r.decode ∧
    (r.yielded rebind).copy = r.copy ∧ (r.yielded rebind).mutes.decode = (!rebind && r.mutes.decode) := by
  cases rebind <;> exact ⟨rfl, rfl, rfl, rfl⟩

/-- The seats as the arbiter meets them at a binding: the zone is on its new link, and a rebind has cleared DECODE. -/
def State.bindingSeats (s : State) (z : ZoneId) (rebind : Bool) : Seats :=
  s.seats.relink z (s.selectedLink z) (!rebind && (s.zones.get z).mutes.decode)

theorem bindingTaken_seats (s : State) (z : ZoneId) (rebind : Bool) : (bindingTaken s z rebind).seats = s.bindingSeats z rebind := by
  obtain ⟨selected, decode, -, muted⟩ := yielded_kept rebind (s.zones.get z)
  have yielded := autoZone_seats s z (f := Zone.yielded rebind) decode
  have zone := autoZone_zone_sansArbiter s z (Zone.yielded rebind)
  have sources : (s.autoZone z (Zone.yielded rebind)).sources = s.sources := rfl
  rw [bindingTaken_eq]
  generalize s.autoZone z (Zone.yielded rebind) = t at yielded zone sources ⊢
  have link : (bindRecord t (t.zones.get z)).link = s.selectedLink z := by
    have kept : (t.zones.get z).selected = (s.zones.get z).selected := (congrArg Zone.selected zone :).trans selected
    rw [bindRecord_link, sources, kept]
    rfl
  have told : (bindRecord t (t.zones.get z)).mutes.decode = (!rebind && (s.zones.get z).mutes.decode) := by
    rw [bindRecord_muted, ← muted]
    have here := congrFun (congrArg Seats.muted yielded) z
    exact here.trans (if_pos rfl)
  rw [autoZone_seats t z (bindRecord_decode t _), link, told, yielded, relink_relink]
  rfl

theorem linkNeedsDecode_links {s t : State} (h : t.links = s.links) : linkNeedsDecode t = linkNeedsDecode s :=
  funext (linkNeedsDecode_congr h)

theorem bindingPlaced_seats (s : State) (z : ZoneId) (rebind : Bool) : (bindingPlaced s z rebind).seats =
    (s.bindingSeats z rebind).rebind (linkNeedsDecode s) z (s.zones.get z).link (s.selectedLink z) := by
  have taken := bindingTaken_seats s z rebind
  have links : (bindingTaken s z rebind).links = s.links := rfl
  have link : ((bindingTaken s z rebind).zones.get z).link = s.selectedLink z :=
    (congrFun (congrArg Seats.link taken) z).trans (relink_link_self _ _ _ _)
  rw [bindingPlaced, rebindDecode_seats, link, taken, linkNeedsDecode_links links]

theorem allocateZone_seats (s : State) (z : ZoneId) : (allocateZone s z).seats = s.seats := by
  have allocated : (s.updZone z fun r => { r with alloc := some (s.allocation z) }).seats = s.seats :=
    updZone_seats_same s z rfl rfl rfl
  rw [allocateZone_eq]
  split
  · exact allocated
  · exact allocated

theorem enterPath_seats (s : State) (z : ZoneId) (spk : Vector Speaker 12) (v : Zone → Option DescValues) :
    (s.autoZone z fun r => r.enterPath spk z (v r)).seats = s.seats := autoZone_seats_same s z rfl rfl rfl

theorem bindingEntered_seats (s : State) (z : ZoneId) : (bindingEntered s z).seats = s.seats := by
  rw [bindingEntered_eq, enterPath_seats, allocateZone_seats]

/-- A binding leaves the seats that the arbiter's turn leaves. -/
theorem bindZone_seats (s : State) (z : ZoneId) (rebind : Bool) : (bindZone s z rebind).seats =
    (s.bindingSeats z rebind).rebind (linkNeedsDecode s) z (s.zones.get z).link (s.selectedLink z) := by
  have placed := bindingPlaced_seats s z rebind
  rw [bindZone_eq]
  generalize bindingPlaced s z rebind = t at placed ⊢
  have entered := bindingEntered_seats t z
  generalize bindingEntered t z = u at entered ⊢
  have last := (((primeDelays_calm u z).trans (bindCarrier_calm _ z (s.zones.get z).rate)).trans (bindCountdown_calm _ z)).trans
    (raise_calm _ (.zone z))
  exact (last.seats.trans entered).trans placed

/-! ## The record that a binding leaves -/

theorem sansContent_ofLink {r x : Zone} (h : x.sansContent = r.sansContent) : x.mutes.ofLink = r.mutes.ofLink :=
  (congrArg (fun r : Zone => r.mutes.ofLink) h :)

theorem driven_sansContent {r x : Zone} (h : r.driven x) : x.sansContent = r.sansContent := by
  obtain ⟨m, p, rfl⟩ := h
  rfl

theorem bindingCarried_sansContent (s : State) (z : ZoneId) (rebind : Bool) :
    ((bindingCarried s z rebind).zones.get z).sansContent = ((bindingPlaced s z rebind).zones.get z).sansContent := by
  unfold bindingCarried
  generalize bindingPlaced s z rebind = t
  obtain ⟨-, content⟩ := bindingEntered_zone t z
  generalize bindingEntered t z = u at content ⊢
  have carried := driven_sansContent (bindCarrier_zone (primeDelays u z) z (s.zones.get z).rate)
  rw [primeDelays_zones] at carried
  exact carried.trans content

theorem bindZone_sansContent (s : State) (z : ZoneId) (rebind : Bool) :
    ((bindZone s z rebind).zones.get z).sansContent = ((bindingTaken s z rebind).zones.get z).sansContent := by
  have counted (r : Zone) (c : Option Timer) : Zone.sansContent { r with countdown := c } = r.sansContent := rfl
  obtain ⟨c, record, -⟩ := bindZone_counted s z rebind
  rw [record, counted, bindingCarried_sansContent, bindingPlaced]
  generalize bindingTaken s z rebind = t
  exact sansContent_of_sansArbiter (sansArbiter_zone (rebindDecode_sansArbiter t z _ _) z)

/-- Without a link, a zone has the mute reasons of its link that step 2 of R66 leaves it. -/
theorem bindZone_unlinked {s : State} {z : ZoneId} {rebind : Bool} (h : s.selectedLink z = none) :
    ((bindZone s z rebind).zones.get z).mutes.ofLink = ((s.zones.get z).yielded rebind).mutes.ofLink := by
  have record (t : State) (r : Zone) (none : (takeCopy t.sources r).link = none) :
      (bindRecord t r).mutes.ofLink = r.mutes.ofLink := by
    rw [bindRecord_unlinked none, bindClock_kept]
    rfl
  have selected := (yielded_kept rebind (s.zones.get z)).1
  have content := bindZone_sansContent s z rebind
  have zone := autoZone_zone_sansArbiter s z (Zone.yielded rebind)
  have sources : (s.autoZone z (Zone.yielded rebind)).sources = s.sources := rfl
  rw [bindingTaken_eq] at content
  generalize s.autoZone z (Zone.yielded rebind) = t at zone sources content
  have written := sansContent_of_sansArbiter (autoZone_zone_sansArbiter t z (bindRecord t))
  have kept : (t.zones.get z).selected = (s.zones.get z).selected := (congrArg Zone.selected zone :).trans selected
  have none : (takeCopy t.sources (t.zones.get z)).link = none := by
    rw [takeCopy_link, sources, kept]
    exact h
  calc ((bindZone s z rebind).zones.get z).mutes.ofLink
      = (bindRecord t (t.zones.get z)).mutes.ofLink := sansContent_ofLink (content.trans written)
    _ = (t.zones.get z).mutes.ofLink := record t _ none
    _ = _ := sansContent_ofLink (sansContent_of_sansArbiter zone)

end Sys2Proof.Machine
end

section
/-! The laws of the decode units and the zones, taken together, and the zone operations that keep them. -/

namespace Sys2Proof.Machine

/-! ## The laws of one zone -/

/-- NO_SIGNAL and FORMAT of a zone go with its link (R71). -/
def State.signals (s : State) (z : ZoneId) : Prop :=
  ((s.zones.get z).link = none → (s.zones.get z).mutes.noSignal = false ∧ (s.zones.get z).mutes.format = false) ∧
    ∀ l, (s.zones.get z).link = some l →
      (s.zones.get z).mutes.noSignal = decide ((s.links.get l).state ≠ .locked) ∧
      (s.zones.get z).mutes.format = (s.links.get l).unplayable

/-- TUNING of a zone goes with its link and the tuner (R72). -/
def State.tunes (s : State) (z : ZoneId) : Prop :=
  ((s.zones.get z).link = none → (s.zones.get z).mutes.tuning = false) ∧
    ∀ l, (s.zones.get z).link = some l → (s.zones.get z).mutes.tuning = decide (l = 8 ∧ s.tuner.state ≠ .locked)

/-- A zone has a decode position exactly when its link needs decode (R49). -/
def State.placed (s : State) (z : ZoneId) : Prop :=
  (s.zones.get z).decode ≠ .none ↔ ∃ l, (s.zones.get z).link = some l ∧ linkNeedsDecode s l = true

/-- A zone's own laws, those that an announcement of its link (R71), of the arbiter (R49) and of the tuner (R72) restore being
held where they are asked for. -/
structure Home (P : Prop) (s : State) (z : ZoneId) (told placed tuned : Prop) : Prop where
  rest : (s.zones.get z).atRest
  told : told → s.signals z
  placed : placed → P → s.placed z
  tuned : tuned → s.tunes z

theorem Link.unplayable_sight (x : Link) : x.unplayable = x.sight.2.2.any Format.isUnplayable := by
  unfold Link.unplayable Link.sight
  cases x.lastGood <;> rfl

theorem Link.locked_sight (x : Link) : decide (x.state ≠ .locked) = !x.sight.1 := decide_not

theorem linkNeedsDecode_sight (s : State) (l : LinkId) :
    linkNeedsDecode s l = ((s.links.get l).sight.2.1 && decide ((s.links.get l).sight.2.2 = some .bsf)) := rfl

theorem SameSight.need {s t : State} (h : SameSight s t) (l : LinkId) : linkNeedsDecode t l = linkNeedsDecode s l := by
  rw [linkNeedsDecode_sight, linkNeedsDecode_sight, h.links l]

theorem Zone.Steady.noSignal {r x : Zone} (h : r.Steady x) : x.mutes.noSignal = r.mutes.noSignal := congrArg Prod.fst h.mutes

theorem Zone.Steady.format {r x : Zone} (h : r.Steady x) : x.mutes.format = r.mutes.format := congrArg (fun m => m.2.1) h.mutes

theorem Zone.Steady.tuning {r x : Zone} (h : r.Steady x) : x.mutes.tuning = r.mutes.tuning := congrArg (fun m => m.2.2) h.mutes

theorem atRest_iff (r : Zone) : r.atRest ↔ r.bare ∧ (r.power.isBound = false → r.decode = .none) := by
  unfold Zone.atRest Zone.bare
  constructor
  · intro h
    refine ⟨fun e => ?_, fun e => ?_⟩
    · obtain ⟨bound, copy, buffer, path, vals, alloc, -⟩ := h e
      exact ⟨bound, copy, buffer, path, vals, alloc⟩
    · obtain ⟨-, -, -, -, -, -, decode⟩ := h e
      exact decode
  · rintro ⟨h, decode⟩ e
    obtain ⟨bound, copy, buffer, path, vals, alloc⟩ := h e
    exact ⟨bound, copy, buffer, path, vals, alloc, decode e⟩

theorem atRest_of_bound {r : Zone} (h : r.power.isBound = true) : r.atRest := fun e => absurd (h.symm.trans e) (by decide)

theorem Zone.atRest.unlinked {r : Zone} (h : r.atRest) (power : r.power.isBound = false) : r.link = none := by
  obtain ⟨-, copy, -⟩ := h power
  rw [Zone.link, copy]
  rfl

/-- All laws: those of the arbiter, its own ones (`P`) where they are asked for, and those of each zone. -/
structure Inv (P : Prop) (s : State) : Prop where
  lawful : s.seats.Lawful P none
  home : ∀ z, Home P s z True True True

theorem Inv.waits {P : Prop} {s : State} (h : Inv P s) (y : ZoneId) (listed : y ∈ s.seats.wait) : s.seats.pos y = .waiting :=
  (h.lawful.base.waits y).mp listed

/-- An operation of zone `z` has left the arbiter's laws and the other zones'. -/
structure Turned (P : Prop) (z : ZoneId) (s t : State) : Prop where
  lawful : t.seats.Lawful P none
  others : ∀ y, y ≠ z → Stays y s t

theorem Turned.calm {P : Prop} {z : ZoneId} {s t u : State} (h : Turned P z s t) (k : Calm t u) : Turned P z s u :=
  ⟨k.seats ▸ h.lawful, fun y ne => (h.others y ne).trans (k.stays y)⟩

theorem Turned.after {P : Prop} {z : ZoneId} {s t u : State} (h : Turned P z t u) (k : Calm s t) : Turned P z s u :=
  ⟨h.lawful, fun y ne => (k.stays y).trans (h.others y ne)⟩

/-! ## A binding -/

/-- The arbiter meets a binding with all laws but the zone's own. -/
theorem bindingSeats_lawfulBut {P : Prop} {s : State} (h : s.seats.Lawful P none) (z : ZoneId) (rebind : Bool) :
    (s.bindingSeats z rebind).LawfulBut P z := relink_lawfulBut h _ fun idle => by
  have unmuted : (s.zones.get z).mutes.decode = false := (h.seated z).muted.trans (by rw [idle]; rfl)
  rw [unmuted, Bool.and_false]

/-- A zone whose link stays is where its position says. -/
theorem bindingSeats_onLink {P : Prop} {s : State} (h : s.seats.Lawful P none) {z : ZoneId} (rebind : Bool)
    (same : (s.zones.get z).link = s.selectedLink z) : (s.bindingSeats z rebind).OnLink P z := by
  have link : (s.bindingSeats z rebind).link z = s.selectedLink z := relink_link_self _ _ _ _
  refine ⟨fun u at_ => ?_, fun hP waits => ?_⟩
  · rw [link, ← same]
    exact (h.seated z).attached u at_
  · rw [link, ← same]
    exact (h.seated z).waiting hP waits

/-- The arbiter's turn at a binding leaves all laws, and the zone placed (R49, R53). -/
theorem bindZone_arbiter {P : Prop} {s : State} (h : s.seats.Lawful P none) (z : ZoneId) (rebind : Bool) :
    (bindZone s z rebind).seats.Lawful P none ∧ ((bindZone s z rebind).seats.pos z ≠ .none ↔
      ∃ l, s.selectedLink z = some l ∧ linkNeedsDecode s l = true) := by
  have link : (s.bindingSeats z rebind).link z = s.selectedLink z := relink_link_self _ _ _ _
  have onLink := bindingSeats_onLink h (z := z) rebind
  rw [bindZone_seats, ← link]
  rw [← link] at onLink
  exact rebind_lawful (bindingSeats_lawfulBut h z rebind) onLink

/-- What a binding of zone `z` shows to zone `y`, its link and whether it has a position being kept. -/
theorem stays_of_seats {s t : State} {y : ZoneId} (about : t.about y = s.about y) (stays : s.seats.Stays t.seats y) :
    Stays y s t := ⟨steady_of_sansArbiter (about_zone about), stays.2, sameSight_of_frame (about_frame about)⟩

/-- A zone that takes its new link is placed, and all laws hold but its own. -/
theorem bindZone_turned {P : Prop} {s : State} (h : s.seats.Lawful P none) (z : ZoneId) (rebind : Bool) :
    Turned P z s (bindZone s z rebind) := by
  refine ⟨(bindZone_arbiter h z rebind).1, fun y ne => stays_of_seats (bindZone_about s (Ne.symm ne) rebind) ?_⟩
  rw [bindZone_seats]
  exact (relink_stays s.seats _ _ ne).trans (rebind_stays ne fun listed => (h.base.waits y).mp listed)

theorem bindZone_link (s : State) (z : ZoneId) (rebind : Bool) :
    ((bindZone s z rebind).zones.get z).link = s.selectedLink z := by
  have seats := bindZone_seats s z rebind
  generalize bindZone s z rebind = t at seats ⊢
  have link := congrFun (congrArg Seats.link seats) z
  rw [rebind_link] at link
  exact link.trans (relink_link_self _ _ _ _)

theorem placed_of {s t : State} {z : ZoneId} {l : Option LinkId} (link : (t.zones.get z).link = l) (links : t.links = s.links)
    (placed : t.seats.pos z ≠ .none ↔ ∃ k, l = some k ∧ linkNeedsDecode s k = true) : t.placed z := by
  unfold State.placed
  rw [link, linkNeedsDecode_links links]
  exact placed

/-- A zone just bound has a decode position exactly when its link needs decode (R49, R53). -/
theorem bindZone_placed {P : Prop} {s : State} (h : s.seats.Lawful P none) (z : ZoneId) (rebind : Bool) :
    (bindZone s z rebind).placed z :=
  placed_of (bindZone_link s z rebind) (bindZone_frame s z rebind).1 (bindZone_arbiter h z rebind).2

/-- A zone with the mute reasons of its link, or with none where it has no link. -/
theorem told_of {s t : State} {z : ZoneId} (frame : zoneFrameKept s t)
    (unlinked : (t.zones.get z).link = none → (t.zones.get z).mutes.ofLink = (false, false, false))
    (linked : ∀ l, (t.zones.get z).link = some l →
      (t.zones.get z).mutes.noSignal = decide ((s.links.get l).state ≠ .locked) ∧
      (t.zones.get z).mutes.format = (s.links.get l).unplayable ∧
      (t.zones.get z).mutes.tuning = decide (l = 8 ∧ s.tuner.state ≠ .locked)) : t.signals z ∧ t.tunes z := by
  obtain ⟨links, -, -, -, tuner, -⟩ := frame
  refine ⟨⟨fun e => ⟨congrArg Prod.fst (unlinked e), congrArg (fun m => m.2.1) (unlinked e)⟩, fun l e => ?_⟩,
    fun e => congrArg (fun m => m.2.2) (unlinked e), fun l e => ?_⟩
  · rw [links]
    obtain ⟨noSignal, format, -⟩ := linked l e
    exact ⟨noSignal, format⟩
  · rw [tuner]
    obtain ⟨-, -, tuning⟩ := linked l e
    exact tuning

/-- A zone just bound has the mute reasons of its link; one that was not bound had none before (R66, R71, R72). -/
theorem bindZone_told {s : State} {z : ZoneId} {rebind : Bool}
    (off : rebind = true ∨ (s.zones.get z).mutes.ofLink = (false, false, false)) :
    (bindZone s z rebind).signals z ∧ (bindZone s z rebind).tunes z := by
  obtain ⟨⟨⟨-, -, -, -, -, -, -, -, -, -, -, -, mutes⟩, -⟩, -⟩ := bindZone_justBound s z rebind
  have yielded : ((s.zones.get z).yielded rebind).mutes.ofLink = (false, false, false) := by
    cases rebind
    · exact off.resolve_left (by decide)
    · rfl
  exact told_of (bindZone_frame s z rebind)
    (fun e => (bindZone_unlinked ((bindZone_link s z rebind).symm.trans e)).trans yielded) mutes

theorem bindZone_power (s : State) (z : ZoneId) (rebind : Bool) :
    ((bindZone s z rebind).zones.get z).power = (s.zones.get z).power := (bindZone_justBound s z rebind).2.1

end Sys2Proof.Machine
end

section
/-! Releases, power and rebind causes keep the laws of the decode units and the zones (R60 to R64, R66, R68, R75). -/

namespace Sys2Proof.Machine

/-! ## One zone's record -/

/-- What the laws of zone `z` read of its record while it is bound, and what it sees of its link and the tuner, stands. -/
structure SameHome (z : ZoneId) (s t : State) : Prop where
  copy : (t.zones.get z).copy = (s.zones.get z).copy
  mutes : (t.zones.get z).mutes.ofLink = (s.zones.get z).mutes.ofLink
  seat : (t.zones.get z).decode = .none ↔ (s.zones.get z).decode = .none
  sight : ∀ l, (s.zones.get z).link = some l → (t.links.get l).sight = (s.links.get l).sight
  tuner : (t.tuner.state = .locked) = (s.tuner.state = .locked)

theorem Stays.sameHome {z : ZoneId} {s t : State} (h : Stays z s t) : SameHome z s t :=
  ⟨h.record.copy, h.record.mutes, h.seat, fun l _ => h.sight.links l, h.sight.tuner⟩

theorem SameHome.link {z : ZoneId} {s t : State} (h : SameHome z s t) : (t.zones.get z).link = (s.zones.get z).link := by
  rw [Zone.link, h.copy, Zone.link]

theorem SameHome.signals {z : ZoneId} {s t : State} (h : SameHome z s t) (k : s.signals z) : t.signals z := by
  have noSignal : (t.zones.get z).mutes.noSignal = (s.zones.get z).mutes.noSignal := congrArg Prod.fst h.mutes
  have format : (t.zones.get z).mutes.format = (s.zones.get z).mutes.format := congrArg (fun m => m.2.1) h.mutes
  obtain ⟨off, on⟩ := k
  refine ⟨fun e => ?_, fun l e => ?_⟩
  · rw [noSignal, format]
    exact off (h.link ▸ e)
  · have on_ := h.link ▸ e
    rw [noSignal, format, Link.locked_sight, Link.unplayable_sight, h.sight l on_, ← Link.locked_sight, ← Link.unplayable_sight]
    exact on l on_

theorem SameHome.placed {z : ZoneId} {s t : State} (h : SameHome z s t) (k : s.placed z) : t.placed z := by
  have need (l : LinkId) (e : (s.zones.get z).link = some l) : linkNeedsDecode t l = linkNeedsDecode s l := by
    rw [linkNeedsDecode_sight, linkNeedsDecode_sight, h.sight l e]
  unfold State.placed at k ⊢
  rw [ne_eq, h.seat, h.link, ← ne_eq, k]
  exact exists_congr fun l => and_congr_right fun e => by rw [need l e]

theorem SameHome.tunes {z : ZoneId} {s t : State} (h : SameHome z s t) (k : s.tunes z) : t.tunes z := by
  have tuning : (t.zones.get z).mutes.tuning = (s.zones.get z).mutes.tuning := congrArg (fun m => m.2.2) h.mutes
  have tuner : (t.tuner.state ≠ .locked) = (s.tuner.state ≠ .locked) := by rw [ne_eq, h.tuner]
  obtain ⟨off, on⟩ := k
  refine ⟨fun e => ?_, fun l e => ?_⟩
  · rw [tuning]
    exact off (h.link ▸ e)
  · simp only [tuning, tuner]
    exact on l (h.link ▸ e)

theorem Home.rewrite {P : Prop} {s t : State} {z : ZoneId} {told placed tuned : Prop} (h : Home P s z told placed tuned)
    (rest : (t.zones.get z).atRest) (k : SameHome z s t) : Home P t z told placed tuned :=
  ⟨rest, fun a => k.signals (h.told a), fun a hP => k.placed (h.placed a hP), fun a => k.tunes (h.tuned a)⟩

/-- What a zone's laws read standing, its laws stand. -/
theorem Home.of_stays {P : Prop} {s t : State} {z : ZoneId} {told placed tuned : Prop} (k : Stays z s t)
    (h : Home P s z told placed tuned) : Home P t z told placed tuned := by
  obtain ⟨bare, idle⟩ := (atRest_iff _).mp h.rest
  exact h.rewrite ((atRest_iff _).mpr ⟨k.record.bare bare, fun e => k.seat.mpr (idle (k.record.bound ▸ e))⟩) k.sameHome

theorem Inv.of_stays {P : Prop} {s t : State} (h : Inv P s) (lawful : t.seats.Lawful P none) (stays : ∀ y, Stays y s t) :
    Inv P t := ⟨lawful, fun z => .of_stays (stays z) (h.home z)⟩

theorem Inv.of_calm {P : Prop} {s t : State} (h : Inv P s) (k : Calm s t) : Inv P t :=
  h.of_stays (k.seats ▸ h.lawful) k.stays

theorem Inv.of_turned {P : Prop} {s t : State} {z : ZoneId} (h : Inv P s) (k : Turned P z s t)
    (home : Home P t z True True True) : Inv P t := by
  refine ⟨k.lawful, fun y => ?_⟩
  by_cases e : y = z
  · exact e ▸ home
  · exact .of_stays (k.others y e) (h.home y)

/-- What a zone write that keeps the seats leaves of the other zones and of the arbiter. -/
theorem Turned.putZone {P : Prop} {z : ZoneId} {s t : State} (h : Turned P z s t) {r : Zone}
    (copy : r.copy = (t.zones.get z).copy) (mutes : r.mutes = (t.zones.get z).mutes) (decode : r.decode = (t.zones.get z).decode) :
    Turned P z s (t.putZone z r) := by
  have link : r.link = (t.zones.get z).link := by rw [Zone.link, copy, Zone.link]
  have seats : (t.putZone z r).seats = t.seats := by
    rw [putZone_seats t z decode, link, mutes]
    exact relink_same t.seats z
  refine ⟨seats ▸ h.lawful, fun y ne => (h.others y ne).trans (stays_of_zone (sameSight_of_fields rfl rfl) ?_)⟩
  rw [State.putZone_zones, setAt_get, if_neg (Ne.symm ne)]

theorem Turned.autoZone {P : Prop} {z : ZoneId} {s t : State} (h : Turned P z s t) {f : Zone → Zone}
    (copy : (f (t.zones.get z)).copy = (t.zones.get z).copy) (mutes : (f (t.zones.get z)).mutes = (t.zones.get z).mutes)
    (decode : (f (t.zones.get z)).decode = (t.zones.get z).decode) : Turned P z s (t.autoZone z f) := by
  have audited (b : Bool) (r : Zone) (copy : r.copy = (t.zones.get z).copy) (mutes : r.mutes = (t.zones.get z).mutes)
      (decode : r.decode = (t.zones.get z).decode) :
      Turned P z s (t.putZone z (if b then { r with lastChanged := .auto } else r)) := by
    cases b
    · exact h.putZone copy mutes decode
    · exact h.putZone copy mutes decode
  exact audited _ _ copy mutes decode

/-- An automatic write of a zone's record, up to the origin that it records (R84). -/
theorem autoZone_record (s : State) (z : ZoneId) (f : Zone → Zone) :
    ∃ o, (s.autoZone z f).zones.get z = { f (s.zones.get z) with lastChanged := o } := by
  rw [State.autoZone_get_self]
  split
  · exact ⟨_, rfl⟩
  · exact ⟨_, rfl⟩

theorem putZone_sameHome (s : State) (z : ZoneId) {r : Zone} (copy : r.copy = (s.zones.get z).copy)
    (mutes : r.mutes = (s.zones.get z).mutes) (decode : r.decode = (s.zones.get z).decode) : SameHome z s (s.putZone z r) := by
  have self : (s.putZone z r).zones.get z = r := by rw [State.putZone_zones, setAt_get_self]
  exact ⟨by rw [self, copy], by rw [self, mutes], by rw [self, decode], fun _ _ => rfl, rfl⟩

theorem autoZone_sameHome (s : State) (z : ZoneId) {f : Zone → Zone} (copy : (f (s.zones.get z)).copy = (s.zones.get z).copy)
    (mutes : (f (s.zones.get z)).mutes = (s.zones.get z).mutes) (decode : (f (s.zones.get z)).decode = (s.zones.get z).decode) :
    SameHome z s (s.autoZone z f) := by
  obtain ⟨o, record⟩ := autoZone_record s z f
  exact ⟨by rw [record]; exact copy, by rw [record]; exact congrArg Mutes.ofLink mutes, by rw [record]; exact iff_of_eq (by rw [decode]),
    fun _ _ => rfl, rfl⟩

/-- A zone's record is rewritten with its copy, mute reasons and position kept. -/
theorem Inv.updZone {P : Prop} {s : State} (h : Inv P s) {z : ZoneId} {f : Zone → Zone} (rest : (f (s.zones.get z)).atRest)
    (copy : (f (s.zones.get z)).copy = (s.zones.get z).copy) (mutes : (f (s.zones.get z)).mutes = (s.zones.get z).mutes)
    (decode : (f (s.zones.get z)).decode = (s.zones.get z).decode) : Inv P (s.updZone z f) := by
  have turned : Turned P z s (s.updZone z f) := Turned.putZone ⟨h.lawful, fun y _ => .refl y s⟩ copy mutes decode
  exact h.of_turned turned ((h.home z).rewrite (by rw [State.updZone_get_self]; exact rest)
    (putZone_sameHome s z copy mutes decode))

theorem Inv.autoZone {P : Prop} {s : State} (h : Inv P s) {z : ZoneId} {f : Zone → Zone} (rest : (f (s.zones.get z)).atRest)
    (copy : (f (s.zones.get z)).copy = (s.zones.get z).copy) (mutes : (f (s.zones.get z)).mutes = (s.zones.get z).mutes)
    (decode : (f (s.zones.get z)).decode = (s.zones.get z).decode) : Inv P (s.autoZone z f) := by
  have turned : Turned P z s (s.autoZone z f) := Turned.autoZone ⟨h.lawful, fun y _ => .refl y s⟩ copy mutes decode
  obtain ⟨o, record⟩ := autoZone_record s z f
  exact h.of_turned turned ((h.home z).rewrite (by rw [record]; exact rest) (autoZone_sameHome s z copy mutes decode))

/-! ## A release -/

/-- A loop over channels that writes channels alone. -/
theorem forEach_dropChannel_zones (cs : List Chan) (s : State) : (s.forEach cs dropChannel).zones = s.zones :=
  State.forEach_field State.zones _ (by exact fun _ _ => rfl) cs s

theorem dropChannels_calm (cs : List Chan) (s : State) : Calm s (s.forEach cs dropChannel) :=
  .forEach _ (fun t c => updChannel_calm t c _) cs s

/-- A release gives the position up and leaves the zone without a link (R51, R63). -/
theorem releaseZone_seats (s : State) (z : ZoneId) : (releaseZone s z).seats = (s.seats.release z).relink z none false := by
  rw [← releaseDecode_seats]
  exact (dropChannels_calm _ _).seats.trans (autoZone_seats _ z rfl)

theorem releaseZone_lawful {P : Prop} {s : State} (h : s.seats.Lawful P none) (z : ZoneId) :
    (releaseZone s z).seats.Lawful P none := by
  have but : s.seats.LawfulBut P z := ⟨h.base, fun y _ => h.seated y, h.tight, fun idle => (h.seated z).muted.trans (by rw [idle]; rfl)⟩
  rw [releaseZone_seats]
  exact relink_lawful (release_lawful but) none (release_pos fun y => (h.base.waits y).mp)

theorem releaseZone_about (s : State) {y z : ZoneId} (h : y ≠ z) : (releaseZone s y).about z = s.about z :=
  ((State.forEach_field (State.about z) _ (by exact fun _ _ => rfl) _ _).trans (autoZone_about _ h _)).trans
    (about_of_sansArbiter (releaseDecode_sansArbiter s y) z)

/-- A release of zone `z` leaves the other zones' laws (R51). -/
theorem releaseZone_turned {P : Prop} {s : State} (h : s.seats.Lawful P none) (z : ZoneId) : Turned P z s (releaseZone s z) := by
  refine ⟨releaseZone_lawful h z, fun y ne => stays_of_seats (releaseZone_about s (Ne.symm ne)) ?_⟩
  rw [releaseZone_seats]
  exact (release_stays ne fun listed => (h.base.waits y).mp listed).trans (relink_stays _ _ _ ne)

/-- A zone's record after a release, up to the origin it records, its position given up. -/
theorem releaseZone_record {s : State} (z : ZoneId) (waits : ∀ y, y ∈ s.waitList → (s.zones.get y).decode = .waiting) :
    ∃ r o, (releaseZone s z).zones.get z = { Zone.releaseRecord r with lastChanged := o } ∧
      r.sansArbiter = (s.zones.get z).sansArbiter ∧ r.decode = .none := by
  have idle : (releaseDecode s z).seats.pos z = .none := by
    rw [releaseDecode_seats]
    exact release_pos (a := s.seats) waits
  obtain ⟨o, record⟩ := autoZone_record (releaseDecode s z) z Zone.releaseRecord
  exact ⟨(releaseDecode s z).zones.get z, o,
    (congrArg (fun zs : Vector Zone 3 => zs.get z) (forEach_dropChannel_zones _ _)).trans record,
    sansArbiter_zone (releaseDecode_sansArbiter s z) z, idle⟩

theorem released_of_record {x r : Zone} {o : Origin} (h : x = { Zone.releaseRecord r with lastChanged := o })
    (idle : r.decode = .none) : x.released := by
  subst h
  exact ⟨rfl, rfl, rfl, rfl, rfl, rfl, idle, rfl, rfl, rfl, rfl, rfl⟩

/-- A zone's record after a release holds nothing of its source (R63). -/
theorem releaseZone_released {s : State} (z : ZoneId) (waits : ∀ y, y ∈ s.waitList → (s.zones.get y).decode = .waiting) :
    ((releaseZone s z).zones.get z).released := by
  obtain ⟨r, o, record, -, idle⟩ := releaseZone_record z waits
  exact released_of_record record idle

/-- A released zone has all its laws. -/
theorem Home.of_released {P : Prop} {s : State} {z : ZoneId} {told placed tuned : Prop} (h : (s.zones.get z).released) :
    Home P s z told placed tuned := by
  obtain ⟨bound, copy, buffer, path, vals, alloc, decode, tuning, noSignal, format, -⟩ := h
  have link : (s.zones.get z).link = none := by rw [Zone.link, copy]; rfl
  refine ⟨fun _ => ⟨bound, copy, buffer, path, vals, alloc, decode⟩,
    fun _ => ⟨fun _ => ⟨noSignal, format⟩, fun l e => nomatch link.symm.trans e⟩, fun _ _ => ?_,
    fun _ => ⟨fun _ => tuning, fun l e => nomatch link.symm.trans e⟩⟩
  unfold State.placed
  simp [decode, link]

/-- A write that keeps a zone released, after a release. -/
theorem release_inv {P : Prop} {s : State} (h : Inv P s) (z : ZoneId) {f : Zone → Zone} (m : DriveMode)
    (copy : ∀ r : Zone, (f r).copy = r.copy) (mutes : ∀ r : Zone, (f r).mutes = r.mutes)
    (decode : ∀ r : Zone, (f r).decode = r.decode)
    (kept : ∀ (r : Zone) (o : Origin), r.released → Zone.released { f r with lastChanged := o }) :
    Inv P (handDrive ((releaseZone s z).autoZone z f) z m) := by
  have released := releaseZone_released z h.waits
  have turned := releaseZone_turned h.lawful z
  generalize releaseZone s z = t at released turned ⊢
  obtain ⟨o, record⟩ := autoZone_record t z f
  refine (h.of_turned (turned.autoZone (copy _) (mutes _) (decode _)) (.of_released ?_)).of_calm (handDrive_calm _ z m)
  have self := kept _ o released
  rw [← record] at self
  exact self

theorem enterDrain_inv {P : Prop} {s : State} (h : Inv P s) (z : ZoneId) : Inv P (enterDrain s z) :=
  release_inv h z _ (fun _ => rfl) (fun _ => rfl) (fun _ => rfl) fun _ _ k => k

theorem powerDownStarting_inv {P : Prop} {s : State} (h : Inv P s) (z : ZoneId) : Inv P (powerDownStarting s z) :=
  release_inv h z _ (fun _ => rfl) (fun _ => rfl) (fun _ => rfl) fun _ _ k => k

/-! ## Power -/

/-- What every run of writes that keeps the laws composes from. -/
def Keeps (s t : State) : Prop := ∀ P : Prop, Inv P s → Inv P t

theorem Keeps.refl (s : State) : Keeps s s := fun _ h => h

theorem Keeps.trans {s t u : State} (h : Keeps s t) (k : Keeps t u) : Keeps s u := fun P i => k P (h P i)

theorem Keeps.ite {s t u : State} {b : Prop} [Decidable b] (h : Keeps s t) (k : Keeps s u) : Keeps s (if b then t else u) := by
  split <;> assumption

theorem Keeps.forEach {α : Type} (f : State → α → State) (h : ∀ s x, Keeps s (f s x)) (xs : List α) (s : State) :
    Keeps s (s.forEach xs f) := State.forEach_rel Keeps Keeps.refl (fun _ _ _ a b => a.trans b) f h xs s

theorem Calm.keeps {s t : State} (h : Calm s t) : Keeps s t := fun _ i => i.of_calm h

/-- A zone that has just bound its selection is written with its power bound. -/
theorem bound_inv {P : Prop} {s t u : State} {z : ZoneId} (h : Inv P s) (before : Calm s t) {rebind : Bool}
    (off : rebind = true ∨ (t.zones.get z).mutes.ofLink = (false, false, false)) (turned : Turned P z (bindZone t z rebind) u)
    (same : SameHome z (bindZone t z rebind) u) (bound : (u.zones.get z).power.isBound = true) : Inv P u := by
  have lawful : t.seats.Lawful P none := before.seats ▸ h.lawful
  obtain ⟨told, tuned⟩ := bindZone_told off
  have placed := bindZone_placed lawful z rebind
  have binding := bindZone_turned lawful z rebind
  exact h.of_turned ⟨turned.lawful, fun y ne => ((before.stays y).trans (binding.others y ne)).trans (turned.others y ne)⟩
    ⟨atRest_of_bound bound, fun _ => same.signals told, fun _ _ => same.placed placed, fun _ => same.tunes tuned⟩

/-- A rebind of a bound zone gives it its laws. -/
theorem Home.of_rebind {P : Prop} {s : State} (lawful : s.seats.Lawful P none) {z : ZoneId}
    (bound : (s.zones.get z).power.isBound = true) {told placed tuned : Prop} :
    Home P (bindZone s z true) z told placed tuned := by
  obtain ⟨signals, tunes⟩ := bindZone_told (s := s) (z := z) (rebind := true) (.inl rfl)
  exact ⟨atRest_of_bound (by rw [bindZone_power]; exact bound), fun _ => signals, fun _ _ => bindZone_placed lawful z true,
    fun _ => tunes⟩

/-- A rebind of a bound zone keeps the laws. -/
theorem rebind_inv {P : Prop} {s : State} (h : Inv P s) {z : ZoneId} (bound : (s.zones.get z).power.isBound = true) :
    Inv P (bindZone s z true) := h.of_turned (bindZone_turned h.lawful z true) (.of_rebind h.lawful bound)

/-- A zone that is not bound has no mute reason of a link. -/
theorem Inv.unmuted {P : Prop} {s : State} (h : Inv P s) {z : ZoneId} (power : (s.zones.get z).power.isBound = false) :
    (s.zones.get z).mutes.ofLink = (false, false, false) := by
  have link := (h.home z).rest.unlinked power
  obtain ⟨noSignal, format⟩ := ((h.home z).told trivial).1 link
  rw [Mutes.ofLink, noSignal, format, ((h.home z).tuned trivial).1 link]

/-- A zone that is not bound and binds its selection, to be STARTING (R60). -/
theorem powerUpZone_inv {P : Prop} {s : State} (h : Inv P s) {z : ZoneId} (power : (s.zones.get z).power.isBound = false) :
    Inv P (powerUpZone s z) := by
  have calm := handDrive_calm s z .centre
  have handed := h.of_calm calm
  have off := handed.unmuted (((calm.stays z).record.bound).trans power)
  rw [powerUpZone_eq]
  have binding : Turned P z (bindZone (handDrive s z .centre) z false) (bindZone (handDrive s z .centre) z false) :=
    ⟨(bindZone_turned handed.lawful z false).lawful, fun y _ => .refl y _⟩
  have kept (r : Zone) : (r.powered s.ms).copy = r.copy ∧ (r.powered s.ms).mutes = r.mutes ∧ (r.powered s.ms).decode = r.decode :=
    ⟨rfl, rfl, rfl⟩
  obtain ⟨copy, mutes, decode⟩ := kept ((bindZone (handDrive s z .centre) z false).zones.get z)
  obtain ⟨o, record⟩ := autoZone_record (bindZone (handDrive s z .centre) z false) z (Zone.powered s.ms)
  exact bound_inv h calm (.inr off) (binding.autoZone copy mutes decode) (autoZone_sameHome _ z copy mutes decode)
    (by rw [record]; rfl)

theorem atRest_on {r : Zone} (h : r.power = .on) : r.atRest := atRest_of_bound (by rw [h]; rfl)

theorem powerOn_keeps (s : State) (z : ZoneId) (o : Origin) : Keeps s (powerOn s z o).1 := by
  intro P h
  unfold powerOn
  split
  next power => exact (powerUpZone_inv h (by rw [power]; rfl)).of_calm (zoneOrigin_calm _ z o)
  · exact h.of_calm (zoneOrigin_calm s z o)
  · exact h.of_calm (zoneOrigin_calm s z o)
  · have on : Inv P (s.updZone z fun r => { r with power := .on }) := h.updZone (atRest_on rfl) rfl rfl rfl
    exact on.of_calm ((startCountdown_calm _ z).trans (zoneOrigin_calm _ z o))
  · exact h.of_calm ((updZone_calm s z _).trans (zoneOrigin_calm _ z o))

/-- A zone that takes a POWER_OFF in ON enters RAMP_DOWN, and DRAIN at once where it is silent (R62, R63). -/
theorem powerDownOn_keeps (s : State) (z : ZoneId) : Keeps s (powerDownOn s z) := by
  intro P h
  have drain (t : State) (k : Inv P t) : Inv P (if (t.zones.get z).qr = none then enterDrain t z else t) := by
    split
    · exact enterDrain_inv k z
    · exact k
  have ended := h.of_calm ((updZone_calm s z fun r => { r with countdown := none }).trans (endTone_calm _ z))
  exact drain _ (ended.autoZone (atRest_of_bound rfl) rfl rfl rfl)

theorem powerOff_keeps (s : State) (z : ZoneId) (o : Origin) : Keeps s (powerOff s z o).1 := by
  unfold powerOff
  split
  · exact (zoneOrigin_calm s z o).keeps
  · exact (zoneOrigin_calm s z o).keeps
  · exact Keeps.trans (fun P h => powerDownStarting_inv h z) (zoneOrigin_calm _ z o).keeps
  · exact (powerDownOn_keeps s z).trans (zoneOrigin_calm _ z o).keeps
  · exact ((updZone_calm s z _).trans (zoneOrigin_calm _ z o)).keeps

theorem startExpiry_keeps (s : State) (z : ZoneId) : Keeps s (startExpiry s z) := by
  have on : Keeps s (s.autoZone z fun r => { r with power := .on, startTimer := none }) :=
    fun P h => h.autoZone (atRest_on rfl) rfl rfl rfl
  exact .ite (on.trans ((handDrive_calm _ z .audio).trans (startCountdown_calm _ z)).keeps) (.refl s)

/-- A zone whose drain timer has expired is in STANDBY, or on its way from there (R64). -/
theorem drainExpiry_keeps (s : State) (z : ZoneId) : Keeps s (drainExpiry s z) := by
  unfold drainExpiry
  dsimp only
  split
  next due =>
    obtain ⟨power, -⟩ := due
    have bound : (s.zones.get z).power.isBound = false := by rw [power]; rfl
    have rests : Calm s (s.autoZone z fun r => { r with power := .standby, drainTimer := none, restart := none }) :=
      autoZone_calm_at ⟨⟨bound.symm, fun bare _ => bare bound, rfl, rfl⟩, rfl, rfl⟩
    have off := rests.trans (handDrive_calm _ z .off)
    have standby := (off.stays z).record.bound.trans bound
    split
    · exact off.keeps.trans (Keeps.trans (fun P h => powerUpZone_inv h standby) (zoneOrigin_calm _ z _).keeps)
    · exact off.keeps
  · exact .refl s

theorem autoStandbyExpiry_keeps (s : State) (z : ZoneId) : Keeps s (autoStandbyExpiry s z) :=
  .ite ((powerOff_keeps s z .auto).trans (raise_calm _ _).keeps) (.refl s)

/-! ## Rebind causes -/

/-- A rebind cause binds the zone anew, lets its path fade, or changes nothing (R68). -/
theorem rebindCause_cases (s : State) (z : ZoneId) : rebindCause s z = s ∨ (s.zones.get z).power.isBound = true ∧
    (rebindCause s z = bindZone s z true ∨ rebindCause s z = s.autoZone z fun r => { r with path := .fading }) := by
  have bound {p : Power} (power : (s.zones.get z).power = p) (h : p.isBound = true) : (s.zones.get z).power.isBound = true :=
    power ▸ h
  have fades : (if (s.zones.get z).qr = none then bindZone s z true else s.autoZone z fun r => { r with path := .fading }) =
      bindZone s z true ∨ (if (s.zones.get z).qr = none then bindZone s z true
        else s.autoZone z fun r => { r with path := .fading }) = s.autoZone z fun r => { r with path := .fading } := by
    split
    · exact .inl rfl
    · exact .inr rfl
  unfold rebindCause
  dsimp only
  split
  next power => exact .inr ⟨bound power rfl, .inl rfl⟩
  · exact .inl rfl
  · exact .inl rfl
  next power _ => exact .inr ⟨bound power rfl, fades⟩
  next power _ => exact .inr ⟨bound power rfl, fades⟩
  next power _ _ => exact .inr ⟨bound power rfl, .inl rfl⟩
  next power _ _ => exact .inr ⟨bound power rfl, .inl rfl⟩
  · exact .inl rfl

theorem rebindCause_turned {P : Prop} {s : State} (h : s.seats.Lawful P none) (z : ZoneId) : Turned P z s (rebindCause s z) := by
  rcases rebindCause_cases s z with e | ⟨-, e | e⟩
  · rw [e]
    exact ⟨h, fun y _ => .refl y s⟩
  · rw [e]
    exact bindZone_turned h z true
  · rw [e]
    exact Turned.autoZone ⟨h, fun y _ => .refl y s⟩ rfl rfl rfl

/-- What a zone has of its laws it has after a rebind cause. -/
theorem Home.rebindCause {P : Prop} {s : State} (h : s.seats.Lawful P none) {z : ZoneId} {told placed tuned : Prop}
    (home : Home P s z told placed tuned) : Home P (rebindCause s z) z told placed tuned := by
  rcases rebindCause_cases s z with e | ⟨bound, e | e⟩
  · rw [e]
    exact home
  · rw [e]
    exact .of_rebind h bound
  · obtain ⟨o, record⟩ := autoZone_record s z fun r => { r with path := .fading }
    rw [e]
    exact home.rewrite (atRest_of_bound (by rw [record]; exact bound)) (autoZone_sameHome s z rfl rfl rfl)

theorem rebindCause_keeps (s : State) (z : ZoneId) : Keeps s (rebindCause s z) := fun _ h =>
  h.of_turned (rebindCause_turned h.lawful z) ((h.home z).rebindCause h.lawful)

theorem selectSource_keeps (s : State) (z : ZoneId) (src : Option SrcId) (o : Origin) : Keeps s (selectSource s z src o) :=
  ((((endTone_calm s z).trans (updZone_calm _ z _)).keeps).trans (rebindCause_keeps _ z)).trans (zoneOrigin_calm _ z o).keeps

theorem zoneOnEdit_keeps (i : SrcId) (s : State) (z : ZoneId) : Keeps s (zoneOnEdit i s z) :=
  .ite (rebindCause_keeps s z) (.refl s)

/-- A ramp step ends in a release, in a binding, or in the zone as it was but for its gain (R63, R68, R75). -/
theorem rampStep_keeps (s : State) (z : ZoneId) : Keeps s (rampStep s z) := by
  unfold rampStep
  dsimp only
  split
  · exact .refl s
  · have stepped : Calm s (s.updZone z fun r =>
        { r with rampCount := 0, qr := rampNext (s.zones.get z).qr (s.zones.get z).target }) := updZone_calm s z _
    have power := (stepped.stays z).record.bound
    generalize (s.updZone z fun r =>
        { r with rampCount := 0, qr := rampNext (s.zones.get z).qr (s.zones.get z).target }) = t at stepped power ⊢
    refine stepped.keeps.trans ?_
    split
    · split
      · exact Keeps.trans (fun P h => enterDrain_inv h z) (zoneOrigin_calm _ z _).keeps
      · split
        next fading =>
          have bound : (t.zones.get z).power.isBound = true := by rw [power, fading.2]; rfl
          exact Keeps.trans (fun P h => rebind_inv h bound) (zoneOrigin_calm _ z _).keeps
        · exact .refl t
    · exact .refl t

theorem outputFrame_keeps (s : State) (z : ZoneId) : Keeps s (outputFrame s z) := by
  have count (t : State) : Keeps t (countRampFrame t z) :=
    .ite (.refl t) (.ite (rampStep_keeps t z) (updZone_calm t z _).keeps)
  have formed : Keeps s (if (s.zones.get z).power.isBound then formFrame s z else s) := by
    split
    next bound => exact (formFrame_calm bound).keeps
    · exact .refl s
  exact formed.trans (count _)

theorem setZoneOptions_keeps (s : State) (z : ZoneId) (opt : ZoneOptions) (o : Origin) : Keeps s (setZoneOptions s z opt o) := by
  have stored (r : Zone) : r.Calm
      { r with mode := opt.mode, night := opt.night, clockMode := opt.clockMode, rampInterval := opt.rampInterval,
               autoStandby := opt.autoStandby } := ⟨⟨rfl, id, rfl, rfl⟩, rfl, rfl⟩
  have shadowed (r : Zone) (b : Prop) [Decidable b] (cs : Option CoefSet) : r.Calm (if b then { r with shadow := cs } else r) :=
    .ite ⟨⟨rfl, id, rfl, rfl⟩, rfl, rfl⟩ (.refl r)
  have counted (r : Zone) (b : Prop) [Decidable b] : r.Calm (if b then { r with rampCount := 0 } else r) :=
    .ite ⟨⟨rfl, id, rfl, rfl⟩, rfl, rfl⟩ (.refl r)
  have clock (t : State) (h : Keeps s t) (a b : Prop) [Decidable a] [Decidable b] :
      Keeps s (if a then t else if b then rebindCause t z else storeClock t z opt.clockMode) :=
    h.trans (.ite (.refl t) (.ite (rebindCause_keeps t z) (storeClock_calm t z _).keeps))
  have countdown (t : State) (h : Keeps s t) (a b : Prop) [Decidable a] [Decidable b] :
      Keeps s (if a then t else if b then t.updZone z fun r => { r with countdown := none } else startCountdown t z) :=
    h.trans (.ite (.refl t) (.ite (updZone_calm t z _).keeps (startCountdown_calm t z).keeps))
  exact (countdown _ (clock _ (updZone_calm s z _ fun r =>
    ((stored r).trans (shadowed _ _ _)).trans (counted _ _)).keeps _ _) _ _).trans (zoneOrigin_calm _ z o).keeps

end Sys2Proof.Machine
end

section
/-! Announcements of a link, of the tuner and of a monitor restore the laws of the zones that they reach (R18, R54, R71, R72). -/

namespace Sys2Proof.Machine

/-! ## Units that write their own record -/

/-- The arbiter's laws stand, and what each zone's own laws read stands. -/
structure Reseats (s t : State) : Prop where
  lawful : ∀ (P : Prop) (x : Option LinkId), s.seats.Lawful P x → t.seats.Lawful P x
  stays : ∀ y, Stays y s t

theorem Reseats.refl (s : State) : Reseats s s := ⟨fun _ _ h => h, fun y => .refl y s⟩

theorem Reseats.trans {s t u : State} (h : Reseats s t) (k : Reseats t u) : Reseats s u :=
  ⟨fun P x i => k.lawful P x (h.lawful P x i), fun y => (h.stays y).trans (k.stays y)⟩

theorem Calm.reseats {s t : State} (h : Calm s t) : Reseats s t := ⟨fun _ _ i => h.seats ▸ i, h.stays⟩

theorem Reseats.ite {s t u : State} {b : Prop} [Decidable b] (h : Reseats s t) (k : Reseats s u) :
    Reseats s (if b then t else u) := by
  split <;> assumption

theorem Reseats.keeps {s t : State} (h : Reseats s t) : Keeps s t := fun _ i => i.of_stays (h.lawful _ _ i.lawful) h.stays

/-- The laws look at the units' states and links alone. -/
theorem units_lawful {P : Prop} {x : Option LinkId} {a b : Seats} (link : b.link = a.link) (pos : b.pos = a.pos)
    (muted : b.muted = a.muted) (wait : b.wait = a.wait)
    (units : ∀ u, (b.units.get u).state = (a.units.get u).state ∧ (b.units.get u).link = (a.units.get u).link)
    (h : a.Lawful P x) : b.Lawful P x := by
  obtain ⟨⟨free, served, nodup, waits⟩, seated, tight⟩ := h
  refine ⟨⟨fun u => ?_, fun y u => ?_, wait ▸ nodup, fun y => ?_⟩, fun y => ?_, fun hP => ?_⟩
  · rw [(units u).1, (units u).2]
    exact free u
  · rw [pos, (units u).2]
    exact served y u
  · rw [wait, pos]
    exact waits y
  · exact seated_congr (by rw [link]) (by rw [pos]) (by rw [muted]) units (seated y)
  · obtain ⟨busy, attended, distinct⟩ := tight hP
    refine ⟨fun u => ?_, fun u => ?_, fun u v => ?_⟩
    · rw [(units u).1, wait]
      exact busy u
    · rw [(units u).1, (units u).2, pos]
      exact attended u
    · rw [(units u).2, (units v).2]
      exact distinct u v

theorem updUnit_get (s : State) (u v : UnitId) (f : DecodeUnit → DecodeUnit) :
    (s.updUnit u f).units.get v = if u = v then f (s.units.get u) else s.units.get v := setAt_get ..

theorem updUnit_reseats (s : State) (u : UnitId) {f : DecodeUnit → DecodeUnit}
    (state : (f (s.units.get u)).state = (s.units.get u).state) (link : (f (s.units.get u)).link = (s.units.get u).link) :
    Reseats s (s.updUnit u f) := by
  refine ⟨fun P x => units_lawful rfl rfl rfl rfl fun v => ?_, fun y => stays_of_zone (sameSight_of_fields rfl rfl) rfl⟩
  show ((s.updUnit u f).units.get v).state = _ ∧ ((s.updUnit u f).units.get v).link = _
  rw [updUnit_get]
  split
  next e => exact e ▸ ⟨state, link⟩
  next => exact ⟨rfl, rfl⟩

theorem unitSilent_reseats (s : State) (u : UnitId) (period : Bool) : Reseats s (unitSilent s u period) :=
  updUnit_reseats s u rfl rfl

theorem handFrame_calm (x : DecodeUnit) (s : State) (z : ZoneId) : Calm s (handFrame x s z) :=
  (writeFrame_calm s z _).trans (updZone_calm _ z _)

theorem unitFrame_reseats (s : State) (u : UnitId) : Reseats s (unitFrame s u) := by
  by_cases h : (s.units.get u).state = .free
  · rw [unitFrame_free h]
    exact .refl s
  · rw [unitFrame_eq h]
    exact (updUnit_reseats s u rfl rfl).trans (Calm.forEach _ (handFrame_calm _) _ _).reseats

theorem countBsf_calm (s : State) (l : LinkId) (n : Nat) : Calm s (countBsf s l n) := updLink_calm s l _

/-! ## A unit comes to RUNNING -/

/-- Some zones lose DECODE. -/
def Seats.hush (a : Seats) (ys : List ZoneId) : Seats := { a with muted := fun y => if y ∈ ys then false else a.muted y }

theorem autoZone_hush (s : State) (z : ZoneId) :
    (s.autoZone z fun r => { r with mutes := { r.mutes with decode := false } }).seats = s.seats.hush [z] := by
  have link : (fun y => if y = z then s.seats.link z else s.seats.link y) = s.seats.link := funext fun y => by
    by_cases e : y = z <;> simp [e]
  have muted : (fun y => if y = z then false else s.seats.muted y) = fun y => if y ∈ [z] then false else s.seats.muted y := by
    simp
  exact (autoZone_seats s z rfl).trans (congrArg₂ (fun l m => ({ s.seats with link := l, muted := m } : Seats)) link muted)

theorem forEach_hush (ys : List ZoneId) (s : State) :
    (s.forEach ys fun s z => s.autoZone z fun r => { r with mutes := { r.mutes with decode := false } }).seats =
      s.seats.hush ys := by
  induction ys generalizing s with
  | nil => simp [Seats.hush]
  | cons y ys ih =>
    rw [State.forEach_cons, ih, autoZone_hush]
    have muted : ((s.seats.hush [y]).hush ys).muted = (s.seats.hush (y :: ys)).muted := by
      funext x
      by_cases e : x ∈ ys <;> simp [Seats.hush, e]
    exact congrArg (fun m => ({ s.seats with muted := m } : Seats)) muted

/-- A unit in SYNCING comes to RUNNING, and its attached zones lose DECODE (R46, R55). -/
theorem run_lawful {P : Prop} {x : Option LinkId} {a b : Seats} {u : UnitId} (link : b.link = a.link) (pos : b.pos = a.pos)
    (wait : b.wait = a.wait) (muted : ∀ y, b.muted y = if a.pos y = .attached u then false else a.muted y)
    (others : ∀ v, v ≠ u → b.units.get v = a.units.get v) (state : (b.units.get u).state = .running)
    (before : (a.units.get u).state = .syncing) (kept : (b.units.get u).link = (a.units.get u).link) (h : a.Lawful P x) :
    b.Lawful P x := by
  have links (v : UnitId) : (b.units.get v).link = (a.units.get v).link := by
    by_cases e : v = u
    · rw [e, kept]
    · rw [others v e]
  have free (v : UnitId) : (b.units.get v).state = .free ↔ (a.units.get v).state = .free := by
    by_cases e : v = u
    · rw [e, state, before]
      decide
    · rw [others v e]
  obtain ⟨base, seated, tight⟩ := h
  refine ⟨⟨fun v => ?_, fun y v => ?_, wait ▸ base.nodup, fun y => ?_⟩,
    fun y => ⟨⟨fun v at_ => ?_, fun hP waits => ?_⟩, ?_⟩, fun hP => ?_⟩
  · rw [free, links]
    exact base.free v
  · rw [pos, links]
    exact base.served y v
  · rw [wait, pos]
    exact base.waits y
  · rw [link, links]
    exact (seated y).attached v (pos ▸ at_)
  · simp only [link, links]
    exact (seated y).waiting hP (pos ▸ waits)
  · rw [muted, pos, (seated y).muted]
    cases at_ : a.pos y with
    | none => rfl
    | waiting => rfl
    | attached v =>
      by_cases e : v = u
      · rw [e, if_pos rfl]
        show false = ((b.units.get u).state == .syncing)
        rw [state]
        rfl
      · rw [if_neg fun same => e (by cases same; rfl)]
        show ((a.units.get v).state == _) = ((b.units.get v).state == _)
        rw [others v e]
  · obtain ⟨busy, attended, distinct⟩ := tight hP
    refine ⟨fun v => ?_, fun v => ?_, fun v w => ?_⟩
    · rw [free, wait]
      exact busy v
    · rw [ne_eq, free, links, pos]
      exact attended v
    · rw [links, links]
      exact distinct v w

theorem clearMute_stays (s : State) (y z : ZoneId) :
    Stays y s (s.autoZone z fun r => { r with mutes := { r.mutes with decode := false } }) := by
  by_cases e : z = y
  · subst e
    obtain ⟨o, record⟩ := autoZone_record s z fun r => { r with mutes := { r.mutes with decode := false } }
    exact ⟨by rw [record]; exact ⟨rfl, id, rfl, rfl⟩, by rw [record], sameSight_of_fields rfl rfl⟩
  · exact stays_of_zone (sameSight_of_fields rfl rfl) (State.autoZone_get_of_ne s _ e)

theorem runs_reseats {s : State} {u : UnitId} {f : DecodeUnit → DecodeUnit} (before : (s.units.get u).state = .syncing)
    (state : (f (s.units.get u)).state = .running) (link : (f (s.units.get u)).link = (s.units.get u).link) :
    Reseats s (clearDecodeMute (s.updUnit u f) u) := by
  have attached (y : ZoneId) : y ∈ attachedZones (s.updUnit u f) u ↔ s.seats.pos y = .attached u := by
    have all : ∀ y : ZoneId, y ∈ zoneIds := by decide
    simp only [attachedZones, List.mem_filter, all, true_and, decide_eq_true_eq]
    rfl
  have seats := forEach_hush (attachedZones (s.updUnit u f) u) (s.updUnit u f)
  have units (v : UnitId) := updUnit_get s u v f
  have stays (y : ZoneId) : Stays y (s.updUnit u f) (clearDecodeMute (s.updUnit u f) u) :=
    State.forEach_rel (Stays y) (Stays.refl y) (fun _ _ _ h k => h.trans k) _ (fun t z => clearMute_stays t y z) _ _
  refine ⟨fun P x h => ?_, fun y =>
    Stays.trans (stays_of_zone (s := s) (t := s.updUnit u f) (sameSight_of_fields rfl rfl) rfl) (stays y)⟩
  unfold clearDecodeMute
  rw [seats]
  refine run_lawful (a := s.seats) (u := u) rfl rfl rfl (fun y => ?_) (fun v ne => ?_) ?_ before ?_ h
  · exact if_congr (attached y) rfl rfl
  · exact (units v).trans (if_neg (Ne.symm ne))
  · exact (congrArg DecodeUnit.state ((units u).trans (if_pos rfl))).trans state
  · exact (congrArg DecodeUnit.link ((units u).trans (if_pos rfl))).trans link

/-- A unit that takes a block keeps its link, and comes to RUNNING with its zones told, or keeps its state (R39 to R46, R55). -/
theorem unitTakesBlock_reseats (s : State) (u : UnitId) (l : LinkId) (d : Descriptor) (fs : List MantissaFrame) :
    Reseats s (unitTakesBlock s u l d fs) := by
  have counted (n : Nat) := (countBsf_calm s l n).reseats
  have failed (x : DecodeUnit) : (outputFailed d x).state = x.state ∧ (outputFailed d x).link = x.link := by
    unfold outputFailed
    split <;> exact ⟨rfl, rfl⟩
  unfold unitTakesBlock
  dsimp only
  split
  · exact .refl s
  next running =>
    split
    · exact (counted _).trans (updUnit_reseats _ u running.symm rfl)
    · exact (counted _).trans (updUnit_reseats _ u (failed _).1 (failed _).2)
  next syncing =>
    split
    · exact runs_reseats syncing rfl rfl
    · exact (counted _).trans (updUnit_reseats _ u rfl rfl)

/-! ## The arbiter follows a link -/

/-- The laws but for what link `l` has yet to announce to the zones on it. -/
structure Untold (P : Prop) (l : LinkId) (s : State) : Prop where
  lawful : s.seats.Lawful P none
  home : ∀ z, Home P s z ((s.zones.get z).link ≠ some l) ((s.zones.get z).link ≠ some l) True

theorem Untold.of_reseats {P : Prop} {l : LinkId} {s t : State} (h : Untold P l s) (k : Reseats s t) : Untold P l t := by
  refine ⟨k.lawful P none h.lawful, fun z => ?_⟩
  rw [(k.stays z).record.link]
  exact .of_stays (k.stays z) (h.home z)

theorem Inv.untold {P : Prop} {s : State} (h : Inv P s) (l : LinkId) : Untold P l s :=
  ⟨h.lawful, fun z => ⟨(h.home z).rest, fun _ => (h.home z).told trivial, fun _ => (h.home z).placed trivial, (h.home z).tuned⟩⟩

/-- A link's record is written, whatever it shows. -/
theorem Untold.updLink {P : Prop} {l : LinkId} {s : State} (h : Untold P l s) (f : Link → Link) : Untold P l (s.updLink l f) := by
  refine ⟨h.lawful, fun z => ?_⟩
  have same (off : (s.zones.get z).link ≠ some l) : SameHome z s (s.updLink l f) := by
    refine ⟨rfl, rfl, Iff.rfl, fun k e => ?_, rfl⟩
    have ne : l ≠ k := fun same => off (same ▸ e)
    rw [State.updLink, State.putLink_links, setAt_get, if_neg ne]
  exact ⟨(h.home z).rest, fun off => (same off).signals ((h.home z).told off), fun off hP => (same off).placed ((h.home z).placed off hP),
    (h.home z).tuned⟩

/-- Every zone's law after a loop over the zones is what its own turn makes of its law before. -/
theorem zones_loop {P : Prop} {x : Option LinkId} {op : State → ZoneId → State} {Q Q' : State → ZoneId → Prop}
    (stable : ∀ s t z, Stays z s t → Q s z → Q t z) (stable' : ∀ s t z, Stays z s t → Q' s z → Q' t z)
    (lawful : ∀ s z, s.seats.Lawful P x → (op s z).seats.Lawful P x)
    (others : ∀ s z, s.seats.Lawful P x → ∀ y, y ≠ z → Stays y s (op s z))
    (turn : ∀ s z, s.seats.Lawful P x → Q s z → Q' (op s z) z) {s : State} (h : s.seats.Lawful P x) (all : ∀ z, Q s z) :
    (s.forEach zoneIds op).seats.Lawful P x ∧ ∀ z, Q' (s.forEach zoneIds op) z := by
  refine ⟨State.forEach_keeps (fun t => t.seats.Lawful P x) op lawful _ s h, fun z => ?_⟩
  obtain ⟨u, before, after⟩ := forEach_zone_between
    (R := fun s t => s.seats.Lawful P x → t.seats.Lawful P x ∧ Stays z s t) (z := z) (fun t i => ⟨i, .refl z t⟩)
    (fun s t u h k i => ⟨(k (h i).1).1, (h i).2.trans (k (h i).1).2⟩)
    (fun t y ne i => ⟨lawful t y i, others t y i z (Ne.symm ne)⟩) s
  obtain ⟨now, stays⟩ := before h
  exact stable' _ _ z (after (lawful u z now)).2 (turn u z now (stable _ _ z stays (all z)))

theorem placeDecode_stays (s : State) {y z : ZoneId} (l : LinkId) (ne : y ≠ z) : Stays y s (placeDecode s z l) := by
  refine stays_of_seats (about_of_sansArbiter (placeDecode_sansArbiter s z l) y) ?_
  rw [placeDecode_seats]
  exact place_stays _ l ne

theorem needsDecode_of_arbiter {s t : State} (h : t.sansArbiter = s.sansArbiter) : linkNeedsDecode t = linkNeedsDecode s :=
  linkNeedsDecode_links (congrArg State.links h :)

/-- A zone's own laws but for its position, when the arbiter alone has written. -/
theorem Home.of_arbiter {P : Prop} {s t : State} {z : ZoneId} {told placed placed' tuned : Prop}
    (h : t.sansArbiter = s.sansArbiter) (home : Home P s z told placed tuned)
    (idle : (t.zones.get z).power.isBound = false → (t.zones.get z).decode = .none) (now : placed' → P → t.placed z) :
    Home P t z told placed' tuned := by
  have steady := steady_of_sansArbiter (sansArbiter_zone h z)
  have frame := about_frame (about_of_sansArbiter h z)
  obtain ⟨links, -, -, -, tuner, -⟩ := frame
  obtain ⟨bare, -⟩ := (atRest_iff _).mp home.rest
  refine ⟨(atRest_iff _).mpr ⟨steady.bare bare, idle⟩, fun a => ?_, now, fun a => ?_⟩
  · obtain ⟨off, on⟩ := home.told a
    refine ⟨fun e => ?_, fun k e => ?_⟩
    · rw [steady.noSignal, steady.format]
      exact off (steady.link ▸ e)
    · rw [steady.noSignal, steady.format, links]
      exact on k (steady.link ▸ e)
  · obtain ⟨off, on⟩ := home.tuned a
    refine ⟨fun e => ?_, fun k e => ?_⟩
    · rw [steady.tuning]
      exact off (steady.link ▸ e)
    · rw [steady.tuning, tuner]
      exact on k (steady.link ▸ e)

/-- What holds of a zone on link `l` while the arbiter places the zones on it, or takes them off (R54). -/
def PlacedIn (P : Prop) (l : LinkId) (need : Bool) (s : State) (z : ZoneId) (placed : Prop) : Prop :=
  linkNeedsDecode s l = need ∧ Home P s z ((s.zones.get z).link ≠ some l) placed True

theorem placedIn_stable {P : Prop} {l : LinkId} {need : Bool} {s t : State} {z : ZoneId} {placed : Option LinkId → Prop}
    (k : Stays z s t) (h : PlacedIn P l need s z (placed (s.zones.get z).link)) :
    PlacedIn P l need t z (placed (t.zones.get z).link) := by
  obtain ⟨needs, home⟩ := h
  refine ⟨(k.sight.need l).trans needs, ?_⟩
  rw [k.record.link]
  exact home.of_stays k

theorem placed_of_link {s : State} {z : ZoneId} {l : LinkId} (link : (s.zones.get z).link = some l)
    (h : (s.zones.get z).decode ≠ .none ↔ linkNeedsDecode s l = true) : s.placed z := by
  unfold State.placed
  rw [h, link]
  exact ⟨fun e => ⟨l, rfl, e⟩, fun ⟨k, same, e⟩ => by cases same; exact e⟩

/-- A zone on the link whose need begins has a position (R49, R54). -/
theorem placeIfNone_turn {P : Prop} {l : LinkId} {s : State} {z : ZoneId}
    (h : PlacedIn P l true s z ((s.zones.get z).link ≠ some l)) : PlacedIn P l true (placeIfNone l s z) z True := by
  obtain ⟨need, home⟩ := h
  unfold placeIfNone
  split
  next on_ =>
    obtain ⟨link, -⟩ := on_
    have arbiter := placeDecode_sansArbiter s z l
    have seat : (placeDecode s z l).seats.pos z ≠ .none := by
      rw [placeDecode_seats]
      exact place_pos _ z l
    have steady := steady_of_sansArbiter (sansArbiter_zone arbiter z)
    have link' : ((placeDecode s z l).zones.get z).link = some l := steady.link.trans link
    have need' : linkNeedsDecode (placeDecode s z l) l = true := by rw [needsDecode_of_arbiter arbiter, need]
    refine ⟨need', ?_⟩
    rw [steady.link]
    refine .of_arbiter arbiter home (fun off => ?_) fun _ _ => placed_of_link link' (iff_of_true seat need')
    exact nomatch (home.rest.unlinked (steady.bound ▸ off)).symm.trans link
  next off =>
    refine ⟨need, home.rest, home.told, fun _ hP => ?_, home.tuned⟩
    by_cases link : (s.zones.get z).link = some l
    · exact placed_of_link link (iff_of_true (fun idle => off ⟨link, idle⟩) need)
    · exact home.placed link hP

theorem placeIfNone_lawful {P : Prop} (l : LinkId) {s : State} (z : ZoneId) (h : s.seats.Lawful P none) :
    (placeIfNone l s z).seats.Lawful P none := by
  unfold placeIfNone
  split
  next on_ =>
    rw [placeDecode_seats]
    exact place_lawful h on_.2 on_.1
  · exact h

theorem placeIfNone_stays (l : LinkId) (s : State) {y z : ZoneId} (ne : y ≠ z) : Stays y s (placeIfNone l s z) := by
  unfold placeIfNone
  split
  · exact placeDecode_stays s l ne
  · exact .refl y s

/-- A zone whose link's need ends leaves the wait list and its position, its unit being freed afterwards (R54). -/
theorem dropNeed_seats {l : LinkId} {s : State} {z : ZoneId} (base : s.seats.Base)
    (h : (s.zones.get z).link = some l ∧ (s.zones.get z).decode ≠ .none) :
    (dropNeed l s z).seats = (s.seats.queue (s.seats.wait.filter fun y => decide (y ≠ z))).tell [z] .none := by
  unfold dropNeed
  rw [if_pos h, setDecode_seats]
  split
  · rfl
  next waits => rw [queue_of_not_waiting base waits]

theorem dropNeed_lawful {P : Prop} {l : LinkId} {s : State} (z : ZoneId) (h : s.seats.Lawful P (some l)) :
    (dropNeed l s z).seats.Lawful P (some l) := by
  by_cases on_ : (s.zones.get z).link = some l ∧ (s.zones.get z).decode ≠ .none
  · rw [dropNeed_seats h.base on_]
    refine leave_lawful h.base (fun y _ => h.seated y) fun hP => ?_
    obtain ⟨busy, attended, distinct⟩ := h.tight hP
    refine ⟨busy, fun u busyNow => ?_, distinct⟩
    rcases attended u busyNow with same | ⟨y, at_⟩
    · exact .inl same
    · by_cases e : y = z
      · exact .inl (((h.seated z).attached u (e ▸ at_)).symm.trans on_.1)
      · exact .inr ⟨y, e, at_⟩
  · rw [dropNeed, if_neg on_]
    exact h

theorem dropNeed_stays {l : LinkId} {s : State} (base : s.seats.Base) {y z : ZoneId} (ne : y ≠ z) :
    Stays y s (dropNeed l s z) := by
  refine stays_of_seats (about_of_sansArbiter (dropNeed_sansArbiter l s z) y) ?_
  by_cases on_ : (s.zones.get z).link = some l ∧ (s.zones.get z).decode ≠ .none
  · rw [dropNeed_seats base on_]
    exact tell_stays (s.seats.queue _) .none ne
  · rw [dropNeed, if_neg on_]
    exact .refl _ y

/-- A zone on the link whose need ends has no position (R49, R54). -/
theorem dropNeed_turn {P : Prop} {l : LinkId} {s : State} {z : ZoneId} (base : s.seats.Base)
    (h : PlacedIn P l false s z ((s.zones.get z).link ≠ some l)) : PlacedIn P l false (dropNeed l s z) z True := by
  obtain ⟨need, home⟩ := h
  by_cases on_ : (s.zones.get z).link = some l ∧ (s.zones.get z).decode ≠ .none
  · have arbiter := dropNeed_sansArbiter l s z
    have seat : (dropNeed l s z).seats.pos z = .none := by
      rw [dropNeed_seats base on_]
      exact tell_pos_self _ z .none
    have link : ((dropNeed l s z).zones.get z).link = some l := (sansArbiter_link (sansArbiter_zone arbiter z)).trans on_.1
    have need' : linkNeedsDecode (dropNeed l s z) l = false := by rw [needsDecode_of_arbiter arbiter, need]
    refine ⟨need', ?_⟩
    rw [sansArbiter_link (sansArbiter_zone arbiter z)]
    exact .of_arbiter arbiter home (fun _ => seat) fun _ _ =>
      placed_of_link link (iff_of_false (fun e => e seat) (by rw [need']; decide))
  · rw [dropNeed, if_neg on_]
    refine ⟨need, home.rest, home.told, fun _ hP => ?_, home.tuned⟩
    by_cases link : (s.zones.get z).link = some l
    · exact placed_of_link link (iff_of_false (fun e => on_ ⟨link, e⟩) (by rw [need]; decide))
    · exact home.placed link hP

theorem freeIfEmpty_keeps (s : State) (u : UnitId) (base : s.seats.Base) (y : ZoneId) : Stays y s (freeIfEmpty s u) := by
  refine stays_of_seats (about_of_sansArbiter (freeIfEmpty_sansArbiter s u) y) ?_
  rw [freeIfEmpty_seats]
  exact freeIfEmpty_stays s.seats u y (base.waits y).mp

/-- The laws but for the mute reasons of the zones on link `l`. -/
structure Placed (P : Prop) (l : LinkId) (s : State) : Prop where
  lawful : s.seats.Lawful P none
  home : ∀ z, Home P s z ((s.zones.get z).link ≠ some l) True True

/-- The arbiter has placed every zone after a change of a link (R54). -/
theorem arbiterLink_placed {P : Prop} {l : LinkId} {s : State} (h : Untold P l s) : Placed P l (arbiterLink s l) := by
  unfold arbiterLink
  cases need : linkNeedsDecode s l with
  | true =>
    obtain ⟨lawful, home⟩ := zones_loop (P := P) (x := none) (op := placeIfNone l)
      (Q := fun s z => PlacedIn P l true s z ((s.zones.get z).link ≠ some l)) (Q' := fun s z => PlacedIn P l true s z True)
      (fun _ _ _ k i => placedIn_stable (placed := (· ≠ some l)) k i) (fun _ _ _ k i => placedIn_stable (placed := fun _ => True) k i)
      (fun s z i => placeIfNone_lawful l z i) (fun s z _ y ne => placeIfNone_stays l s ne) (fun s z _ i => placeIfNone_turn i)
      h.lawful fun z => ⟨need, h.home z⟩
    exact ⟨lawful, fun z => (home z).2⟩
  | false =>
    obtain ⟨lawful, home⟩ := zones_loop (P := P) (x := some l) (op := dropNeed l)
      (Q := fun s z => PlacedIn P l false s z ((s.zones.get z).link ≠ some l)) (Q' := fun s z => PlacedIn P l false s z True)
      (fun _ _ _ k i => placedIn_stable (placed := (· ≠ some l)) k i) (fun _ _ _ k i => placedIn_stable (placed := fun _ => True) k i)
      (fun s z i => dropNeed_lawful z i) (fun s z i y ne => dropNeed_stays i.base ne) (fun s z i k => dropNeed_turn i.base k)
      ⟨h.lawful.base, h.lawful.seated, fun hP => (h.lawful.tight hP).exempt (some l) h.lawful.base⟩ fun z => ⟨need, h.home z⟩
    rw [if_neg (by decide)]
    dsimp only
    generalize s.forEach zoneIds (dropNeed l) = t at lawful home ⊢
    split
    next u served =>
      have stays := freeIfEmpty_keeps t u lawful.base
      rw [servingUnit_seats] at served
      have link := (serving_eq_some.mp served).1
      refine ⟨?_, fun z => ?_⟩
      · rw [freeIfEmpty_seats]
        exact freeIfEmpty_lawful (link ▸ lawful)
      · rw [(stays z).record.link]
        exact .of_stays (stays z) (home z).2
    next unserved =>
      rw [servingUnit_seats] at unserved
      have other := serving_eq_none.mp unserved
      refine ⟨⟨lawful.base, lawful.seated, fun hP => ?_⟩, fun z => (home z).2⟩
      obtain ⟨busy, attended, distinct⟩ := lawful.tight hP
      exact ⟨busy, fun u busyNow => .inr ((attended u busyNow).resolve_left (other u)), distinct⟩

/-! ## The zones follow a link -/

theorem onLink_kept (x : Link) (r : Zone) : (r.onLink x).copy = r.copy ∧ (r.onLink x).decode = r.decode ∧
    (r.onLink x).mutes.decode = r.mutes.decode ∧ (r.onLink x).mutes.tuning = r.mutes.tuning ∧
    (r.onLink x).power = r.power ∧ (r.bare → (r.onLink x).bare) := by
  rw [Zone.onLink_eq]
  exact ⟨rfl, rfl, rfl, rfl, rfl, id⟩

/-- A zone's turn at the announcement of its link up to a rebind cause: it has the mute reasons of the link as it stands (R71). -/
theorem onLink_home {P : Prop} {l : LinkId} {s : State} {z : ZoneId} (link : (s.zones.get z).link = some l)
    (h : Home P s z False True True) : Home P (s.autoZone z (Zone.onLink (s.links.get l))) z True True True := by
  obtain ⟨o, record⟩ := autoZone_record s z (Zone.onLink (s.links.get l))
  obtain ⟨copy, decode, -, tuning, power, bare⟩ := onLink_kept (s.links.get l) (s.zones.get z)
  have links : (s.autoZone z (Zone.onLink (s.links.get l))).links = s.links := rfl
  have tuner : (s.autoZone z (Zone.onLink (s.links.get l))).tuner = s.tuner := rfl
  have noSignal : ((s.zones.get z).onLink (s.links.get l)).mutes.noSignal = decide ((s.links.get l).state ≠ .locked) := by
    rw [Zone.onLink_eq]
    rfl
  have format : ((s.zones.get z).onLink (s.links.get l)).mutes.format = (s.links.get l).unplayable := by
    rw [Zone.onLink_eq]
    exact linkMutes_format _ _
  generalize s.autoZone z (Zone.onLink (s.links.get l)) = t at record links tuner ⊢
  generalize (s.zones.get z).onLink (s.links.get l) = r at *
  have copy' : (t.zones.get z).copy = (s.zones.get z).copy := by rw [record]; exact copy
  have decode' : (t.zones.get z).decode = (s.zones.get z).decode := by rw [record]; exact decode
  have tuning' : (t.zones.get z).mutes.tuning = (s.zones.get z).mutes.tuning := by rw [record]; exact tuning
  have link' : (t.zones.get z).link = some l := by rw [Zone.link, copy', ← Zone.link, link]
  have power' : (t.zones.get z).power = (s.zones.get z).power := by rw [record]; exact power
  have off : (s.zones.get z).power.isBound ≠ false := fun e => nomatch (h.rest.unlinked e).symm.trans link
  refine ⟨fun e => absurd (power' ▸ e) off, fun _ => ⟨fun e => (nomatch e.symm.trans link'), fun k e => ?_⟩, fun _ hP => ?_,
    fun _ => ⟨fun e => (nomatch e.symm.trans link'), fun k e => ?_⟩⟩
  · have same : l = k := Option.some.inj (link'.symm.trans e)
    subst same
    rw [links, record]
    exact ⟨noSignal, format⟩
  · have before := h.placed trivial hP
    unfold State.placed at before ⊢
    rw [decode', link', linkNeedsDecode_links links, ← link]
    exact before
  · rw [tuning', tuner]
    exact (h.tuned trivial).2 k (link.trans (link'.symm.trans e))

theorem onLink_turned {P : Prop} {s : State} (h : s.seats.Lawful P none) (z : ZoneId) (x : Link) :
    Turned P z s (s.autoZone z (Zone.onLink x)) := by
  obtain ⟨copy, decode, muted, -⟩ := onLink_kept x (s.zones.get z)
  have link : ((s.zones.get z).onLink x).link = (s.zones.get z).link := by rw [Zone.link, copy, Zone.link]
  exact ⟨(autoZone_seats_same s z decode link muted).symm ▸ h, fun y ne =>
    stays_of_zone (sameSight_of_fields rfl rfl) (State.autoZone_get_of_ne s _ (Ne.symm ne))⟩

theorem zoneOnLink_turned {P : Prop} {s : State} (h : s.seats.Lawful P none) (l : LinkId) (z : ZoneId) :
    Turned P z s (zoneOnLink l s z) := by
  by_cases link : (s.zones.get z).link = some l
  · have told := onLink_turned h z (s.links.get l)
    rw [zoneOnLink_on link]
    split
    · have caused := rebindCause_turned told.lawful z
      exact ⟨caused.lawful, fun y ne => (told.others y ne).trans (caused.others y ne)⟩
    · exact told
  · rw [zoneOnLink_of_ne link]
    exact ⟨h, fun y _ => .refl y s⟩

theorem zoneOnLink_turn {P : Prop} {l : LinkId} {s : State} {z : ZoneId} (lawful : s.seats.Lawful P none)
    (h : Home P s z ((s.zones.get z).link ≠ some l) True True) : Home P (zoneOnLink l s z) z True True True := by
  by_cases link : (s.zones.get z).link = some l
  · have told := onLink_home link ⟨h.rest, fun e => e.elim, h.placed, h.tuned⟩
    rw [zoneOnLink_on link]
    split
    · exact told.rebindCause (onLink_turned lawful z _).lawful
    · exact told
  · rw [zoneOnLink_of_ne link]
    exact ⟨h.rest, fun _ => h.told link, h.placed, h.tuned⟩

theorem zonesOnLink_inv {P : Prop} {l : LinkId} {s : State} (h : Placed P l s) : Inv P (s.forEach zoneIds (zoneOnLink l)) := by
  obtain ⟨lawful, home⟩ := zones_loop (P := P) (x := none) (op := zoneOnLink l)
    (Q := fun s z => Home P s z ((s.zones.get z).link ≠ some l) True True) (Q' := fun s z => Home P s z True True True)
    (fun s t z k i => by rw [k.record.link]; exact i.of_stays k) (fun s t z k i => i.of_stays k)
    (fun s z i => (zoneOnLink_turned i l z).lawful) (fun s z i => (zoneOnLink_turned i l z).others)
    (fun s z i k => zoneOnLink_turn i k) h.lawful h.home
  exact ⟨lawful, home⟩

/-- The announcement of a format restores the laws (R18, R54, R71). -/
theorem announceFormat_inv {P : Prop} {l : LinkId} {s : State} (h : Untold P l s) : Inv P (announceFormat s l) :=
  zonesOnLink_inv (arbiterLink_placed h)

/-- The announcement of a link's state likewise, the monitor having followed the link (R18, R30). -/
theorem announceState_inv {P : Prop} {l : LinkId} {s : State} (h : Untold P l s) : Inv P (announceState s l) := by
  refine announceFormat_inv (s := monitorOnLink s l) (h.of_reseats ?_)
  rw [monitorOnLink_eq]
  exact (sense_calm s l _).reseats

end Sys2Proof.Machine
end

section
/-! Monitors, link receivers and the tuner keep the laws of the decode units and the zones (R10 to R18, R34, R35, R72). -/

namespace Sys2Proof.Machine

/-! ## Monitors -/

/-- MAIN takes an auto-on offer in STANDBY alone (R35). -/
theorem offerAutoOn_keeps (s : State) (l : LinkId) : Keeps s (offerAutoOn s l) := by
  unfold offerAutoOn
  split
  next power =>
    split
    next i _ =>
      have selects : Calm s (s.updZone 0 fun r => { r with selected := some i }) := updZone_calm s 0 _
      have standby := (selects.stays 0).record.bound.trans (show (s.zones.get 0).power.isBound = false by rw [power]; rfl)
      exact (selects.keeps.trans fun P h => powerUpZone_inv h standby).trans
        ((zoneOrigin_calm _ 0 .auto).trans (raise_calm _ .signal)).keeps
    · exact .refl s
  · exact .refl s

theorem setMonitor_keeps (s : State) (l : LinkId) (m : Monitor) : Keeps s (setMonitor s l m) := by
  rw [setMonitor_eq]
  exact .ite ((sense_calm s l m).keeps.trans (offerAutoOn_keeps _ l)) (sense_calm s l m).keeps

theorem monitorFrame_keeps (s : State) (l : LinkId) (first last loud : Bool) : Keeps s (monitorFrame s l first last loud) := by
  rw [monitorFrame_eq]
  exact setMonitor_keeps s l _

theorem monitorBlock_keeps (s : State) (l : LinkId) (loud : Bool) : Keeps s (monitorBlock s l loud) := by
  rw [monitorBlock_eq]
  exact setMonitor_keeps s l _

theorem quietExpiry_keeps (s : State) (l : LinkId) : Keeps s (quietExpiry s l) := .ite (setMonitor_keeps s l _) (.refl s)

theorem monitorReached_keeps (s : State) (l : LinkId) : Keeps s (monitorReached s l) := .ite (setMonitor_keeps s l _) (.refl s)

/-! ## Links -/

/-- A link's record is written, and what the zones and the arbiter see of it stands. -/
theorem updLink_calm_at {s : State} {l : LinkId} {f : Link → Link} (h : (f (s.links.get l)).sight = (s.links.get l).sight) :
    Calm s (s.updLink l f) := putLink_calm h

/-- A link in none of the states that carry is seen by its last good descriptor alone. -/
theorem sight_of_silent {x y : Link} (before : x.state.carries = false) (after : y.state.carries = false)
    (lastGood : y.lastGood = x.lastGood) : y.sight = x.sight := by
  have off {z : Link} (h : z.state.carries = false) : z.state ≠ .locked := fun e => by
    rw [e] at h
    cases h
  simp only [Link.sight, lastGood, before, after, off before, off after]

theorem sight_of_recover {x y : Link} (before : x.state.isRecover = true) (after : y.state.isRecover = true)
    (lastGood : y.lastGood = x.lastGood) : y.sight = x.sight := by
  have off {z : Link} (h : z.state.isRecover = true) : z.state ≠ .locked ∧ z.state.carries = true :=
    ⟨fun e => (nomatch (congrArg LinkState.isRecover e).symm.trans h), by simp [LinkState.carries, h]⟩
  simp only [Link.sight, lastGood, (off before).2, (off after).2, (off before).1, (off after).1]

/-- A link that takes another state announces it (R18). -/
theorem announced_keeps (s : State) (l : LinkId) (f : Link → Link) : Keeps s (announceState (s.updLink l f) l) :=
  fun _ h => announceState_inv ((h.untold l).updLink f)

theorem enterMeasure_keeps (s : State) (l : LinkId) : Keeps s (enterMeasure s l) := announced_keeps s l _

theorem enterRecover_keeps (s : State) (l : LinkId) : Keeps s (enterRecover s l) := by
  intro P h
  have silenced (t : State) (k : Untold P l t) : Inv P (announceState (match servingUnit t l with
      | some u => unitSilent t u false
      | none => t) l) := by
    split
    · exact announceState_inv (k.of_reseats (unitSilent_reseats t _ _))
    · exact announceState_inv k
  exact silenced _ ((h.untold l).updLink _)

theorem unitDelivers_reseats (s : State) (l : LinkId) : Reseats s (unitDelivers s l) := by
  unfold unitDelivers
  split
  · exact unitFrame_reseats s _
  · exact .refl s

theorem recoverZero_reseats (s : State) (l : LinkId) : Reseats s (recoverZero s l) :=
  .ite (unitDelivers_reseats s l) (frameToZones_calm s l _).reseats

theorem deliverFrame_keeps (s : State) (l : LinkId) : Keeps s (deliverFrame s l) := by
  unfold deliverFrame
  dsimp only
  split
  · exact .refl s
  · split
    · exact (updLink_calm s l _).keeps
    · exact ((updLink_calm s l _).trans (frameToZones_calm _ l _)).keeps.trans (monitorFrame_keeps _ l _ _ _)

/-- The unit that serves a link takes a block of it, if there is one. -/
theorem servingTakes_reseats (s : State) (l : LinkId) (d : Descriptor) (fs : List MantissaFrame) :
    Reseats s (match servingUnit s l with
      | some u => unitTakesBlock s u l d fs
      | none => s) := by
  split
  · exact unitTakesBlock_reseats s _ l d fs
  · exact .refl s

/-- A good block is released: the laws that stand when its descriptor is adopted, `M`, are those that its announcement needs. -/
theorem releaseGood_inv {P : Prop} {M : State → Prop} {s : State} {l : LinkId} {d : Descriptor} (fs : List RawFrame)
    {announce : State → State} (reseats : ∀ s t, Reseats s t → M s → M t) (announced : ∀ t, M t → Inv P (announce t))
    (adopted : ∀ f : Link → Link, (∀ r, (f r).state = r.state ∧ (f r).lastGood = some d) → M (s.updLink l f)) :
    Inv P (releaseGood s l d fs announce) := by
  unfold releaseGood
  dsimp only
  split
  · exact monitorBlock_keeps _ l _ P (announced _ (reseats _ _ (servingTakes_reseats _ l d _) (adopted _ (by exact fun _ => ⟨rfl, rfl⟩))))
  · exact (announced _ (adopted _ (by exact fun _ => ⟨rfl, rfl⟩))).of_calm (updLink_calm _ l _)

/-- The entry to LOCKED is announced when the block's descriptor has been adopted and the serving unit has taken the block (R9). -/
theorem enterLocked_keeps (s : State) (l : LinkId) (d : Descriptor) (fs : List RawFrame) : Keeps s (enterLocked s l d fs) :=
  fun P h => releaseGood_inv (M := Untold P l) fs (fun _ _ k i => i.of_reseats k) (fun _ => announceState_inv)
    fun f _ => ((h.untold l).updLink _).updLink f

theorem releaseBad_keeps (s : State) (l : LinkId) (fs : List RawFrame) : Keeps s (releaseBad s l fs) := by
  unfold releaseBad
  split
  · exact .refl s
  · split
    · refine Keeps.trans ?_ (monitorBlock_keeps _ l _)
      split
      · exact (unitSilent_reseats s _ _).keeps
      · exact .refl s
    · exact (updLink_calm s l _).keeps

/-- A block with a good descriptor in LOCKED: a change of its format is announced, and without one the zones see the link as it
was (R9, R18). -/
theorem goodBlock_keeps {s : State} {l : LinkId} {d : Descriptor} (fs : List RawFrame) {old : Option Descriptor}
    (same : (s.links.get l).lastGood = old) :
    Keeps s (releaseGood s l d fs fun s => if old.map (·.format) = some d.format then s else announceFormat s l) := by
  intro P h
  by_cases format : old.map (·.format) = some d.format
  · simp only [if_pos format]
    refine releaseGood_inv (M := Inv P) fs (fun _ _ k => k.keeps P) (fun _ => id) fun f kept => h.of_calm (updLink_calm_at ?_)
    obtain ⟨state, lastGood⟩ := kept (s.links.get l)
    simp only [Link.sight, state, lastGood, same, format, Option.map_some]
  · simp only [if_neg format]
    exact releaseGood_inv (M := Untold P l) fs (fun _ _ k i => i.of_reseats k) (fun _ => announceFormat_inv)
      fun f _ => (h.untold l).updLink f

theorem countSequence_kept (d : Descriptor) (r : Link) : (r.countSequence d).sight = r.sight ∧
    (r.countSequence d).lastGood = r.lastGood := by
  unfold Link.countSequence
  split <;> exact ⟨rfl, rfl⟩

theorem lockedBlockEnd_keeps (s : State) (l : LinkId) : Keeps s (lockedBlockEnd s l) := by
  unfold lockedBlockEnd
  dsimp only
  split
  next d _ =>
    have counted : Calm s (s.updLink l fun r => r.countSequence d) := updLink_calm s l _ fun r => (countSequence_kept d r).1
    have lastGood : ((s.updLink l fun r => r.countSequence d).links.get l).lastGood = (s.links.get l).lastGood := by
      rw [State.updLink_get_self]
      exact (countSequence_kept d _).2
    exact counted.keeps.trans (.ite (enterMeasure_keeps _ l) (goodBlock_keeps _ lastGood))
  · exact (updLink_calm s l _).keeps.trans (.ite (enterMeasure_keeps _ l) (.ite (enterRecover_keeps _ l) (releaseBad_keeps _ l _)))

theorem recoverZero_link (s : State) (l : LinkId) : (recoverZero s l).links = s.links := by
  have unit : (unitDelivers s l).links = s.links := by
    unfold unitDelivers
    split
    · exact (unitFrame_passes s _).1.1
    · rfl
  unfold recoverZero
  split
  · exact unit
  · exact (frameToZones_passes s l _).1.1

theorem recoverFrame_keeps {s : State} {l : LinkId} (recovers : (s.links.get l).state.isRecover = true) (f : LinkFrame) :
    Keeps s (recoverFrame s l f) := by
  have zero := (recoverZero_reseats s l).keeps
  have state : ((recoverZero s l).links.get l).state.isRecover = true := by rw [recoverZero_link]; exact recovers
  unfold recoverFrame
  generalize recoverZero s l = t at zero state ⊢
  dsimp only
  have joined : Calm t (t.updLink l fun r => r.readFrame f) := updLink_calm t l _
  refine zero.trans (.ite (.ite (updLink_calm_at (sight_of_recover state rfl rfl)).keeps (.refl t))
    (.ite (.ite (updLink_calm t l _).keeps (updLink_calm_at (sight_of_recover state rfl rfl)).keeps)
      (.ite (updLink_calm t l _).keeps ?_)))
  split
  · split
    · exact joined.keeps.trans (enterLocked_keeps _ l _ _)
    · exact joined.keeps.trans (updLink_calm _ l _).keeps
  · exact joined.keeps

theorem lockedFrame_keeps (s : State) (l : LinkId) (f : LinkFrame) : Keeps s (lockedFrame s l f) := by
  have arrived (t : State) : Calm t (t.updLink l fun r => (if f.wellFormed then r else r.countCode 1).readFrame f) :=
    updLink_calm t l _ fun r => by split <;> rfl
  unfold lockedFrame
  dsimp only
  exact .ite ((enterRecover_keeps s l).trans (recoverZero_reseats _ l).keeps) (.trans (((deliverFrame_keeps s l).trans
    (unitDelivers_reseats _ l).keeps).trans (arrived _).keeps) (.ite (lockedBlockEnd_keeps _ l) (.refl _)))

theorem carries_of_align {st : LinkState} (h : st.isAlign = true) : st.carries = false := by
  revert h
  cases st <;> decide

theorem alignFrame_keeps {s : State} {l : LinkId} (aligns : (s.links.get l).state.isAlign = true) (f : LinkFrame) :
    Keeps s (alignFrame s l f) := by
  have silent := carries_of_align aligns
  unfold alignFrame
  dsimp only
  refine .ite (.ite (updLink_calm_at (sight_of_silent silent rfl rfl)).keeps (.refl s))
    (.ite (.ite ?_ (updLink_calm_at (sight_of_silent silent rfl rfl)).keeps)
      (.ite (updLink_calm s l _).keeps (updLink_calm s l _).keeps))
  split
  · exact .ite ((enterLocked_keeps s l _ _).trans (lockedFrame_keeps _ l f)) (updLink_calm s l _).keeps
  · exact (updLink_calm s l _).keeps

theorem carries_of_measure {st : LinkState} (h : st.isMeasure = true) : st.carries = false := by
  revert h
  cases st <;> decide

theorem closeMeasurement_keeps {s : State} {l : LinkId} (measures : (s.links.get l).state.isMeasure = true) (ticks : Nat)
    (wf : Bool) : Keeps s (closeMeasurement s l ticks wf) := by
  unfold closeMeasurement
  split
  · exact announced_keeps s l _
  · exact (updLink_calm_at (sight_of_silent (carries_of_measure measures) rfl rfl)).keeps

theorem measureFrame_keeps {s : State} {l : LinkId} (measures : (s.links.get l).state.isMeasure = true) (f : LinkFrame) :
    Keeps s (measureFrame s l f) := by
  unfold measureFrame
  split
  · exact (updLink_calm s l _).keeps
  · exact .ite (closeMeasurement_keeps measures _ _) (updLink_calm s l _).keeps

theorem detectFrame_keeps (s : State) (l : LinkId) : Keeps s (detectFrame s l) := by
  unfold detectFrame
  dsimp only
  split
  next quiet => exact (updLink_calm_at (sight_of_silent (by rw [quiet]; rfl) rfl rfl)).keeps
  · exact .ite (enterMeasure_keeps s l) (updLink_calm s l _).keeps

theorem restartLoss_calm (s : State) (l : LinkId) : Calm s (restartLoss s l) := updLink_calm s l _

theorem restartLoss_state (s : State) (l : LinkId) : ((restartLoss s l).links.get l).state = (s.links.get l).state := by
  unfold restartLoss
  rw [State.updLink_get_self]

theorem linkFrame_keeps (s : State) (l : LinkId) (f : LinkFrame) : Keeps s (linkFrame s l f) := by
  have loss := (restartLoss_calm s l).keeps
  have kept := restartLoss_state s l
  unfold linkFrame
  split
  · exact .refl s
  · exact loss.trans (detectFrame_keeps _ l)
  · exact loss.trans (detectFrame_keeps _ l)
  next state => exact loss.trans (measureFrame_keeps (by rw [kept, state]; rfl) f)
  next state => exact loss.trans (measureFrame_keeps (by rw [kept, state]; rfl) f)
  next state => exact loss.trans (alignFrame_keeps (by rw [kept, state]; rfl) f)
  next state => exact loss.trans (alignFrame_keeps (by rw [kept, state]; rfl) f)
  · exact loss.trans (lockedFrame_keeps _ l f)
  next state => exact loss.trans (recoverFrame_keeps (by rw [kept, state]; rfl) f)
  next state => exact loss.trans (recoverFrame_keeps (by rw [kept, state]; rfl) f)

theorem lossOfSignal_keeps (s : State) (l : LinkId) : Keeps s (lossOfSignal s l) := .ite (announced_keeps s l _) (.refl s)

theorem detectReached_keeps (s : State) (l : LinkId) : Keeps s (detectReached s l) :=
  .ite ((restartLoss_calm s l).keeps.trans (enterMeasure_keeps _ l)) (.refl s)

theorem measurementEnds_keeps (s : State) (l : LinkId) (ticks : Nat) (wf : Bool) : Keeps s (measurementEnds s l ticks wf) := by
  unfold measurementEnds
  split
  next measures =>
    exact (restartLoss_calm s l).keeps.trans (closeMeasurement_keeps (by rw [restartLoss_state]; exact measures) ticks wf)
  · exact .refl s

theorem endBlock_keeps (s : State) (l : LinkId) (f : LinkFrame) : Keeps s (endBlock s l f) :=
  .ite (linkFrame_keeps s l f) (.refl s)

theorem endErrorRun_keeps (s : State) (l : LinkId) (f : LinkFrame) : Keeps s (endErrorRun s l f) :=
  .ite (.ite (linkFrame_keeps s l f) (.refl s)) (.refl s)

theorem alignmentExpiry_keeps (s : State) (l : LinkId) : Keeps s (alignmentExpiry s l) := .ite (enterMeasure_keeps s l) (.refl s)

theorem recoveryExpiry_keeps (s : State) (l : LinkId) : Keeps s (recoveryExpiry s l) := .ite (enterMeasure_keeps s l) (.refl s)

theorem enableLink_keeps (s : State) (l : LinkId) : Keeps s (enableLink s l) :=
  .ite (announced_keeps s l _) (updLink_calm s l _).keeps

theorem disableLink_keeps (s : State) (l : LinkId) : Keeps s (disableLink s l) :=
  .ite (updLink_calm s l _).keeps (announced_keeps s l _)

theorem writeSource_keeps (s : State) (i : SrcId) (e : SourceEntry) : Keeps s (writeSource s i e) :=
  (putSource_calm s i e).keeps.trans (.forEach _ (zoneOnEdit_keeps i) _ _)

theorem takeSnapshot_calm (s : State) : Calm s (takeSnapshot s) := by
  unfold takeSnapshot
  split
  · exact (Calm.forEach _ (by exact fun t l => updLink_calm t l _) linkIds s).trans
      (calm_of_fields (sameSight_of_fields rfl rfl) rfl rfl rfl rfl)
  · exact .refl s

/-! ## Tuner -/

/-- A zone's turn at an announcement of the tuner: TUNING is as the tuner stands (R72). -/
theorem zoneOnTuner_home {P : Prop} {locked : Bool} {s : State} {z : ZoneId} (tuner : s.tuner.state = .locked ↔ locked = true)
    (h : Home P s z True True ((s.zones.get z).link ≠ some 8)) : Home P (zoneOnTuner locked s z) z True True True := by
  unfold zoneOnTuner
  split
  next link =>
    obtain ⟨o, record⟩ := autoZone_record s z fun r => { r with mutes := { r.mutes with tuning := !locked } }
    have fields : (s.autoZone z fun r => { r with mutes := { r.mutes with tuning := !locked } }).links = s.links ∧
        (s.autoZone z fun r => { r with mutes := { r.mutes with tuning := !locked } }).tuner = s.tuner := ⟨rfl, rfl⟩
    generalize (s.autoZone z fun r => { r with mutes := { r.mutes with tuning := !locked } }) = t at record fields ⊢
    obtain ⟨links, same⟩ := fields
    have link' : (t.zones.get z).link = (s.zones.get z).link := by rw [record]; rfl
    have decode : (t.zones.get z).decode = (s.zones.get z).decode := by rw [record]
    have told : (t.zones.get z).mutes.noSignal = (s.zones.get z).mutes.noSignal ∧
        (t.zones.get z).mutes.format = (s.zones.get z).mutes.format := by rw [record]; exact ⟨rfl, rfl⟩
    obtain ⟨rest, signals, placed, -⟩ := h
    refine ⟨by rw [record]; exact rest, fun _ => ?_, fun _ hP => ?_, fun _ => ⟨fun e => ?_, fun k e => ?_⟩⟩
    · have before := signals trivial
      unfold State.signals at before ⊢
      rw [link', told.1, told.2, links]
      exact before
    · have before := placed trivial hP
      unfold State.placed at before ⊢
      rw [link', decode, linkNeedsDecode_links links]
      exact before
    · exact nomatch (link'.symm.trans e).symm.trans link
    · have eight : k = 8 := Option.some.inj ((link'.symm.trans e).symm.trans link)
      rw [record, same]
      show (!locked) = _
      cases locked <;> simp [eight, tuner]
  next off => exact ⟨h.rest, h.told, h.placed, fun _ => h.tuned off⟩

theorem zoneOnTuner_turned {P : Prop} {s : State} (h : s.seats.Lawful P none) (locked : Bool) (z : ZoneId) :
    Turned P z s (zoneOnTuner locked s z) := by
  unfold zoneOnTuner
  split
  · exact ⟨(autoZone_seats_same s z (f := fun r => { r with mutes := { r.mutes with tuning := !locked } }) rfl rfl rfl).symm ▸ h,
      fun y ne => stays_of_zone (sameSight_of_fields rfl rfl) (State.autoZone_get_of_ne s _ (Ne.symm ne))⟩
  · exact ⟨h, fun y _ => .refl y s⟩

/-- The tuner's record is written, and an entry to LOCKED or a departure from it is announced to the zones bound to TL (R72, R176). -/
theorem setTuner_keeps (s : State) (x : Tuner) : Keeps s (setTuner s x) := by
  unfold setTuner
  dsimp only
  split
  next same => exact (putTuner_calm (propext (decide_eq_decide.mp same.symm))).keeps
  · intro P h
    have told (z : ZoneId) : Home P (s.putTuner x) z True True (((s.putTuner x).zones.get z).link ≠ some 8) := by
      refine ⟨(h.home z).rest, (h.home z).told, (h.home z).placed, fun off => ?_⟩
      obtain ⟨none, some_⟩ := (h.home z).tuned trivial
      refine ⟨none, fun l e => (some_ l e).trans ?_⟩
      have other : l ≠ 8 := fun eight => off (eight ▸ e)
      simp [other]
    obtain ⟨lawful, home⟩ := zones_loop (P := P) (x := none) (op := zoneOnTuner (decide (x.state = .locked)))
      (Q := fun t z => (t.tuner.state = .locked ↔ decide (x.state = .locked) = true) ∧
        Home P t z True True ((t.zones.get z).link ≠ some 8)) (Q' := fun t z => Home P t z True True True)
      (fun s t z k i => ⟨by rw [k.sight.tuner]; exact i.1, by rw [k.record.link]; exact i.2.of_stays k⟩)
      (fun s t z k i => i.of_stays k) (fun s z i => (zoneOnTuner_turned i _ z).lawful)
      (fun s z i => (zoneOnTuner_turned i _ z).others) (fun s z _ i => zoneOnTuner_home i.1 i.2)
      (s := s.putTuner x) h.lawful fun z => ⟨decide_eq_true_iff.symm, told z⟩
    exact ⟨lawful, home⟩

theorem endGate_keeps (s : State) (lo : Option Int) : Keeps s (endGate s lo) := .ite (setTuner_keeps s _) (.refl s)

theorem abandonGate_keeps (s : State) : Keeps s (abandonGate s) := .ite (endGate_keeps s none) (.refl s)

theorem freqEdge_keeps (s : State) (ticks : Nat) : Keeps s (freqEdge s ticks) := by
  unfold freqEdge
  split
  · exact (putTuner_calm (by exact rfl)).keeps
  · exact .ite (endGate_keeps s _) (putTuner_calm (by exact rfl)).keeps
  · exact .refl s

theorem transferDac_calm (s : State) : Calm s (transferDac s) :=
  (takeSnapshot_calm s).trans (calm_of_fields ⟨fun _ => rfl, rfl⟩ rfl rfl rfl rfl)

theorem settleExpiry_calm (s : State) : Calm s (settleExpiry s) := by
  unfold settleExpiry
  split
  · exact .ite (putTuner_calm (by exact rfl)) (.refl s)
  · exact .refl s

theorem afcExpiry_calm (s : State) : Calm s (afcExpiry s) := .ite (putTuner_calm (by exact rfl)) (.refl s)

theorem scanFound_keeps (s : State) (x : Tuner) (level : Nat) : Keeps s (scanFound s x level) := by
  unfold scanFound
  exact .ite (setTuner_keeps s _) (.ite (setTuner_keeps s _) ((setTuner_keeps s _).trans (raise_calm _ _).keeps))

theorem testVerdict_keeps (s : State) (x : Tuner) (readings : List (Nat × Bool)) (level : Nat) :
    Keeps s (testVerdict s x readings level) := by
  unfold testVerdict
  exact .ite (.ite (scanFound_keeps s x level) (setTuner_keeps s _)) (setTuner_keeps s _)

theorem takeReading_keeps (s : State) {x : Tuner} (level : Nat) (pilot : Bool) (h : x.state = s.tuner.state) :
    Keeps s (takeReading s x level pilot) := by
  have read {y : Tuner} (e : y.state = x.state) : Calm s (s.putTuner y) := putTuner_calm (by rw [e, h])
  unfold takeReading
  dsimp only
  split
  · exact .ite (testVerdict_keeps s _ _ level) (read (by exact rfl)).keeps
  · exact (read (by exact rfl)).keeps

theorem levelRise_keeps (s : State) (period : Nat) (pilot : Bool) : Keeps s (levelRise s period pilot) := by
  unfold levelRise
  split
  · exact takeReading_keeps s _ pilot rfl
  · exact (putTuner_calm (by exact rfl)).keeps

theorem levelFall_calm (s : State) (high : Nat) : Calm s (levelFall s high) := putTuner_calm (by exact rfl)

theorem levelTimeout_keeps (s : State) (pilot : Bool) : Keeps s (levelTimeout s pilot) :=
  .ite (takeReading_keeps s _ pilot rfl) (.refl s)

theorem thirdReading_keeps (s : State) (period : Nat) (pilot : Bool) : Keeps s (thirdReading s period pilot) :=
  .ite (levelRise_keeps s period pilot) (.refl s)

theorem panelTune_keeps (s : State) (n : Int) : Keeps s (panelTune s n) := by
  unfold panelTune
  exact .ite (.refl s) (.ite (setTuner_keeps s _) ((setTuner_keeps s _).trans (raise_calm _ _).keeps))

/-! ## Panel encoders -/

theorem panelSource_keeps (s : State) (n : Int) : Keeps s (panelSource s n) := by
  unfold panelSource
  dsimp only
  split
  · split
    · exact .refl s
    · exact .ite (.refl s) (selectSource_keeps s 0 _ _)
  · exact .refl s

theorem handSteps_keeps (s : State) (b : Binding) (n : Int) : Keeps s (handSteps s b n) := by
  cases b with
  | volume z => exact .ite (panelVolume_calm s z n).keeps (.refl s)
  | tune => exact panelTune_keeps s n
  | source => exact panelSource_keeps s n
  | none => exact .refl s

theorem makeDetent_keeps (s : State) (e : EncId) (clockwise : Bool) : Keeps s (makeDetent s e clockwise) :=
  (putEncoder_calm s e _).keeps.trans (handSteps_keeps _ _ _)

theorem takeQuarter_keeps (s : State) (e : EncId) (clockwise : Bool) : Keeps s (takeQuarter s e clockwise) :=
  .ite (makeDetent_keeps s e clockwise) (putEncoder_calm s e _).keeps

theorem lineChange_calm (s : State) (e : EncId) (a b : Bool) : Calm s (lineChange s e a b) :=
  .ite (.refl s) (putEncoder_calm s e _)

theorem filterTakes_keeps (s : State) (e : EncId) : Keeps s (filterTakes s e) := by
  unfold filterTakes
  dsimp only
  split
  · exact (putEncoder_calm s e _).keeps
  · split
    · exact .refl s
    · split
      · exact (putEncoder_calm s e _).keeps.trans (takeQuarter_keeps _ e true)
      · exact (putEncoder_calm s e _).keeps.trans (takeQuarter_keeps _ e false)
      · exact (putEncoder_calm s e _).keeps

theorem filterSettled_keeps (s : State) (e : EncId) : Keeps s (filterSettled s e) := .ite (filterTakes_keeps s e) (.refl s)

end Sys2Proof.Machine
end

section
/-! The requests and the commands keep the laws of the decode units and the zones. -/

namespace Sys2Proof.Machine

/-! ## Transactions -/

/-- A request keeps what its owner's taking keeps, for the ports are not looked at. -/
theorem serveKeeps (s : State) (p : Port) (tag : Byte) (payload : List Byte) (owner : State → Reply)
    (h : ∀ t, Keeps t (owner t).state) : Keeps s (serve s p tag payload owner) := fun P =>
  serve_keeps (Inv P) (fun t q r i => i.of_calm (putPort_calm t q r)) s p tag payload owner fun t => h t P

theorem oneIndex_keeps (n : Nat) (payload : List Byte) (s : State) (f : State → Fin n → Reply)
    (h : ∀ i, Keeps s (f s i).state) : Keeps s (oneIndex n payload s f).state := by
  unfold oneIndex
  split
  · split
    · exact h _
    · exact .refl s
  · exact .refl s

theorem noPayload_keeps (payload : List Byte) (s : State) (f : State → Reply) (h : Keeps s (f s).state) :
    Keeps s (noPayload payload s f).state := by
  unfold noPayload
  split
  · exact h
  · exact .refl s

theorem pollPort_calm (s : State) (p : Port) : Calm s (pollPort s p) := .ite (putPort_calm s p _) (putPort_calm s p _)

theorem fetchPort_calm (s : State) (p : Port) (n : Nat) : Calm s (fetchPort s p n) :=
  .ite (putPort_calm s p _) (putPort_calm s p _)

theorem malformedPort_calm (s : State) (p : Port) (mosi : List Byte) (bits : Nat) : Calm s (malformedPort s p mosi bits) :=
  .ite (.ite (putPort_calm s p _) (putPort_calm s p _)) (.refl s)

theorem selectPort_calm (s : State) (p : Port) : Calm s (selectPort s p) := putPort_calm s p _

theorem reqSetEventMask_keeps (p : Port) (payload : List Byte) (s : State) : Keeps s (reqSetEventMask p payload s).state := by
  unfold reqSetEventMask
  split
  · exact (putPort_calm s p _).keeps
  · exact .refl s

theorem reqReadEvents_keeps (p : Port) (payload : List Byte) (s : State) : Keeps s (reqReadEvents p payload s).state :=
  noPayload_keeps payload s _ (putPort_calm s p _).keeps

theorem reqGetEventMask_keeps (p : Port) (payload : List Byte) (s : State) : Keeps s (reqGetEventMask p payload s).state :=
  noPayload_keeps payload s _ (.refl s)

/-! ## Links, sources, zones -/

theorem reqSetLinkOptions_keeps (payload : List Byte) (s : State) : Keeps s (reqSetLinkOptions payload s).state := by
  unfold reqSetLinkOptions
  split
  · split
    · rw [State.okOrLimited_state]
      exact (updLink_calm s _ _).keeps
    · exact .refl s
  · exact .refl s

theorem clearCounters_calm (s : State) (l : LinkId) :
    Calm s (s.updLink l fun r => { r with counters := clearTotals r.counters }) := updLink_calm s l _

theorem reqSetSource_keeps (payload : List Byte) (s : State) : Keeps s (reqSetSource payload s).state := by
  unfold reqSetSource
  split
  · split
    · exact writeSource_keeps s _ _
    · exact .refl s
  · exact .refl s

theorem clearZoneCounters_calm (s : State) (z : ZoneId) (o : Origin) :
    Calm s ((s.updZone z fun r => { r with repeats := 0, skips := 0, clips := 0 }).zoneOrigin z o) :=
  (updZone_calm s z _).trans (zoneOrigin_calm _ z o)

theorem reqPowerOn_keeps (o : Origin) (payload : List Byte) (s : State) : Keeps s (reqPowerOn o payload s).state :=
  oneIndex_keeps 3 payload s _ fun z => powerOn_keeps s z o

theorem reqPowerOff_keeps (o : Origin) (payload : List Byte) (s : State) : Keeps s (reqPowerOff o payload s).state :=
  oneIndex_keeps 3 payload s _ fun z => powerOff_keeps s z o

theorem reqSelectSource_keeps (o : Origin) (payload : List Byte) (s : State) : Keeps s (reqSelectSource o payload s).state := by
  unfold reqSelectSource
  split
  · split
    · exact selectSource_keeps s _ _ o
    · exact .refl s
  · exact .refl s

theorem reqSetVolume_keeps (o : Origin) (payload : List Byte) (s : State) : Keeps s (reqSetVolume o payload s).state := by
  unfold reqSetVolume
  split
  · split
    · exact (setVolume_calm s _ _ o).keeps
    · exact .refl s
  · exact .refl s

theorem reqStepVolume_keeps (o : Origin) (payload : List Byte) (s : State) : Keeps s (reqStepVolume o payload s).state := by
  unfold reqStepVolume
  split
  · split
    · exact (setVolume_calm s _ _ o).keeps
    · exact .refl s
  · exact .refl s

theorem reqSetMute_keeps (o : Origin) (payload : List Byte) (s : State) : Keeps s (reqSetMute o payload s).state := by
  unfold reqSetMute
  split
  · split
    · exact ((updZone_calm s _ _).trans (zoneOrigin_calm _ _ o)).keeps
    · exact .refl s
  · exact .refl s

theorem reqSetZoneOptions_keeps (o : Origin) (payload : List Byte) (s : State) :
    Keeps s (reqSetZoneOptions o payload s).state := by
  unfold reqSetZoneOptions
  split
  · split
    · exact setZoneOptions_keeps s _ _ o
    · exact .refl s
  · exact .refl s

/-! ## Speakers, modulators, protection, tones -/

theorem raiseZone_calm (s : State) (z : Option ZoneId) : Calm s (raiseZone s z) := by
  cases z
  · exact .refl s
  · exact raise_calm s _

theorem writeSpeaker_calm (s : State) (c : Chan) (e : Speaker) : Calm s (writeSpeaker s c e) := by
  have refresh (t : State) (q : PairId) : Calm t (refreshPair s.speakers t q) := .ite (.refl t) (updPair_calm t q _)
  exact (((putSpeaker_calm s c e).trans (raiseZone_calm _ _)).trans (raiseZone_calm _ _)).trans (refresh _ _)

theorem setSpeaker_keeps (s : State) (c : Chan) (q : SpeakerRequest) : Keeps s (setSpeaker s c q).state := by
  unfold setSpeaker
  split
  · exact .refl s
  · split
    · exact .refl s
    · split
      · exact .refl s
      · split
        · exact .refl s
        · exact (writeSpeaker_calm s c _).keeps

theorem reqSetSpeaker_keeps (payload : List Byte) (s : State) : Keeps s (reqSetSpeaker payload s).state := by
  unfold reqSetSpeaker
  split
  · split
    · exact setSpeaker_keeps s _ _
    · exact .refl s
  · exact .refl s

theorem reqSetModulator_keeps (payload : List Byte) (s : State) : Keeps s (reqSetModulator payload s).state := by
  unfold reqSetModulator
  split
  · split
    · split
      · exact ((updZone_calm s _ _).trans (raise_calm _ _)).keeps
      · exact .refl s
    · exact .refl s
  · exact .refl s

theorem reqSetProtection_keeps (payload : List Byte) (s : State) : Keeps s (reqSetProtection payload s).state := by
  unfold reqSetProtection
  split
  · split
    · exact ((updPair_calm s _ _).trans (raise_calm _ _)).keeps
    · exact .refl s
  · exact .refl s

theorem clearProtection_calm (s : State) (q : PairId) : Calm s (clearProtection s q) := .ite (probePair_calm s q) (.refl s)

theorem faultCountTrip_calm (s : State) (q : PairId) : Calm s (faultCountTrip s q) := .ite (faultTrip_calm s q) (.refl s)

theorem dcExpiry_calm (s : State) (c : Chan) : Calm s (dcExpiry s c) := by
  unfold dcExpiry
  split
  · exact .ite ((updChannel_calm s c _).trans (offerTrip_calm _ _ _)) (.refl s)
  · exact .refl s

theorem retryExpiry_calm (s : State) (q : PairId) : Calm s (retryExpiry s q) := .ite (probePair_calm s q) (.refl s)

theorem probeExpiry_calm (s : State) (q : PairId) : Calm s (probeExpiry s q) := .ite (updPair_calm s q _) (.refl s)

theorem seeFlt_calm (s : State) (flt : Vector Bool 6) : Calm s (seeFlt s flt) := .forEach _ (fun t q => updPair_calm t q _) _ s

theorem reqToneStart_keeps (o : Origin) (payload : List Byte) (s : State) : Keeps s (reqToneStart o payload s).state := by
  unfold reqToneStart
  split
  · split
    · split
      · exact .refl s
      · exact (((updZone_calm s _ _).trans (zoneOrigin_calm _ _ o)).trans (raise_calm _ _)).keeps
    · exact .refl s
  · exact .refl s

theorem reqToneNext_keeps (o : Origin) (payload : List Byte) (s : State) : Keeps s (reqToneNext o payload s).state := by
  refine oneIndex_keeps 3 payload s _ fun z => ?_
  split
  · exact ((toneStep_calm s z).trans (zoneOrigin_calm _ z o)).keeps
  · exact .refl s

theorem reqToneStop_keeps (o : Origin) (payload : List Byte) (s : State) : Keeps s (reqToneStop o payload s).state := by
  refine oneIndex_keeps 3 payload s _ fun z => ?_
  split
  · exact ((endTone_calm s z).trans (zoneOrigin_calm _ z o)).keeps
  · exact .refl s

theorem dwellExpiry_calm (s : State) (z : ZoneId) : Calm s (dwellExpiry s z) := .ite (toneStep_calm s z) (.refl s)

/-! ## Tuner and encoders -/

theorem reqSetBand_keeps (o : Origin) (payload : List Byte) (s : State) : Keeps s (reqSetBand o payload s).state := by
  unfold reqSetBand
  split
  · split
    · exact .refl s
    · split
      · split
        · exact .refl s
        · exact setTuner_keeps s _
      · exact .refl s
  · exact .refl s

theorem reqLoadCalibration_keeps (o : Origin) (payload : List Byte) (s : State) :
    Keeps s (reqLoadCalibration o payload s).state := by
  unfold reqLoadCalibration
  split
  · split
    · split
      · split
        · exact .refl s
        · exact setTuner_keeps s _
      · exact .refl s
    · exact .refl s
  · exact .refl s

theorem reqGetCalibration_keeps (payload : List Byte) (s : State) : Keeps s (reqGetCalibration payload s).state := by
  unfold reqGetCalibration
  split
  · split <;> exact .refl s
  · exact .refl s

theorem tuneRequest_keeps (s : State) (b : Band) (f : Nat) (op : TunerOp) (o : Origin) :
    Keeps s (tuneRequest s b f op o).state := by
  unfold tuneRequest
  split
  · exact .refl s
  · exact setTuner_keeps s _

theorem reqTune_keeps (o : Origin) (payload : List Byte) (s : State) : Keeps s (reqTune o payload s).state := by
  unfold reqTune
  split
  · split
    · exact tuneRequest_keeps s _ _ _ o
    · exact .refl s
  · exact .refl s

theorem reqSeek_keeps (o : Origin) (payload : List Byte) (s : State) : Keeps s (reqSeek o payload s).state := by
  unfold reqSeek
  split
  · split
    · split
      · exact .refl s
      · exact setTuner_keeps s _
    · exact .refl s
  · exact .refl s

theorem reqScan_keeps (o : Origin) (payload : List Byte) (s : State) : Keeps s (reqScan o payload s).state := by
  refine noPayload_keeps payload s _ ?_
  split
  · exact .refl s
  · exact setTuner_keeps s _

theorem putPresets_calm (s : State) (ps : List Preset) (o : Origin) : Calm s (putPresets s ps o) :=
  (putTuner_calm (by exact rfl)).trans (raise_calm _ _)

theorem reqStorePreset_keeps (o : Origin) (payload : List Byte) (s : State) : Keeps s (reqStorePreset o payload s).state := by
  unfold reqStorePreset
  split
  · dsimp only
    split
    · exact .refl s
    · split
      · exact .refl s
      · split
        · exact .refl s
        · exact (putPresets_calm s _ o).keeps
  · exact .refl s

theorem reqRecallPreset_keeps (o : Origin) (payload : List Byte) (s : State) : Keeps s (reqRecallPreset o payload s).state := by
  unfold reqRecallPreset
  split
  · split
    · exact tuneRequest_keeps s _ _ _ o
    · exact .refl s
  · exact .refl s

theorem reqErasePreset_keeps (o : Origin) (payload : List Byte) (s : State) : Keeps s (reqErasePreset o payload s).state := by
  unfold reqErasePreset
  split
  · split
    · exact (putPresets_calm s _ o).keeps
    · exact .refl s
  · exact .refl s

theorem reqLoadPresets_keeps (o : Origin) (payload : List Byte) (s : State) : Keeps s (reqLoadPresets o payload s).state := by
  unfold reqLoadPresets
  split
  · split
    · split
      · split
        · split
          · exact (putPresets_calm s _ o).keeps
          · exact .refl s
        · exact .refl s
      · exact .refl s
    · exact .refl s
  · exact .refl s

theorem reqSetBinding_keeps (payload : List Byte) (s : State) : Keeps s (reqSetBinding payload s).state := by
  unfold reqSetBinding
  split
  · split
    · exact (putEncoder_calm s _ _).keeps
    · exact .refl s
  · exact .refl s

/-! ## Resets -/

/-- A state in which every unit is FREE, nobody waits, and every zone is as a reset leaves it. -/
theorem inv_of_idle {P : Prop} {s : State} (units : ∀ u, s.units.get u = DecodeUnit.reset) (wait : s.waitList = [])
    (zones : ∀ z, ∃ selected w m, s.zones.get z = Zone.reset selected w m) : Inv P s := by
  have idle (y : ZoneId) : s.seats.pos y = .none := by
    obtain ⟨_, _, _, zone⟩ := zones y
    exact congrArg Zone.decode zone
  have unmuted (y : ZoneId) : s.seats.muted y = false := by
    obtain ⟨_, _, _, zone⟩ := zones y
    exact congrArg (fun r : Zone => r.mutes.decode) zone
  have free (u : UnitId) : s.seats.units.get u = DecodeUnit.reset := units u
  have empty : s.seats.wait = [] := wait
  refine ⟨⟨⟨fun u => ?_, fun y u at_ => (nomatch (idle y).symm.trans at_), empty ▸ List.nodup_nil, fun y => ?_⟩,
    fun y => seated_of_none (idle y) (unmuted y), fun _ => ⟨fun _ _ => empty, fun u busy => ?_, fun u _ _ _ => ?_⟩⟩,
    fun z => .of_released ?_⟩
  · rw [free]
    exact iff_of_true rfl rfl
  · rw [empty, idle]
    simp
  · rw [free] at busy
    exact absurd rfl busy
  · rw [free]
    rfl
  · obtain ⟨_, _, _, zone⟩ := zones z
    rw [zone]
    exact ⟨rfl, rfl, rfl, rfl, rfl, rfl, rfl, rfl, rfl, rfl, rfl, rfl⟩

theorem softReset_inv (P : Prop) (s : State) : Inv P (softReset s) := by
  have units : (softReset s).units = Vector.replicate 2 DecodeUnit.reset := rfl
  have zones : (softReset s).zones = Vector.ofFn fun z => let r := s.zones.get z; Zone.reset r.selected r.resolution r.minPulse := rfl
  refine inv_of_idle (fun u => ?_) rfl fun z => ⟨(s.zones.get z).selected, (s.zones.get z).resolution, (s.zones.get z).minPulse, ?_⟩
  · rw [units]
    simp
  · rw [zones, ofFn_get]

theorem powerOnReset_inv (P : Prop) (s : State) (pins : Pins) : Inv P (powerOnReset s pins) := by
  have units : (powerOnReset s pins).units = Vector.replicate 2 DecodeUnit.reset := rfl
  refine inv_of_idle (fun u => ?_) rfl fun z => ?_
  · rw [units]
    simp
  · fin_cases z
    · exact ⟨some 0, 9, 2, rfl⟩
    · exact ⟨none, 9, 2, rfl⟩
    · exact ⟨none, 9, 2, rfl⟩

/-! ## Every command -/

theorem reqDeviceReset_keeps (payload : List Byte) (s : State) : Keeps s (reqDeviceReset payload s).state := by
  cases payload with
  | nil => exact fun P _ => softReset_inv P s
  | cons b bs => exact .refl s

/-- Every command keeps the laws. -/
theorem exec_inv {c : Instr} {s t : State} (h : exec c s = .next t) : Keeps s t := by
  cases c <;> cases h
  case readEvents p tag y => exact serveKeeps s p tag y _ (reqReadEvents_keeps p y)
  case powerOnReset pins => exact fun P _ => powerOnReset_inv P s pins
  case deviceReset p tag y => exact serveKeeps s p tag y _ (reqDeviceReset_keeps y)
  case poll p => exact (pollPort_calm s p).keeps
  case fetch p n => exact (fetchPort_calm s p n).keeps
  case setEventMask p tag y => exact serveKeeps s p tag y _ (reqSetEventMask_keeps p y)
  case getEventMask p tag y => exact serveKeeps s p tag y _ (reqGetEventMask_keeps p y)
  case unknownCommand p code tag y => exact .ite (.refl s) (serveKeeps s p tag y _ .refl)
  case malformedTransaction p mosi bits => exact (malformedPort_calm s p mosi bits).keeps
  case enableLink p tag y => exact serveKeeps s p tag y _ fun t => oneIndex_keeps 9 y t _ (enableLink_keeps t)
  case disableLink p tag y => exact serveKeeps s p tag y _ fun t => oneIndex_keeps 9 y t _ (disableLink_keeps t)
  case setLinkOptions p tag y => exact serveKeeps s p tag y _ (reqSetLinkOptions_keeps y)
  case getLinkStatus p tag y => exact serveKeeps s p tag y _ fun t => oneIndex_keeps 9 y t _ fun _ => .refl t
  case getLinkCounters p tag y => exact serveKeeps s p tag y _ fun t => oneIndex_keeps 9 y t _ fun _ => .refl t
  case clearCounters p tag y =>
    exact serveKeeps s p tag y _ fun t => oneIndex_keeps 9 y t _ fun l => (clearCounters_calm t l).keeps
  case setSource p tag y => exact serveKeeps s p tag y _ (reqSetSource_keeps y)
  case getSource p tag y => exact serveKeeps s p tag y _ fun t => oneIndex_keeps 16 y t _ fun _ => .refl t
  case getActivity p tag y => exact serveKeeps s p tag y _ fun t => oneIndex_keeps 9 y t _ fun _ => .refl t
  case getDecodeStatus p tag y => exact serveKeeps s p tag y _ fun t => noPayload_keeps y t _ (.refl t)
  case powerOn p tag y => exact serveKeeps s p tag y _ (reqPowerOn_keeps _ y)
  case powerOff p tag y => exact serveKeeps s p tag y _ (reqPowerOff_keeps _ y)
  case selectSource p tag y => exact serveKeeps s p tag y _ (reqSelectSource_keeps _ y)
  case setVolume p tag y => exact serveKeeps s p tag y _ (reqSetVolume_keeps _ y)
  case stepVolume p tag y => exact serveKeeps s p tag y _ (reqStepVolume_keeps _ y)
  case setMute p tag y => exact serveKeeps s p tag y _ (reqSetMute_keeps _ y)
  case setZoneOptions p tag y => exact serveKeeps s p tag y _ (reqSetZoneOptions_keeps _ y)
  case getZoneStatus p tag y => exact serveKeeps s p tag y _ fun t => oneIndex_keeps 3 y t _ fun _ => .refl t
  case clearZoneCounters p tag y =>
    exact serveKeeps s p tag y _ fun t => oneIndex_keeps 3 y t _ fun z => (clearZoneCounters_calm t z _).keeps
  case getMixMatrix p tag y => exact serveKeeps s p tag y _ fun t => oneIndex_keeps 3 y t _ fun _ => .refl t
  case getDelayStatus p tag y => exact serveKeeps s p tag y _ fun t => noPayload_keeps y t _ (.refl t)
  case setSpeaker p tag y => exact serveKeeps s p tag y _ (reqSetSpeaker_keeps y)
  case getSpeaker p tag y => exact serveKeeps s p tag y _ fun t => oneIndex_keeps 12 y t _ fun _ => .refl t
  case setModulator p tag y => exact serveKeeps s p tag y _ (reqSetModulator_keeps y)
  case getModulator p tag y => exact serveKeeps s p tag y _ fun t => oneIndex_keeps 3 y t _ fun _ => .refl t
  case getOutputStatus p tag y => exact serveKeeps s p tag y _ fun t => noPayload_keeps y t _ (.refl t)
  case setProtection p tag y => exact serveKeeps s p tag y _ (reqSetProtection_keeps y)
  case getProtection p tag y => exact serveKeeps s p tag y _ fun t => oneIndex_keeps 6 y t _ fun _ => .refl t
  case clearProtection p tag y => exact serveKeeps s p tag y _ fun t => oneIndex_keeps 6 y t _ fun q => (clearProtection_calm t q).keeps
  case getProtectionStatus p tag y flt =>
    exact serveKeeps s p tag y _ fun t => noPayload_keeps y t _ (seeFlt_calm t flt).keeps
  case toneStart p tag y => exact serveKeeps s p tag y _ (reqToneStart_keeps _ y)
  case toneNext p tag y => exact serveKeeps s p tag y _ (reqToneNext_keeps _ y)
  case toneStop p tag y => exact serveKeeps s p tag y _ (reqToneStop_keeps _ y)
  case setBand p tag y => exact serveKeeps s p tag y _ (reqSetBand_keeps _ y)
  case getBandTable p tag y => exact serveKeeps s p tag y _ fun t => noPayload_keeps y t _ (.refl t)
  case loadCalibration p tag y => exact serveKeeps s p tag y _ (reqLoadCalibration_keeps _ y)
  case getCalibration p tag y => exact serveKeeps s p tag y _ (reqGetCalibration_keeps y)
  case tune p tag y => exact serveKeeps s p tag y _ (reqTune_keeps _ y)
  case seek p tag y => exact serveKeeps s p tag y _ (reqSeek_keeps _ y)
  case scan p tag y => exact serveKeeps s p tag y _ (reqScan_keeps _ y)
  case getTunerStatus p tag y pilot =>
    exact serveKeeps s p tag y _ fun t => noPayload_keeps y t _ (putTuner_calm (by exact rfl)).keeps
  case storePreset p tag y => exact serveKeeps s p tag y _ (reqStorePreset_keeps _ y)
  case recallPreset p tag y => exact serveKeeps s p tag y _ (reqRecallPreset_keeps _ y)
  case erasePreset p tag y => exact serveKeeps s p tag y _ (reqErasePreset_keeps _ y)
  case loadPresets p tag y => exact serveKeeps s p tag y _ (reqLoadPresets_keeps _ y)
  case getPresets p tag y => exact serveKeeps s p tag y _ fun t => noPayload_keeps y t _ (.refl t)
  case setBinding p tag y => exact serveKeeps s p tag y _ (reqSetBinding_keeps y)
  case getEncoderStatus p tag y => exact serveKeeps s p tag y _ fun t => oneIndex_keeps 2 y t _ fun _ => .refl t
  case linkFrame l f => exact linkFrame_keeps s l f
  case detectCountReached l => exact detectReached_keeps s l
  case rateMeasurement l ticks wf => exact measurementEnds_keeps s l ticks wf
  case blockEnd l f => exact endBlock_keeps s l f
  case descriptorErrorRun l f => exact endErrorRun_keeps s l f
  case alignmentTimerExpiry l => exact alignmentExpiry_keeps s l
  case recoveryTimerExpiry l => exact recoveryExpiry_keeps s l
  case lossOfSignal l => exact lossOfSignal_keeps s l
  case counterSnapshot => exact (takeSnapshot_calm s).keeps
  case monitorActive l => exact monitorReached_keeps s l
  case quietTimerExpiry l => exact quietExpiry_keeps s l
  case startTimerExpiry z => exact startExpiry_keeps s z
  case drainTimerExpiry z => exact drainExpiry_keeps s z
  case rampStep z => exact rampStep_keeps s z
  case bufferFilled z x => exact (bufferFills_calm s z x).keeps
  case zoneOutputFrame z => exact outputFrame_keeps s z
  case autoStandbyExpiry z => exact autoStandbyExpiry_keeps s z
  case carrierPeriodBoundary z flt => exact (carrierBoundary_calm s z flt).keeps
  case faultCountTrip q => exact (faultCountTrip_calm s q).keeps
  case dcTimerExpiry c => exact (dcExpiry_calm s c).keeps
  case retryTimerExpiry q => exact (retryExpiry_calm s q).keeps
  case probeWindowExpiry q => exact (probeExpiry_calm s q).keeps
  case dwellTimerExpiry z => exact (dwellExpiry_calm s z).keeps
  case dacTransfer => exact (transferDac_calm s).keeps
  case settleTimeExpiry => exact (settleExpiry_calm s).keeps
  case gateComplete ticks => exact endGate_keeps s _
  case gateAbandoned => exact abandonGate_keeps s
  case afcTimerExpiry => exact (afcExpiry_calm s).keeps
  case levelReading period pilot => exact levelRise_keeps s period pilot
  case levelTimeout pilot => exact levelTimeout_keeps s pilot
  case stationTest period pilot => exact thirdReading_keeps s period pilot
  case encoderLineChange e a b => exact (lineChange_calm s e a b).keeps
  case filterSettled e => exact filterSettled_keeps s e
  case detent e clockwise => exact makeDetent_keeps s e clockwise
  case chipSelectFallingEdge p => exact (selectPort_calm s p).keeps
  case freqRisingEdge ticks => exact freqEdge_keeps s ticks
  case lvlFallingEdge high => exact (levelFall_calm s high).keeps

/-! ## The laws as the statements name them -/

/-- A zone's position and its link's need, as the statement on the arbiter names them. -/
theorem placed_iff (s : State) (z : ZoneId) : s.placed z ↔ ((s.zones.get z).decode ≠ .none ↔ ∃ l, (s.zones.get z).link = some l ∧
    (s.links.get l).state.carries = true ∧ (s.links.get l).lastGood.map (·.format) = some .bsf) := by
  unfold State.placed linkNeedsDecode
  simp only [Bool.and_eq_true, decide_eq_true_eq]

/-- The laws make up what the statements name, the arbiter's own where they are asked for. -/
theorem inv_iff (P : Prop) (s : State) : Inv P s ↔
    (unitsLawful s ∧ waitListLawful s ∧ decodeMutesFollow s ∧ (∀ z, (s.zones.get z).atRest) ∧ linkMutesFollow s) ∧
      (P → arbiterLawful s) := by
  constructor
  · rintro ⟨⟨⟨free, served, nodup, waits⟩, seated, tight⟩, home⟩
    refine ⟨⟨⟨free, fun z u at_ => ⟨served z u at_, (seated z).attached u at_⟩⟩, ⟨nodup, waits⟩,
      fun z => (seated z).muted.trans (decodeMuted_seats s _).symm, fun z => (home z).rest, fun z => ?_⟩, fun hP => ?_⟩
    · obtain ⟨off, on⟩ := (home z).told trivial
      obtain ⟨untuned, tuned⟩ := (home z).tuned trivial
      exact ⟨fun e => ⟨(off e).1, (off e).2, untuned e⟩, fun l e => ⟨(on l e).1, (on l e).2, tuned l e⟩⟩
    · obtain ⟨busy, attended, distinct⟩ := tight hP
      exact ⟨fun z => (placed_iff s z).mp ((home z).placed trivial hP), busy,
        fun z u listed => ((seated z).waiting hP ((waits z).mp listed)).2 u,
        fun u busyNow => (attended u busyNow).resolve_left fun none => busyNow ((free u).mpr none), distinct⟩
  · rintro ⟨⟨⟨free, attached⟩, ⟨nodup, waits⟩, mutes, rest, told⟩, arbiter⟩
    refine ⟨⟨⟨free, fun z u at_ => (attached z u at_).1, nodup, waits⟩, fun z => ⟨⟨fun u at_ => (attached z u at_).2,
      fun hP waiting => ?_⟩, (mutes z).trans (decodeMuted_seats s _)⟩, fun hP => ?_⟩, fun z => ?_⟩
    · obtain ⟨placed, -, unserved, -⟩ := arbiter hP
      have waitsNow : (s.zones.get z).decode = .waiting := waiting
      obtain ⟨l, link, -⟩ := (placed z).mp (by rw [waitsNow]; exact nofun)
      exact ⟨fun none => (nomatch link.symm.trans none), fun u => unserved z u ((waits z).mpr waiting)⟩
    · obtain ⟨-, busy, -, attended, distinct⟩ := arbiter hP
      exact ⟨busy, fun u busyNow => .inr (attended u busyNow), distinct⟩
    · obtain ⟨off, on⟩ := told z
      exact ⟨rest z, fun _ => ⟨fun e => ⟨(off e).1, (off e).2.1⟩, fun l e => ⟨(on l e).1, (on l e).2.1⟩⟩,
        fun _ hP => (placed_iff s z).mpr ((arbiter hP).1 z), fun _ => ⟨fun e => (off e).2.2, fun l e => (on l e).2.2⟩⟩

/-- Settles O57: every command keeps the laws taken together (`Inv`), the arbiter's own being kept for whatever proposition they
are asked under. -/
theorem unitsAndZonesKept : Obligations.UnitsAndZonesKept := by
  intro s t units wait mutes rest told h
  have kept := step_keeps (P := Inv (arbiterLawful s)) (fun c s t e => exec_inv e _)
    (fun u q i => i.of_calm (calm_of_fields (sameSight_of_fields rfl rfl) rfl rfl rfl rfl)) h
    ((inv_iff _ s).mpr ⟨⟨units, wait, mutes, rest, told⟩, id⟩)
  exact (inv_iff _ t).mp kept

end Sys2Proof.Machine
end

section
/-! What a zone holds after a release and after a POWER_OFF taken in ON, and POWER_OFF as a request (R60 to R64, R155). -/

namespace Sys2Proof.Machine

/-! ## The record of a zone that is released -/

theorem zoneOrigin_record (s : State) (z : ZoneId) (o : Origin) :
    (s.zoneOrigin z o).zones.get z = { s.zones.get z with lastChanged := o } := State.updZone_get_self s z _

theorem zoneOrigin_other (s : State) {y z : ZoneId} (ne : y ≠ z) (o : Origin) :
    (s.zoneOrigin z o).zones.get y = s.zones.get y := State.updZone_get_of_ne s _ (Ne.symm ne)

/-- A zone's record after a release, an automatic write `f` and the hand-over of drive mode `m`, `r` being the record that the
arbiter leaves with its position given up. -/
structure Zone.LetGo (f : Zone → Zone) (m : DriveMode) (before r x : Zone) : Prop where
  record : ∃ a o d n, x = { f { r.releaseRecord with lastChanged := a } with
    lastChanged := o, drive := m, driveNow := d, period := n }
  arbiter : r.sansArbiter = before.sansArbiter
  idle : r.decode = .none

/-- A zone that is released, written and handed a drive mode (R63). -/
theorem release_letGo {s : State} {z : ZoneId} (waits : ∀ y, y ∈ s.waitList → (s.zones.get y).decode = .waiting)
    (f : Zone → Zone) (m : DriveMode) :
    ∃ r, Zone.LetGo f m (s.zones.get z) r ((handDrive ((releaseZone s z).autoZone z f) z m).zones.get z) := by
  obtain ⟨r, a, released, arbiter, idle⟩ := releaseZone_record z waits
  obtain ⟨o, written⟩ := autoZone_record (releaseZone s z) z f
  obtain ⟨d, n, handed⟩ := handDrive_record ((releaseZone s z).autoZone z f) z m
  refine ⟨r, ⟨a, o, d, n, ?_⟩, arbiter, idle⟩
  rw [handed, written, released]

theorem released_origin {r : Zone} (h : r.released) (o : Origin) : Zone.released { r with lastChanged := o } := h

/-- What STOPPING.DRAIN holds of a zone as its release found it (R63). -/
structure Zone.Drained (before x : Zone) (now : Millis) : Prop where
  power : x.power = .drain
  qr : x.qr = none
  released : x.released
  drive : x.drive = .centre
  drainTimer : x.drainTimer = some { start := now, len := 50 }
  selected : x.selected = before.selected
  countdown : x.countdown = before.countdown
  tone : x.tone = before.tone

/-- A release at the end of RAMP_DOWN (R63). -/
theorem enterDrain_drained {s : State} {z : ZoneId} (waits : ∀ y, y ∈ s.waitList → (s.zones.get y).decode = .waiting) :
    Zone.Drained (s.zones.get z) ((enterDrain s z).zones.get z) s.ms := by
  obtain ⟨r, ⟨a, o, d, n, record⟩, arbiter, idle⟩ := release_letGo (z := z) waits
    (fun r => { r with power := .drain, qr := none, drainTimer := some (newTimer s.ms 50) }) .centre
  unfold enterDrain
  generalize (handDrive _ z .centre).zones.get z = x at record ⊢
  subst record
  exact ⟨rfl, rfl, ⟨rfl, rfl, rfl, rfl, rfl, rfl, idle, rfl, rfl, rfl, rfl, rfl⟩, rfl, rfl, (congrArg Zone.selected arbiter :),
    (congrArg Zone.countdown arbiter :), (congrArg Zone.tone arbiter :)⟩

/-- A POWER_OFF in STARTING (R61). -/
theorem powerDownStarting_record {s : State} {z : ZoneId} (waits : ∀ y, y ∈ s.waitList → (s.zones.get y).decode = .waiting) :
    ((powerDownStarting s z).zones.get z).power = .standby ∧ ((powerDownStarting s z).zones.get z).released ∧
      ((powerDownStarting s z).zones.get z).qr = none ∧ ((powerDownStarting s z).zones.get z).startTimer = none ∧
      ((powerDownStarting s z).zones.get z).drive = .off := by
  obtain ⟨r, ⟨a, o, d, n, record⟩, -, idle⟩ := release_letGo (z := z) waits
    (fun r => { r with power := .standby, startTimer := none, qr := none }) .off
  unfold powerDownStarting
  generalize (handDrive _ z .off).zones.get z = x at record ⊢
  subst record
  exact ⟨rfl, ⟨rfl, rfl, rfl, rfl, rfl, rfl, idle, rfl, rfl, rfl, rfl, rfl⟩, rfl, rfl, rfl⟩

/-! ## A POWER_OFF in ON -/

/-- A zone that takes a POWER_OFF in ON, before a release (R62, R155). -/
def rampingDown (s : State) (z : ZoneId) : State :=
  (endTone (s.updZone z fun r => { r with countdown := none }) z).autoZone z fun r => { r with power := .rampDown }

theorem powerDownOn_eq (s : State) (z : ZoneId) : powerDownOn s z =
    if ((rampingDown s z).zones.get z).qr = none then enterDrain (rampingDown s z) z else rampingDown s z := rfl

/-- What a zone that ramps down holds: no countdown, no tone, and what it is bound to (R62, R155). -/
structure Zone.RampsDown (before x : Zone) : Prop where
  power : x.power = .rampDown
  countdown : x.countdown = none
  tone : x.tone.running = false
  qr : x.qr = before.qr
  bound : x.bound = before.bound
  decode : x.decode = before.decode

theorem endTone_record (s : State) (z : ZoneId) : ((endTone s z).zones.get z).tone.running = false ∧
    ∃ t m, (endTone s z).zones.get z = { s.zones.get z with tone := t, mutes := m } := by
  unfold endTone
  rw [State.updZone_get_self]
  split
  · exact ⟨rfl, _, _, rfl⟩
  next idle => exact ⟨Bool.eq_false_iff.mpr idle, _, _, rfl⟩

theorem rampingDown_record (s : State) (z : ZoneId) : Zone.RampsDown (s.zones.get z) ((rampingDown s z).zones.get z) := by
  have stopped : (s.updZone z fun r => { r with countdown := none }).zones.get z = { s.zones.get z with countdown := none } :=
    State.updZone_get_self s z _
  unfold rampingDown
  generalize (s.updZone z fun r => { r with countdown := none }) = t at stopped ⊢
  obtain ⟨ended, w, m, tone⟩ := endTone_record t z
  obtain ⟨o, record⟩ := autoZone_record (endTone t z) z fun r => { r with power := .rampDown }
  rw [stopped] at tone
  rw [record]
  refine ⟨rfl, ?_, ended, ?_, ?_, ?_⟩ <;> rw [tone]

theorem rampingDown_other (s : State) {y z : ZoneId} (ne : y ≠ z) : (rampingDown s z).zones.get y = s.zones.get y := by
  unfold rampingDown endTone
  rw [State.autoZone_get_of_ne _ _ (Ne.symm ne), State.updZone_get_of_ne _ _ (Ne.symm ne), State.updZone_get_of_ne _ _ (Ne.symm ne)]

theorem rampingDown_waits {s : State} (z : ZoneId) (waits : ∀ y, y ∈ s.waitList → (s.zones.get y).decode = .waiting) :
    ∀ y, y ∈ (rampingDown s z).waitList → ((rampingDown s z).zones.get y).decode = .waiting := by
  intro y listed
  have listed : y ∈ s.waitList := listed
  by_cases e : y = z
  · rw [e, (rampingDown_record s z).decode]
    exact waits z (e ▸ listed)
  · rw [rampingDown_other s e]
    exact waits y listed

/-- With gain left, the zone ramps down (R62). -/
theorem powerDownOn_ramps {s : State} {z : ZoneId} (loud : (s.zones.get z).qr ≠ none) : powerDownOn s z = rampingDown s z := by
  rw [powerDownOn_eq, if_neg]
  rwa [(rampingDown_record s z).qr]

/-- Without, it is released at once (R62, R63). -/
theorem powerDownOn_drains {s : State} {z : ZoneId} (silent : (s.zones.get z).qr = none) :
    powerDownOn s z = enterDrain (rampingDown s z) z := by
  rw [powerDownOn_eq, if_pos]
  rw [(rampingDown_record s z).qr, silent]

/-! ## POWER_OFF by the power state -/

theorem powerOff_quiet {s : State} {z : ZoneId} {o : Origin}
    (h : (s.zones.get z).power = .standby ∨ (s.zones.get z).power = .rampDown) : powerOff s z o = (s.zoneOrigin z o, false) := by
  unfold powerOff
  rcases h with e | e <;> rw [e]

theorem powerOff_starting {s : State} {z : ZoneId} {o : Origin} (h : (s.zones.get z).power = .starting) :
    powerOff s z o = ((powerDownStarting s z).zoneOrigin z o, false) := by
  unfold powerOff
  rw [h]

theorem powerOff_on {s : State} {z : ZoneId} {o : Origin} (h : (s.zones.get z).power = .on) :
    powerOff s z o = ((powerDownOn s z).zoneOrigin z o, true) := by
  unfold powerOff
  rw [h]

theorem powerOff_drain {s : State} {z : ZoneId} {o : Origin} (h : (s.zones.get z).power = .drain) :
    powerOff s z o = ((s.updZone z fun r => { r with restart := none }).zoneOrigin z o, false) := by
  unfold powerOff
  rw [h]

/-- What a POWER_OFF taken in ON with gain left does (R62). -/
theorem powerOff_ramps {s : State} {z : ZoneId} {o : Origin} (on : (s.zones.get z).power = .on)
    (loud : (s.zones.get z).qr ≠ none) : (powerOff s z o).2 = true ∧
      Zone.RampsDown (s.zones.get z) ((powerOff s z o).1.zones.get z) ∧ ((powerOff s z o).1.zones.get z).lastChanged = o ∧
      ∀ y, y ≠ z → (powerOff s z o).1.zones.get y = s.zones.get y := by
  obtain ⟨power, countdown, tone, qr, bound, decode⟩ := rampingDown_record s z
  rw [powerOff_on on, powerDownOn_ramps loud]
  refine ⟨rfl, ?_, ?_, fun y ne => (zoneOrigin_other _ ne o).trans (rampingDown_other s ne)⟩
  · rw [zoneOrigin_record]
    exact ⟨power, countdown, tone, qr, bound, decode⟩
  · rw [zoneOrigin_record]

/-- What a POWER_OFF taken in ON without gain does (R62, R63). -/
theorem powerOff_drains {s : State} {z : ZoneId} {o : Origin} (on : (s.zones.get z).power = .on)
    (silent : (s.zones.get z).qr = none) (waits : ∀ y, y ∈ s.waitList → (s.zones.get y).decode = .waiting) :
    (powerOff s z o).2 = true ∧ ((powerOff s z o).1.zones.get z).power = .drain ∧
      ((powerOff s z o).1.zones.get z).released ∧ ((powerOff s z o).1.zones.get z).drive = .centre ∧
      ((powerOff s z o).1.zones.get z).drainTimer = some { start := s.ms, len := 50 } ∧
      ((powerOff s z o).1.zones.get z).countdown = none ∧ ((powerOff s z o).1.zones.get z).tone.running = false ∧
      ((powerOff s z o).1.zones.get z).lastChanged = o := by
  obtain ⟨-, stopped, ended, -⟩ := rampingDown_record s z
  obtain ⟨power, -, released, drive, drainTimer, -, countdown, tone⟩ :=
    enterDrain_drained (z := z) (rampingDown_waits z waits)
  rw [powerOff_on on, powerDownOn_drains silent]
  have record := zoneOrigin_record (enterDrain (rampingDown s z) z) z o
  generalize (enterDrain (rampingDown s z) z).zones.get z = x at *
  refine ⟨rfl, ?_⟩
  generalize ((enterDrain (rampingDown s z) z).zoneOrigin z o, true).1.zones.get z = y at record ⊢
  subst record
  exact ⟨power, released, drive, drainTimer, countdown.trans stopped, (congrArg Tone.running tone).trans ended, rfl⟩

/-! ## The request -/

theorem reportedChange_origin (r : Zone) (o : Origin) : r.reportedChange { r with lastChanged := o } = (r.lastChanged != o) := by
  have mode : Zone.effMode { r with lastChanged := o } = r.effMode := rfl
  simp [Zone.reportedChange, mode]

theorem reportedChange_restart (r : Zone) : r.reportedChange { r with restart := none } = (r.restart != none) := by
  have mode : Zone.effMode { r with restart := none } = r.effMode := rfl
  simp [Zone.reportedChange, mode]

/-- An origin recorded, as the whole state it leaves (R84, R86). -/
theorem zoneOrigin_state (s : State) (z : ZoneId) (o : Origin) : s.zoneOrigin z o =
    { s with zones := setAt s.zones z { s.zones.get z with lastChanged := o }
             ports := s.ports.raiseIf ((s.zones.get z).lastChanged != o) (.zone z) } := by
  unfold State.zoneOrigin State.updZone State.putZone
  rw [reportedChange_origin]

theorem clearRestart_state (s : State) (z : ZoneId) (o : Origin) :
    (s.updZone z fun r => { r with restart := none }).zoneOrigin z o =
    { s with zones := setAt s.zones z { s.zones.get z with restart := none, lastChanged := o }
             ports := s.ports.raiseIf ((s.zones.get z).restart != none || (s.zones.get z).lastChanged != o) (.zone z) } := by
  rw [zoneOrigin_state, State.updZone_get_self]
  unfold State.updZone State.putZone
  dsimp only
  rw [setAt_setAt, reportedChange_restart, Ports.raiseIf_raiseIf]

/-- POWER_OFF as a request for one zone: the owner's taking, and its answer in the slot (R60, R192). -/
theorem powerOff_taken {s : State} {p : Port} {tag zb : Byte} {z : ZoneId} (ready : Ready s p) (index : zb.toNat = z.1) :
    ∃ t, exec (.powerOff p tag [zb]) s = .next t ∧ t.zones = (powerOff (s.taking p [zb].length) z (portOrigin p)).1.zones ∧
      t.slot p = some { tag := tag, result := if (powerOff (s.taking p [zb].length) z (portOrigin p)).2 then .accepted else .ok, data := [] } ∧
      zoneFrameKept s t := by
  have frame : zoneFrameKept s (powerOff (s.taking p [zb].length) z (portOrigin p)).1 := powerOff_frame (s.taking p [zb].length) z (portOrigin p)
  refine ⟨_, congrArg Host.Outcome.next (serve_eq ready one_le (oneIndex_in_range _ _ index)), rfl, ?_, frame⟩
  unfold State.slot State.updPort
  rw [State.putPort_ports, Ports.put_get_self]

/-- Settles O27, each power state by what `powerOff` does in it. -/
theorem powerOffEffect : Obligations.PowerOffEffect := by
  refine ⟨fun s p tag zb z ready index quiet => ?_, fun s p tag zb z ready index starting waits => ?_,
    fun s p tag zb z ready index on loud => ?_, fun s p tag zb z ready index on silent waits => ?_,
    fun s p tag zb z ready index drain => ?_⟩
  · refine congrArg Host.Outcome.next (serve_sources (src := s.sources) ready one_le ?_)
    refine (oneIndex_in_range _ _ index).trans ?_
    rw [powerOff_quiet (s := s.taking p [zb].length) quiet]
    show ({ state := (s.taking p [zb].length).zoneOrigin z (portOrigin p), result := .ok, data := [] } : Reply) = _
    rw [zoneOrigin_state]
    rfl
  · obtain ⟨t, step, zones, slot, frame⟩ := powerOff_taken (tag := tag) ready index
    have record := powerDownStarting_record (s := s.taking p [zb].length) (z := z) waits
    rw [powerOff_starting (s := s.taking p [zb].length) starting] at zones slot
    refine ⟨t, step, slot, ?_⟩
    rw [zones, zoneOrigin_record]
    obtain ⟨power, released, qr, startTimer, drive⟩ := record
    exact ⟨power, released_origin released _, qr, startTimer, drive, rfl, frame⟩
  · obtain ⟨t, step, zones, slot, frame⟩ := powerOff_taken (tag := tag) ready index
    obtain ⟨accepted, ⟨power, countdown, tone, qr, bound, -⟩, origin, others⟩ :=
      powerOff_ramps (s := s.taking p [zb].length) (o := portOrigin p) on loud
    rw [accepted] at slot
    refine ⟨t, step, slot, ?_⟩
    rw [zones]
    exact ⟨power, countdown, tone, qr, bound, origin, frame, others⟩
  · obtain ⟨t, step, zones, slot, frame⟩ := powerOff_taken (tag := tag) ready index
    obtain ⟨accepted, power, released, drive, drainTimer, countdown, tone, origin⟩ :=
      powerOff_drains (s := s.taking p [zb].length) (o := portOrigin p) on silent waits
    rw [accepted] at slot
    refine ⟨t, step, slot, ?_⟩
    rw [zones]
    exact ⟨power, released, drive, drainTimer, countdown, tone, origin, frame⟩
  · refine congrArg Host.Outcome.next (serve_sources (src := s.sources) ready one_le ?_)
    refine (oneIndex_in_range _ _ index).trans ?_
    rw [powerOff_drain (s := s.taking p [zb].length) drain]
    dsimp only
    rw [clearRestart_state]
    rfl

end Sys2Proof.Machine
end

section
/-! The start, drain and auto-standby timers of a zone (R61 to R64, R82). -/

namespace Sys2Proof.Machine

theorem ranOut_iff (t : Option Timer) (now : Millis) : ranOut t now ↔ timeUp t now = true := by
  rw [timeUp_iff]
  cases t with
  | none => exact iff_of_false (fun h => nomatch h) fun ⟨_, e, _⟩ => nomatch e
  | some w => exact ⟨fun h => ⟨w, rfl, of_decide_eq_true h⟩, fun ⟨_, same, h⟩ => by cases same; exact decide_eq_true h⟩

/-- An automatic write that R84 lists records AUTO (log 23). -/
theorem autoZone_audited {s : State} {z : ZoneId} {f : Zone → Zone}
    (h : (s.zones.get z).auditedChange (f (s.zones.get z)) = true) :
    (s.autoZone z f).zones.get z = { f (s.zones.get z) with lastChanged := .auto } := by
  rw [State.autoZone_get_self, if_pos h]

/-- A change of the power state is one. -/
theorem auditedChange_power {r x : Zone} (h : r.power ≠ x.power) : r.auditedChange x = true := by
  simp [Zone.auditedChange, bne_iff_ne.mpr h]

/-- The countdown is started where the zone is ON, quiet, and has a setting (R82). -/
theorem startCountdown_record (s : State) (z : ZoneId) (on : (s.zones.get z).power = .on) :
    (startCountdown s z).zones.get z = { s.zones.get z with
      countdown := if 0 < (s.zones.get z).autoStandby ∧ (s.zones.get z).quiet s then (s.zones.get z).fullCountdown s
        else (s.zones.get z).countdown } := by
  unfold startCountdown
  rw [State.updZone_get_self]
  by_cases start : 0 < (s.zones.get z).autoStandby ∧ (s.zones.get z).quiet s
  · rw [if_pos start, if_pos ⟨on, (zoneQuiet_iff s z).mpr start.2, start.1⟩]
    rfl
  · rw [if_neg start, if_neg fun e => start ⟨e.2.2, (zoneQuiet_iff s z).mp e.2.1⟩]

/-! ## The start timer -/

/-- What a zone holds when its start timer has expired (R61, R66, R82). -/
theorem startExpiry_record {s : State} {z : ZoneId} (starting : (s.zones.get z).power = .starting)
    (due : timeUp (s.zones.get z).startTimer s.ms = true) : ∃ d n,
    (startExpiry s z).zones.get z = { s.zones.get z with
      power := .on, startTimer := none, lastChanged := .auto, drive := .audio, driveNow := d, period := n
      countdown := if 0 < (s.zones.get z).autoStandby ∧ (s.zones.get z).quiet s then (s.zones.get z).fullCountdown s
        else (s.zones.get z).countdown } := by
  have on := autoZone_audited (s := s) (z := z) (f := fun r => { r with power := .on, startTimer := none })
    (auditedChange_power (by rw [starting]; exact (show Power.starting ≠ .on by decide)))
  have begun : startExpiry s z =
      startCountdown (handDrive (s.autoZone z fun r => { r with power := .on, startTimer := none }) z .audio) z :=
    if_pos ⟨starting, due⟩
  have frame : zoneFrameKept s (handDrive (s.autoZone z fun r => { r with power := .on, startTimer := none }) z .audio) :=
    (autoZone_frame s z _).trans (handDrive_frame _ z .audio)
  obtain ⟨d, n, handed⟩ := handDrive_record (s.autoZone z fun r => { r with power := .on, startTimer := none }) z .audio
  rw [begun]
  generalize handDrive (s.autoZone z fun r => { r with power := .on, startTimer := none }) z .audio = t at handed frame ⊢
  rw [on] at handed
  have quiet (x : Zone) : x.quiet t ↔ x.quiet s := by
    unfold Zone.quiet
    rw [frame.2.1]
  refine ⟨d, n, ?_⟩
  rw [startCountdown_record t z (by rw [handed]), handed]
  simp only [quiet, Zone.fullCountdown, frame.2.2.2.2.2.2.1]
  rfl

theorem startExpiry_frame (s : State) (z : ZoneId) : zoneFrameKept s (startExpiry s z) := by
  unfold startExpiry
  split
  · exact ((autoZone_frame s z _).trans (handDrive_frame _ z _)).trans (startCountdown_frame _ z)
  · exact .refl s

theorem startExpiry_alone (s : State) (z : ZoneId) : zoneAlone s (startExpiry s z) z := by
  unfold startExpiry
  split
  · exact ((autoZone_alone s z _).trans (handDrive_alone _ z _)).trans (updZone_alone _ z _)
  · exact .refl s z

/-! ## The drain timer -/

/-- A zone whose drain timer has expired, before a POWER_ON that waits (R64). -/
def drained (s : State) (z : ZoneId) : State :=
  handDrive (s.autoZone z fun r => { r with power := .standby, drainTimer := none, restart := none }) z .off

theorem drainExpiry_stays {s : State} {z : ZoneId} (drain : (s.zones.get z).power = .drain)
    (due : timeUp (s.zones.get z).drainTimer s.ms = true) (stays : (s.zones.get z).restart = none) :
    drainExpiry s z = drained s z := by
  unfold drainExpiry
  rw [if_pos ⟨drain, due⟩]
  dsimp only
  rw [stays]
  rfl

theorem drainExpiry_restarts {s : State} {z : ZoneId} {o : Origin} (drain : (s.zones.get z).power = .drain)
    (due : timeUp (s.zones.get z).drainTimer s.ms = true) (pending : (s.zones.get z).restart = some o) :
    drainExpiry s z = (powerUpZone (drained s z) z).zoneOrigin z o := by
  unfold drainExpiry
  rw [if_pos ⟨drain, due⟩]
  dsimp only
  rw [pending]
  rfl

theorem drained_record {s : State} {z : ZoneId} (drain : (s.zones.get z).power = .drain) : ∃ d n,
    (drained s z).zones.get z = { s.zones.get z with
      power := .standby, drainTimer := none, restart := none, lastChanged := .auto, drive := .off, driveNow := d, period := n } := by
  have standby := autoZone_audited (s := s) (z := z) (f := fun r => { r with power := .standby, drainTimer := none, restart := none })
    (auditedChange_power (by rw [drain]; exact (show Power.drain ≠ .standby by decide)))
  obtain ⟨d, n, handed⟩ := handDrive_record
    (s.autoZone z fun r => { r with power := .standby, drainTimer := none, restart := none }) z .off
  refine ⟨d, n, ?_⟩
  rw [drained, handed, standby]

theorem drained_frame (s : State) (z : ZoneId) : zoneFrameKept s (drained s z) := (autoZone_frame s z _).trans (handDrive_frame _ z _)

theorem drained_alone (s : State) (z : ZoneId) : zoneAlone s (drained s z) z := (autoZone_alone s z _).trans (handDrive_alone _ z _)

/-! ## What a binding leaves of the fields that it does not write -/

theorem bindRecord_restart (s : State) (r : Zone) : (bindRecord s r).restart = r.restart := by
  cases h : (takeCopy s.sources r).link with
  | none => rw [bindRecord_unlinked h, bindClock_kept]; rfl
  | some l => rw [bindRecord_linked h, bindClock_kept]; rfl

theorem sansContent_restart {r x : Zone} (h : x.sansContent = r.sansContent) : x.restart = r.restart := (congrArg Zone.restart h :)

/-- A binding leaves restart-pending. -/
theorem bindZone_restart (s : State) (z : ZoneId) (rebind : Bool) :
    ((bindZone s z rebind).zones.get z).restart = (s.zones.get z).restart := by
  have yielded : ((s.zones.get z).yielded rebind).restart = (s.zones.get z).restart := by cases rebind <;> rfl
  have content := bindZone_sansContent s z rebind
  have gave := autoZone_zone_sansArbiter s z (Zone.yielded rebind)
  rw [bindingTaken_eq] at content
  generalize s.autoZone z (Zone.yielded rebind) = t at content gave
  have took := sansContent_of_sansArbiter (autoZone_zone_sansArbiter t z (bindRecord t))
  calc ((bindZone s z rebind).zones.get z).restart
      = (bindRecord t (t.zones.get z)).restart := sansContent_restart (content.trans took)
    _ = (t.zones.get z).restart := bindRecord_restart t _
    _ = ((s.zones.get z).yielded rebind).restart := sansContent_restart (sansContent_of_sansArbiter gave)
    _ = (s.zones.get z).restart := yielded

/-- What a zone that takes power in STANDBY holds besides its binding: its start timer, and restart-pending as it was (R60). -/
theorem powerUpZone_started (s : State) (z : ZoneId) :
    ((powerUpZone s z).zones.get z).startTimer = some { start := s.ms, len := 150 } ∧
      ((powerUpZone s z).zones.get z).restart = (s.zones.get z).restart := by
  obtain ⟨d, n, handed⟩ := handDrive_record s z .centre
  obtain ⟨o, record⟩ := autoZone_record (bindZone (handDrive s z .centre) z false) z (Zone.powered s.ms)
  have restart := bindZone_restart (handDrive s z .centre) z false
  have before : ((handDrive s z .centre).zones.get z).restart = (s.zones.get z).restart := by rw [handed]
  have powered (r : Zone) : Zone.startTimer { r.powered s.ms with lastChanged := o } = some { start := s.ms, len := 150 } ∧
      Zone.restart { r.powered s.ms with lastChanged := o } = r.restart := ⟨rfl, rfl⟩
  obtain ⟨timer, kept⟩ := powered ((bindZone (handDrive s z .centre) z false).zones.get z)
  rw [powerUpZone_eq, record]
  exact ⟨timer, kept.trans (restart.trans before)⟩

/-- A binding in a state that shows the zone the same frame. -/
theorem justBound_frame {r : Zone} {s t : State} {selected : Option SrcId} {rate : Rate} (frame : zoneFrameKept s t)
    (h : r.justBound t selected rate) : r.justBound s selected rate := by
  obtain ⟨links, monitors, sources, -, tuner, -, ms, -⟩ := frame
  obtain ⟨taken, empty⟩ := h
  refine ⟨justTaken_state (fun k => by rw [links]) sources.symm (by rw [tuner]) (fun _ => ⟨ms.symm, ?_⟩) taken, empty⟩
  unfold Zone.quiet
  rw [monitors]

/-- What a zone that takes power on its own account holds: its binding, its start timer, and the origin it was asked with. -/
structure Zone.Restarted (r : Zone) (s : State) (restart : Option Origin) (o : Origin) (selected : Option SrcId) (rate : Rate) :
    Prop where
  power : r.power = .starting
  restart : r.restart = restart
  drive : r.drive = .centre
  startTimer : r.startTimer = some { start := s.ms, len := 150 }
  bound : r.justBound s selected rate
  origin : r.lastChanged = o

theorem restarted_of {r : Zone} {s : State} {restart : Option Origin} {selected : Option SrcId} {rate : Rate} (o : Origin)
    (power : r.power = .starting) (pending : r.restart = restart) (drive : r.drive = .centre)
    (startTimer : r.startTimer = some { start := s.ms, len := 150 }) (bound : r.justBound s selected rate) :
    Zone.Restarted { r with lastChanged := o } s restart o selected rate :=
  ⟨power, pending, drive, startTimer, bound, rfl⟩

/-- What a zone in STANDBY holds when it takes power on its own account, with the origin that it was asked with (R60, R64, R66). -/
theorem powerUp_restarted {s u : State} {z : ZoneId} {o : Origin} {selected : Option SrcId} {rate : Rate}
    (frame : zoneFrameKept s u) (standby : (u.zones.get z).power = .standby) (selects : (u.zones.get z).selected = selected)
    (rates : (u.zones.get z).rate = rate) :
    Zone.Restarted (((powerUpZone u z).zoneOrigin z o).zones.get z) s (u.zones.get z).restart o selected rate := by
  have ms : u.ms = s.ms := frame.2.2.2.2.2.2.1
  obtain ⟨bound, power, -, drive, -⟩ := powerUpZone_zone standby
  obtain ⟨startTimer, restart⟩ := powerUpZone_started u z
  have kept := justBound_frame (frame.trans (handDrive_frame u z .centre)) bound
  rw [selects, rates] at kept
  rw [ms] at startTimer
  rw [zoneOrigin_record]
  exact restarted_of o power restart drive startTimer kept

/-! ## Auto-standby -/

theorem autoStandbyExpiry_due {s : State} {z : ZoneId} (on : (s.zones.get z).power = .on)
    (due : timeUp (s.zones.get z).countdown s.ms = true) :
    autoStandbyExpiry s z = (powerOff s z .auto).1.raise .signal := if_pos ⟨on, due⟩

theorem raise_signal (s : State) (p : Port) : ((s.raise .signal).ports.get p).flags.get Flag.signal.index = true := by
  rw [show (s.raise .signal).ports = s.ports.raise .signal from rfl, Ports.raise_flag, decide_eq_true rfl, Bool.or_true]

/-- Settles O28, each timer by what it does where it has run out, and by its guard where it has not. -/
theorem zoneTimerEvents : Obligations.ZoneTimerEvents := by
  refine ⟨fun s z starting due => ?_, fun s z drain due stays => ?_, fun s z o drain due pending => ?_, fun s z => ?_,
    fun s z on due loud => ?_, fun s z on due silent waits => ?_⟩
  · obtain ⟨d, n, record⟩ := startExpiry_record starting ((ranOut_iff _ _).mp due)
    have frame := startExpiry_frame s z
    obtain ⟨-, others⟩ := startExpiry_alone s z
    refine ⟨_, rfl, ?_⟩
    rw [record]
    exact ⟨rfl, rfl, rfl, rfl, rfl, rfl, rfl, rfl, fun y ne => others y (Ne.symm ne), frame⟩
  · obtain ⟨d, n, record⟩ := drained_record drain
    obtain ⟨-, others⟩ := drained_alone s z
    refine ⟨_, congrArg Host.Outcome.next (drainExpiry_stays drain ((ranOut_iff _ _).mp due) stays), ?_⟩
    rw [record]
    exact ⟨rfl, rfl, rfl, rfl, fun y ne => others y (Ne.symm ne), drained_frame s z⟩
  · obtain ⟨d, n, record⟩ := drained_record drain
    have frame := drained_frame s z
    obtain ⟨power, restart, drive, startTimer, bound, origin⟩ :=
      powerUp_restarted (z := z) (o := o) frame (by rw [record]) (by rw [record]) (by rw [record])
    have cleared : ((drained s z).zones.get z).restart = none := by rw [record]
    exact ⟨_, congrArg Host.Outcome.next (drainExpiry_restarts drain ((ranOut_iff _ _).mp due) pending),
      power, restart.trans cleared, drive, startTimer, bound, origin,
      (frame.trans (powerUpZone_frame _ z)).trans (zoneOrigin_frame _ z o)⟩
  · refine ⟨fun left => ?_, fun left => ?_, fun left => ?_⟩
    · exact congrArg Host.Outcome.next (if_neg fun e => left ((ranOut_iff _ _).mpr e.2))
    · exact congrArg Host.Outcome.next (if_neg fun e => left ((ranOut_iff _ _).mpr e.2))
    · exact congrArg Host.Outcome.next (if_neg fun e => left ((ranOut_iff _ _).mpr e.2))
  · obtain ⟨-, ⟨power, countdown, tone, qr, bound, -⟩, origin, others⟩ := powerOff_ramps (o := .auto) on loud
    refine ⟨_, congrArg Host.Outcome.next (autoStandbyExpiry_due on ((ranOut_iff _ _).mp due)), ?_⟩
    exact ⟨power, countdown, tone, qr, bound, origin, raise_signal _, others,
      (powerOff_frame s z .auto).trans (raise_frame _ .signal)⟩
  · obtain ⟨-, power, released, drive, drainTimer, countdown, tone, origin⟩ := powerOff_drains (o := .auto) on silent waits
    refine ⟨_, congrArg Host.Outcome.next (autoStandbyExpiry_due on ((ranOut_iff _ _).mp due)), ?_⟩
    exact ⟨power, released, drive, drainTimer, countdown, tone, origin, raise_signal _,
      (powerOff_frame s z .auto).trans (raise_frame _ .signal)⟩

end Sys2Proof.Machine
end

section
/-! The ramp step (R63, R68, R75). -/

namespace Sys2Proof.Machine

/-! ## A step that ends nothing -/

/-- The effective target is silence in a zone that is neither STARTING nor ON, or whose path is not PLAYING (R74). -/
theorem target_silent {r : Zone} (h : r.power = .rampDown ∨ r.path = .fading) : r.target = none := by
  refine if_neg fun e => ?_
  obtain ⟨power, path, -⟩ := e
  rcases h with down | fading
  · rw [down] at power
    exact absurd power (by decide)
  · rw [fading] at path
    exact absurd path (by decide)

/-- A ramp step is taken, and what it ends follows where qr has come to SILENT (R75). -/
theorem rampStep_eq {s : State} {z : ZoneId} {q : Option Int} (moves : (s.zones.get z).power ≠ .standby)
    (next : rampNext (s.zones.get z).qr (s.zones.get z).target = q) : rampStep s z =
    if q = none ∧ (s.zones.get z).qr ≠ none then
      if (s.zones.get z).power = .rampDown then
        (enterDrain (s.updZone z fun r => { r with rampCount := 0, qr := q }) z).zoneOrigin z (s.zones.get z).lastChanged
      else if (s.zones.get z).path = .fading ∧ (s.zones.get z).power = .on then
        (bindZone (s.updZone z fun r => { r with rampCount := 0, qr := q }) z true).zoneOrigin z (s.zones.get z).lastChanged
      else s.updZone z fun r => { r with rampCount := 0, qr := q }
    else s.updZone z fun r => { r with rampCount := 0, qr := q } := by
  unfold rampStep
  dsimp only
  rw [if_neg moves, next]

theorem reportedChange_ramp (r : Zone) (q : Option Int) : r.reportedChange { r with rampCount := 0, qr := q } = false := by
  have mode : Zone.effMode { r with rampCount := 0, qr := q } = r.effMode := rfl
  simp [Zone.reportedChange, mode]

/-- A ramp step that ends nothing writes qr and the ramp frame count, and sets no flag (R75, R86). -/
theorem rampStep_moves {s : State} {z : ZoneId} {q : Option Int} (moves : (s.zones.get z).power ≠ .standby)
    (next : rampNext (s.zones.get z).qr (s.zones.get z).target = q)
    (stays : q = none → (s.zones.get z).qr ≠ none → (s.zones.get z).power ≠ .rampDown ∧ (s.zones.get z).path ≠ .fading) :
    rampStep s z = { s with zones := setAt s.zones z { s.zones.get z with rampCount := 0, qr := q } } := by
  have taken : (s.updZone z fun r => { r with rampCount := 0, qr := q }) =
      { s with zones := setAt s.zones z { s.zones.get z with rampCount := 0, qr := q } } :=
    State.updZone_unreported (f := fun r => { r with rampCount := 0, qr := q }) (reportedChange_ramp _ q)
  rw [rampStep_eq moves next, taken]
  split
  next ends =>
    obtain ⟨power, path⟩ := stays ends.1 ends.2
    rw [if_neg power, if_neg fun fading => path fading.1]
  · rfl

/-! ## The delay content of a released zone -/

/-- A channel without delay content, its DC watch CLEAR (R111, R139). -/
def Channel.emptied (x : Channel) : Prop := x.lipSection = [] ∧ x.line = [] ∧ x.watch = .clear

theorem updChannel_emptied {s : State} {b c : Chan} {f : Channel → Channel} (kept : ∀ x : Channel, x.emptied → (f x).emptied)
    (h : (s.channels.get c).emptied) : ((s.updChannel b f).channels.get c).emptied := by
  have channels : (s.updChannel b f).channels = setAt s.channels b (f (s.channels.get b)) := rfl
  rw [channels, setAt_get]
  split
  next e => exact kept _ (e ▸ h)
  · exact h

theorem presentChannel_emptied {z : ZoneId} {s : State} {b c : Chan} (h : (s.channels.get c).emptied) :
    ((presentChannel z s b).channels.get c).emptied := by
  unfold presentChannel
  split
  · split
    · exact updChannel_emptied (fun _ k => k) h
    · exact updChannel_emptied (fun _ k => k) h
  · split
    · exact updChannel_emptied (fun _ k => k) h
    · exact h

theorem beginPairPeriod_channels (z : ZoneId) (s : State) (q : PairId) : (beginPairPeriod z s q).channels = s.channels := by
  unfold beginPairPeriod
  split <;> rfl

/-- A drive mode handed, and the carrier that it starts, leave the delay content as it is (R124, R129). -/
theorem handDrive_emptied {s : State} {z : ZoneId} {m : DriveMode} {c : Chan} (h : (s.channels.get c).emptied) :
    ((handDrive s z m).channels.get c).emptied := by
  unfold handDrive
  dsimp only
  split
  · unfold beginFrame beginPeriod
    rw [State.forEach_field State.channels _ (beginPairPeriod_channels z)]
    exact State.forEach_keeps (fun t => (t.channels.get c).emptied) _ (fun _ _ => presentChannel_emptied) _ _ h
  · exact h

/-- A release empties every channel of the zone (R111, R139). -/
theorem dropChannels_emptied {c : Chan} : ∀ {cs : List Chan} (s : State), c ∈ cs →
    ((s.forEach cs dropChannel).channels.get c).emptied
  | [], _, h => nomatch h
  | b :: cs, s, h => by
    by_cases e : c = b
    · have dropped : ((dropChannel s b).channels.get c).emptied := by
        have channels : (dropChannel s b).channels = setAt s.channels b
            { s.channels.get b with lipSection := [], line := [], delay := none, watch := .clear } := rfl
        rw [channels, e, setAt_get_self]
        exact ⟨rfl, rfl, rfl⟩
      exact State.forEach_keeps (fun t => (t.channels.get c).emptied) _
        (fun t b => updChannel_emptied fun _ _ => ⟨rfl, rfl, rfl⟩) cs _ dropped
    · exact dropChannels_emptied (dropChannel s b) ((List.mem_cons.mp h).resolve_left e)

theorem enterDrain_emptied {s : State} {z : ZoneId} {c : Chan} (h : (s.speakers.get c).zone = some z) :
    ((enterDrain s z).channels.get c).emptied := by
  have all : ∀ c : Chan, c ∈ chanIds := by decide
  have listed : c ∈ zoneChannels s.speakers z := List.mem_filter.mpr ⟨all c, decide_eq_true h⟩
  exact handDrive_emptied (dropChannels_emptied _ listed)

/-! ## What the last step ends -/

theorem Zone.Drained.withOrigin {before r : Zone} {now : Millis} {q : Option Int}
    (h : Zone.Drained { before with rampCount := 0, qr := q } r now) (o : Origin) :
    Zone.Drained before { r with lastChanged := o } now ∧ Zone.lastChanged { r with lastChanged := o } = o :=
  ⟨⟨h.power, h.qr, released_origin h.released o, h.drive, h.drainTimer, h.selected, h.countdown, h.tone⟩, rfl⟩

theorem justBound_origin {r x : Zone} {o : Origin} {s : State} {power : Power} {selected : Option SrcId} {rate : Rate}
    (record : x = { r with lastChanged := o }) (on : r.power = power) (h : r.justBound s selected rate) :
    x.power = power ∧ x.lastChanged = o ∧ x.justBound s selected rate := by
  subst record
  exact ⟨on, rfl, h⟩

/-- A zone whose qr has come to SILENT, before what that ends. -/
def silenced (s : State) (z : ZoneId) : State := s.updZone z fun r => { r with rampCount := 0, qr := none }

theorem silenced_record (s : State) (z : ZoneId) : (silenced s z).zones.get z = { s.zones.get z with rampCount := 0, qr := none } :=
  State.updZone_get_self s z _

theorem silenced_waits {s : State} (z : ZoneId) (waits : ∀ y, y ∈ s.waitList → (s.zones.get y).decode = .waiting) :
    ∀ y, y ∈ (silenced s z).waitList → ((silenced s z).zones.get y).decode = .waiting := by
  intro y listed
  by_cases e : z = y
  · rw [← e, silenced_record]
    exact waits z (e ▸ listed)
  · rw [silenced, State.updZone_get_of_ne s _ e]
    exact waits y listed

/-- The step that brings qr to SILENT in RAMP_DOWN enters DRAIN (R63). -/
theorem rampStep_drains {s : State} {z : ZoneId} (down : (s.zones.get z).power = .rampDown)
    (last : (s.zones.get z).qr = some (-160)) :
    rampStep s z = (enterDrain (silenced s z) z).zoneOrigin z (s.zones.get z).lastChanged := by
  have silent : rampNext (s.zones.get z).qr (s.zones.get z).target = none := by rw [last, target_silent (.inl down)]; rfl
  rw [rampStep_eq (by rw [down]; decide) silent, if_pos ⟨rfl, by rw [last]; exact nofun⟩, if_pos down]
  rfl

/-- The step that brings qr to SILENT in FADING binds the zone (R68). -/
theorem rampStep_rebinds {s : State} {z : ZoneId} (on : (s.zones.get z).power = .on) (fading : (s.zones.get z).path = .fading)
    (last : (s.zones.get z).qr = some (-160)) :
    rampStep s z = (bindZone (silenced s z) z true).zoneOrigin z (s.zones.get z).lastChanged := by
  have silent : rampNext (s.zones.get z).qr (s.zones.get z).target = none := by rw [last, target_silent (.inr fading)]; rfl
  rw [rampStep_eq (by rw [on]; decide) silent, if_pos ⟨rfl, by rw [last]; exact nofun⟩, if_neg (by rw [on]; decide),
    if_pos ⟨fading, on⟩]
  rfl

theorem rampStep_drained {s : State} {z : ZoneId} (down : (s.zones.get z).power = .rampDown)
    (last : (s.zones.get z).qr = some (-160)) (waits : ∀ y, y ∈ s.waitList → (s.zones.get y).decode = .waiting) :
    Zone.Drained (s.zones.get z) ((rampStep s z).zones.get z) s.ms ∧
      ((rampStep s z).zones.get z).lastChanged = (s.zones.get z).lastChanged := by
  have drained := enterDrain_drained (z := z) (silenced_waits z waits)
  rw [silenced_record] at drained
  rw [rampStep_drains down last, zoneOrigin_record]
  exact drained.withOrigin _

theorem rampStep_rebound {s : State} {z : ZoneId} (on : (s.zones.get z).power = .on) (fading : (s.zones.get z).path = .fading)
    (last : (s.zones.get z).qr = some (-160)) :
    ((rampStep s z).zones.get z).power = .on ∧
      ((rampStep s z).zones.get z).lastChanged = (s.zones.get z).lastChanged ∧
      ((rampStep s z).zones.get z).justBound s (s.zones.get z).selected (s.zones.get z).rate := by
  obtain ⟨bound, power, -, -⟩ := bindZone_justBound (silenced s z) z true
  have bound := justBound_frame (updZone_frame s z _) bound
  have selected : ((silenced s z).zones.get z).selected = (s.zones.get z).selected := by rw [silenced_record]
  have rate : ((silenced s z).zones.get z).rate = (s.zones.get z).rate := by rw [silenced_record]
  have same : ((silenced s z).zones.get z).power = (s.zones.get z).power := by rw [silenced_record]
  rw [selected, rate] at bound
  rw [rampStep_rebinds on fading last]
  exact justBound_origin (zoneOrigin_record _ z _) (power.trans (same.trans on)) bound

/-! ## The statement -/

/-- Settles O29: the step by `rampNext` in each case of qr and the target, and what the last one in RAMP_DOWN and in FADING ends. -/
theorem rampStepEffect : Obligations.RampStepEffect := by
  refine ⟨fun s z q moves cases_ => congrArg Host.Outcome.next ?_, fun s z down last waits => ?_, fun s z on fading last => ?_⟩
  · rcases cases_ with ⟨qr, target, rfl⟩ | ⟨g, qr, target, rfl⟩ | ⟨x, qr, loud, target, rfl⟩ | ⟨x, g, qr, target, up, rfl⟩ |
      ⟨x, g, qr, target, down, rfl⟩ | ⟨x, qr, target, rfl⟩ | ⟨qr, target, power, path, rfl⟩
    · exact rampStep_moves moves (by rw [qr, target]; rfl) fun _ some_ => absurd qr some_
    · exact rampStep_moves moves (by rw [qr, target]; rfl) nofun
    · exact rampStep_moves moves (by rw [qr, target]; exact if_neg (by omega)) nofun
    · exact rampStep_moves moves (by rw [qr, target]; exact if_pos up) nofun
    · exact rampStep_moves moves (by rw [qr, target]; exact (if_neg (by omega)).trans (if_pos down)) nofun
    · exact rampStep_moves moves (by rw [qr, target]; simp [rampNext]) nofun
    · exact rampStep_moves moves (by rw [qr, target]; rfl) fun _ _ => ⟨power, path⟩
  · obtain ⟨drained, origin⟩ := rampStep_drained down last waits
    refine ⟨_, rfl, drained.power, drained.qr, drained.released, drained.drive, drained.drainTimer, drained.selected, origin,
      fun c present => ?_, rampStep_frame s z⟩
    rw [rampStep_drains down last, State.zoneOrigin, State.updZone, State.putZone_channels]
    exact enterDrain_emptied (s := silenced s z) present
  · obtain ⟨power, origin, bound⟩ := rampStep_rebound on fading last
    exact ⟨_, rfl, power, origin, bound, rampStep_frame s z⟩

end Sys2Proof.Machine
end

section
/-! What the arbiter's turn gives a zone that comes to need decode, and what a zone that leaves a unit frees (R50, R51, R52, R53). -/

namespace Sys2Proof.Machine

/-! ## A zone that comes to need decode -/

/-- The unit that serves the link takes the zone (R50). -/
theorem place_joins {a : Seats} {z : ZoneId} {l : LinkId} {u : UnitId} (serves : (a.units.get u).link = some l)
    (first : ∀ v, v < u → (a.units.get v).link ≠ some l) : (a.place z l).pos z = .attached u ∧
      (a.place z l).muted z = decide ((a.units.get u).state = .syncing) ∧ (a.place z l).units = a.units ∧
      (a.place z l).wait = a.wait := by
  rw [place_served z (serving_eq_some.mpr ⟨serves, first⟩)]
  refine ⟨tell_pos_self a z _, ?_, rfl, rfl⟩
  rw [tell_muted_self]
  show ((a.units.get u).state == .syncing) = _
  cases (a.units.get u).state <;> rfl

/-- The lowest-numbered FREE unit is bound to the link and takes the zone (R50). -/
theorem place_binds {a : Seats} {z : ZoneId} {l : LinkId} {u : UnitId} (unserved : ∀ v, (a.units.get v).link ≠ some l)
    (free : (a.units.get u).state = .free) (first : ∀ v, v < u → (a.units.get v).state ≠ .free) :
    (a.place z l).pos z = .attached u ∧ (a.place z l).muted z = true ∧ (a.place z l).wait = a.wait ∧
      (a.place z l).units = setAt a.units u (.syncingOn l a.fresh) := by
  rw [place_free z (serving_eq_none.mpr unserved) (lowestFree_seats_eq_some.mpr ⟨free, first⟩)]
  refine ⟨tell_pos_self _ z _, ?_, rfl, rfl⟩
  rw [tell_muted_self]
  show (((setAt a.units u (.syncingOn l a.fresh)).get u).state == .syncing) = true
  rw [setAt_get_self]
  rfl

/-- With no unit for it, the zone waits, MAIN at the head and another zone at the tail (R50). -/
theorem place_waits {a : Seats} {z : ZoneId} {l : LinkId} (unserved : ∀ v, (a.units.get v).link ≠ some l)
    (full : ∀ v, (a.units.get v).state ≠ .free) : a.place z l =
      (a.queue (if z = 0 then z :: a.wait else a.wait ++ [z])).tell [z] .waiting :=
  place_full z (serving_eq_none.mpr unserved) (lowestFree_seats_eq_none.mpr full)

/-! ## A zone that leaves a unit -/

/-- A unit with another zone attached stays (R51). -/
theorem release_shared {a : Seats} {y z : ZoneId} {u : UnitId} (h : a.pos z = .attached u) (ne : y ≠ z)
    (other : a.pos y = .attached u) : (a.release z).units = a.units ∧ (a.release z).wait = a.wait := by
  have stays : ¬ ∀ w, (a.tell [z] .none).pos w ≠ .attached u := fun none => none y (by rw [tell_pos_of_ne a _ ne]; exact other)
  rw [release_attached h, Seats.freeIfEmpty, if_neg stays]
  exact ⟨rfl, rfl⟩

/-- The last zone's leaving frees the unit (R47, R51). -/
theorem release_last {a : Seats} {z : ZoneId} {u : UnitId} (h : a.pos z = .attached u)
    (last : ∀ y, y ≠ z → a.pos y ≠ .attached u) : a.release z = ((a.tell [z] .none).clear u).grant u := by
  have none (w : ZoneId) : (a.tell [z] .none).pos w ≠ .attached u := by
    by_cases e : w = z
    · rw [e, tell_pos_self]
      exact nofun
    · rw [tell_pos_of_ne a _ e]
      exact last w e
  rw [release_attached h, Seats.freeIfEmpty, if_pos none]

/-- With no zone waiting, the unit stays FREE. -/
theorem release_frees {a : Seats} {z : ZoneId} {u : UnitId} (h : a.pos z = .attached u)
    (last : ∀ y, y ≠ z → a.pos y ≠ .attached u) (empty : a.wait = []) :
    (a.release z).wait = [] ∧ (a.release z).units = setAt a.units u (a.units.get u).freed := by
  rw [release_last h last, grant_nil u (a := (a.tell [z] .none).clear u) empty]
  exact ⟨empty, rfl⟩

/-- The freed unit goes to the head of the wait list and to the other waiters on its link (R52). -/
theorem release_grants {a : Seats} {y z : ZoneId} {u : UnitId} {rest : List ZoneId} {k : LinkId} (h : a.pos z = .attached u)
    (last : ∀ y, y ≠ z → a.pos y ≠ .attached u) (head : a.wait = y :: rest) (link : a.link y = some k) :
    (a.release z).wait = rest.filter (fun w => decide (a.link w ≠ some k)) ∧
      (a.release z).units = setAt a.units u (.syncingOn k a.fresh) ∧
      ∀ w, w = y ∨ (w ∈ rest ∧ a.link w = some k) → (a.release z).pos w = .attached u ∧ (a.release z).muted w = true := by
  have queue : ((a.tell [z] .none).clear u).wait = y :: rest := head
  rw [release_last h last, grant_wait u queue link, grant_units u queue link]
  refine ⟨rfl, setAt_setAt _ _ _ _, fun w told => ?_⟩
  have served : w ∈ ((a.tell [z] .none).clear u).wait ∧ a.link w = some k := by
    rw [queue]
    rcases told with rfl | ⟨later, same⟩
    · exact ⟨List.mem_cons_self, link⟩
    · exact ⟨List.mem_cons_of_mem _ later, same⟩
  exact ⟨(grant_pos u queue link w).trans (if_pos served), (grant_muted u queue link w).trans (if_pos served)⟩

/-! ## A zone that is moved to another link -/

/-- A waiter that finds no unit loses its place and takes the one it would take now (R53). -/
theorem moved_waiter {a : Seats} {z : ZoneId} {l : LinkId} (h : a.pos z = .waiting)
    (unserved : ∀ v, (a.units.get v).link ≠ some l) (full : ∀ v, (a.units.get v).state ≠ .free) :
    ((a.release z).place z l).pos z = .waiting ∧ ((a.release z).place z l).units = a.units ∧
      ((a.release z).place z l).wait = if z = 0 then z :: a.wait.filter (fun y => decide (y ≠ z))
        else a.wait.filter (fun y => decide (y ≠ z)) ++ [z] := by
  rw [release_waiting h, place_waits (a := (a.queue (a.wait.filter fun y => decide (y ≠ z))).tell [z] .none) unserved full]
  exact ⟨tell_pos_self _ z _, rfl, rfl⟩

/-- The unit that the zone leaves goes to the zone that waits, and the zone waits in its place (R53). -/
theorem moved_last {a : Seats} {y z : ZoneId} {u : UnitId} {k l : LinkId} (h : a.pos z = .attached u) (ne : y ≠ z)
    (last : ∀ w, w ≠ z → a.pos w ≠ .attached u)
    (others : ∀ v, v ≠ u → (a.units.get v).link ≠ some l ∧ (a.units.get v).state ≠ .free) (waits : a.wait = [y])
    (link : a.link y = some k) (differs : k ≠ l) :
    ((a.release z).place z l).pos y = .attached u ∧ (((a.release z).place z l).units.get u).link = some k ∧
      ((a.release z).place z l).pos z = .waiting ∧ ((a.release z).place z l).wait = [z] := by
  obtain ⟨empty, units, granted⟩ := release_grants h last waits link
  obtain ⟨pos, -⟩ := granted y (.inl rfl)
  have unserved (v : UnitId) : ((a.release z).units.get v).link ≠ some l := by
    rw [units, setAt_get]
    split
    · exact fun e => differs (Option.some.inj e)
    next e => exact (others v (Ne.symm e)).1
  have full (v : UnitId) : ((a.release z).units.get v).state ≠ .free := by
    rw [units, setAt_get]
    split
    · exact nofun
    next e => exact (others v (Ne.symm e)).2
  rw [place_waits unserved full]
  refine ⟨(tell_pos_of_ne _ _ ne).trans pos, ?_, tell_pos_self _ z _, ?_⟩
  · show ((a.release z).units.get u).link = some k
    rw [units, setAt_get_self]
    rfl
  · show (if z = 0 then z :: (a.release z).wait else (a.release z).wait ++ [z]) = [z]
    rw [empty]
    split <;> rfl

end Sys2Proof.Machine
end

section
/-! The delay allocation of a binding, and the LIMITED flag that goes with it (R109, R112, R113, R199). -/

namespace Sys2Proof.Machine

/-! ## Operations that leave LIMITED alone -/

/-- LIMITED stands in both copies as it stood. -/
def SameLimited (s t : State) : Prop :=
  ∀ k, (t.ports.get k).flags.get Flag.limited.index = (s.ports.get k).flags.get Flag.limited.index

theorem SameLimited.refl (s : State) : SameLimited s s := fun _ => rfl

theorem SameLimited.trans {s t u : State} (h : SameLimited s t) (k : SameLimited t u) : SameLimited s u :=
  fun p => (k p).trans (h p)

theorem SameLimited.ite {s t u : State} {b : Prop} [Decidable b] (h : SameLimited s t) (k : SameLimited s u) :
    SameLimited s (if b then t else u) := by
  split <;> assumption

theorem SameLimited.forEach {α : Type} (f : State → α → State) (h : ∀ s x, SameLimited s (f s x)) (xs : List α) (s : State) :
    SameLimited s (s.forEach xs f) := State.forEach_rel SameLimited .refl (fun _ _ _ a b => a.trans b) f h xs s

theorem sameLimited_of_ports {s t : State} (h : t.ports = s.ports) : SameLimited s t := fun k => by rw [h]

theorem sameLimited_raiseIf {s t : State} {b : Bool} {f : Flag} (h : t.ports = s.ports.raiseIf b f)
    (other : f.index ≠ Flag.limited.index) : SameLimited s t := fun k => by
  rw [h, Ports.raiseIf_flag, decide_eq_false other, Bool.and_false, Bool.or_false]

theorem zone_index_ne_limited : ∀ z, (Flag.zone z).index ≠ Flag.limited.index := by decide

theorem du_index_ne_limited : ∀ u, (Flag.du u).index ≠ Flag.limited.index := by decide

theorem pair_index_ne_limited : ∀ q, (Flag.pair q).index ≠ Flag.limited.index := by decide

theorem raise_sameLimited (s : State) {f : Flag} (other : f.index ≠ Flag.limited.index) : SameLimited s (s.raise f) :=
  sameLimited_raiseIf (b := true) rfl other

theorem updZone_sameLimited (s : State) (z : ZoneId) (f : Zone → Zone) : SameLimited s (s.updZone z f) :=
  sameLimited_raiseIf (State.putZone_ports s z _) (zone_index_ne_limited z)

theorem autoZone_sameLimited (s : State) (z : ZoneId) (f : Zone → Zone) : SameLimited s (s.autoZone z f) :=
  updZone_sameLimited s z _

theorem updChannel_sameLimited (s : State) (c : Chan) (f : Channel → Channel) : SameLimited s (s.updChannel c f) :=
  sameLimited_of_ports rfl

theorem updPair_sameLimited (s : State) (q : PairId) (f : Pair → Pair) : SameLimited s (s.updPair q f) :=
  sameLimited_raiseIf (State.putPair_ports s q _) (pair_index_ne_limited q)

theorem putWaitList_sameLimited (s : State) (w : List ZoneId) : SameLimited s (s.putWaitList w) :=
  (raise_sameLimited s (du_index_ne_limited 0)).trans
    (sameLimited_raiseIf (s := s.raise (.du 0)) (b := true) rfl (du_index_ne_limited 1))

/-! ## The arbiter -/

theorem raiseAttached_sameLimited (s : State) (p : DecodePos) : SameLimited s (raiseAttached s p) := by
  cases p with
  | none => exact .refl s
  | waiting => exact .refl s
  | attached u => exact raise_sameLimited s (du_index_ne_limited u)

theorem setDecode_sameLimited (s : State) (z : ZoneId) (p : DecodePos) : SameLimited s (setDecode s z p) := by
  rw [setDecode_eq]
  exact (autoZone_sameLimited s z _).trans
    (.ite (.refl _) ((raiseAttached_sameLimited _ _).trans (raiseAttached_sameLimited _ p)))

theorem bindUnit_sameLimited (s : State) (u : UnitId) (l : LinkId) : SameLimited s (bindUnit s u l) :=
  sameLimited_raiseIf (State.putUnit_ports s u (.syncingOn l s.fresh)) (du_index_ne_limited u)

theorem clearUnit_sameLimited (s : State) (u : UnitId) : SameLimited s (clearUnit s u) :=
  sameLimited_raiseIf (State.putUnit_ports s u _) (du_index_ne_limited u)

theorem grantUnit_sameLimited (s : State) (u : UnitId) : SameLimited s (grantUnit s u) := by
  unfold grantUnit
  split
  · exact .refl s
  · split
    · exact .refl s
    · exact ((putWaitList_sameLimited s _).trans (bindUnit_sameLimited _ u _)).trans
        (.forEach _ (fun t y => setDecode_sameLimited t y _) _ _)

theorem releaseDecode_sameLimited (s : State) (z : ZoneId) : SameLimited s (releaseDecode s z) := by
  unfold releaseDecode
  split
  · exact .refl s
  · exact (putWaitList_sameLimited s _).trans (setDecode_sameLimited _ z _)
  next u _ =>
    exact (setDecode_sameLimited s z _).trans (.ite ((clearUnit_sameLimited _ u).trans (grantUnit_sameLimited _ u)) (.refl _))

theorem placeDecode_sameLimited (s : State) (z : ZoneId) (l : LinkId) : SameLimited s (placeDecode s z l) := by
  unfold placeDecode
  split
  · exact setDecode_sameLimited s z _
  · split
    · exact (bindUnit_sameLimited s _ l).trans (setDecode_sameLimited _ z _)
    · exact (putWaitList_sameLimited s _).trans (setDecode_sameLimited _ z _)

theorem rebindDecode_sameLimited (s : State) (z : ZoneId) (old new : Option LinkId) :
    SameLimited s (rebindDecode s z old new) := by
  unfold rebindDecode
  split
  · exact releaseDecode_sameLimited s z
  · exact .ite (.ite (setDecode_sameLimited s z _) ((releaseDecode_sameLimited s z).trans (placeDecode_sameLimited _ z _)))
      (releaseDecode_sameLimited s z)

/-! ## The carrier -/

theorem presentChannel_sameLimited (z : ZoneId) (s : State) (c : Chan) : SameLimited s (presentChannel z s c) := by
  unfold presentChannel
  split
  · split <;> exact updChannel_sameLimited _ _ _
  · exact .ite (updChannel_sameLimited _ _ _) (.refl s)

theorem beginFrame_sameLimited (s : State) (z : ZoneId) (m : DriveMode) : SameLimited s (beginFrame s z m) :=
  (updZone_sameLimited s z _).trans ((SameLimited.forEach _ (presentChannel_sameLimited z) _ _).trans
    (.forEach _ (by exact fun t q => .ite (updPair_sameLimited t q _) (.refl t)) _ _))

theorem handDrive_sameLimited (s : State) (z : ZoneId) (m : DriveMode) : SameLimited s (handDrive s z m) :=
  (updZone_sameLimited s z _).trans (.ite (beginFrame_sameLimited _ z m) (.refl _))

theorem primeDelays_sameLimited (s : State) (z : ZoneId) : SameLimited s (primeDelays s z) :=
  .forEach (primeChannel _ _) (fun t c => by unfold primeChannel; exact updChannel_sameLimited t c _) _ s

theorem zeroDuties_sameLimited (s : State) (z : ZoneId) : SameLimited s (zeroDuties s z) :=
  .forEach _ (fun t c => updChannel_sameLimited t c _) _ s

theorem bindCarrier_sameLimited (s : State) (z : ZoneId) (old : Rate) : SameLimited s (bindCarrier s z old) :=
  .ite (.ite (.refl s) (zeroDuties_sameLimited s z))
    ((zeroDuties_sameLimited s z).trans (.ite (.refl _) (beginFrame_sameLimited _ z _)))

theorem bindCountdown_sameLimited (s : State) (z : ZoneId) : SameLimited s (bindCountdown s z) :=
  (updZone_sameLimited s z _).trans (updZone_sameLimited _ z _)

end Sys2Proof.Machine
end

section
/-! The delay allocation that a binding takes (R109, R112, R113). -/

namespace Sys2Proof.Machine

/-! ## The allocation asked for -/

/-- The lip-sync setting that a binding of the selection asks room for; without a link it asks none (R112). -/
def State.askedMicros (s : State) (z : ZoneId) : Nat :=
  match s.selectedLink z with
  | some _ => ((s.zones.get z).selected.map fun i => (s.sources.get i).lipSync).getD 0
  | none => 0

/-- The allocation of a binding that comes to run at `rate` (R112). -/
def State.bindingAllocation (s : State) (z : ZoneId) (rate : Rate) : Alloc :=
  allocate (freeFor s z) (zoneChannels s.speakers z).length (delayFrames (s.askedMicros z) rate) (s.askedMicros z) rate

theorem freeFor_congr {s t : State} {z : ZoneId} (others : ∀ y, y ≠ z → t.zones.get y = s.zones.get y) :
    freeFor t z = freeFor s z := by
  have words : (zoneIds.filter fun y => decide (y ≠ z)).map (fun y => (t.zones.get y).words) =
      (zoneIds.filter fun y => decide (y ≠ z)).map fun y => (s.zones.get y).words :=
    List.map_congr_left fun y listed => by rw [others y (of_decide_eq_true (List.mem_filter.mp listed).2)]
  rw [freeFor, words, freeFor]

/-- The words of a zone's allocation are not the arbiter's. -/
theorem words_of_sansArbiter {r x : Zone} (h : x.sansArbiter = r.sansArbiter) : x.words = r.words := (congrArg Zone.words h :)

theorem bindingPlaced_freeFor (s : State) (z : ZoneId) (rebind : Bool) : freeFor (bindingPlaced s z rebind) z = freeFor s z := by
  have taken : freeFor (bindingTaken s z rebind) z = freeFor s z := freeFor_congr fun y ne => by
    rw [bindingTaken_eq, State.autoZone_get_of_ne _ _ (Ne.symm ne), State.autoZone_get_of_ne _ _ (Ne.symm ne)]
  have placed := rebindDecode_sansArbiter (bindingTaken s z rebind) z (s.zones.get z).link
    ((bindingTaken s z rebind).zones.get z).link
  have words (y : ZoneId) := words_of_sansArbiter (sansArbiter_zone placed y)
  rw [← taken, bindingPlaced]
  unfold freeFor
  simp only [words]

/-- A zone that has taken its source asks room for its copy of the selected entry (R25, R112). -/
theorem allocation_eq {s t : State} {z : ZoneId} (free : freeFor t z = freeFor s z) (speakers : t.speakers = s.speakers)
    (link : (t.zones.get z).link = s.selectedLink z)
    (copy : (t.zones.get z).copy.map (·.lipSync) = (s.zones.get z).selected.map fun i => (s.sources.get i).lipSync) :
    t.allocation z = s.bindingAllocation z (t.zones.get z).rate := by
  unfold State.allocation
  dsimp only
  rw [link, copy, free, speakers]
  rfl

theorem bindingPlaced_allocation (s : State) (z : ZoneId) (rebind : Bool) : (bindingPlaced s z rebind).allocation z =
    s.bindingAllocation z ((bindingPlaced s z rebind).zones.get z).rate := by
  have seats := bindingPlaced_seats s z rebind
  have free := bindingPlaced_freeFor s z rebind
  have frame : zoneFrameKept s (bindingPlaced s z rebind) :=
    ((autoZone_frame s z _).trans (autoZone_frame _ z _)).trans (rebindDecode_frame _ z _ _)
  obtain ⟨-, -, -, speakers, -⟩ := frame
  obtain ⟨-, copy, -⟩ := bindingPlaced_zone s z rebind
  generalize bindingPlaced s z rebind = t at seats free speakers copy ⊢
  have link := congrFun (congrArg Seats.link seats) z
  rw [rebind_link] at link
  exact allocation_eq free speakers (link.trans (relink_link_self _ _ _ _)) (by rw [copy, Option.map_map]; rfl)

/-! ## The allocation taken -/

theorem enterPath_alloc {x r : Zone} {spk : Vector Speaker 12} {z : ZoneId} {v : Option DescValues}
    (h : x.sansArbiter = (r.enterPath spk z v).sansArbiter) : x.alloc = r.alloc := (congrArg Zone.alloc h :)

theorem bindingEntered_alloc (s : State) (z : ZoneId) : ((bindingEntered s z).zones.get z).alloc = some (s.allocation z) := by
  have allocated := allocateZone_zone s z
  rw [bindingEntered_eq]
  generalize allocateZone s z = t at allocated ⊢
  have entered := enterPath_alloc (autoZone_zone_sansArbiter t z fun r => r.enterPath t.speakers z (bindVals t r))
  rw [entered, allocated]

theorem driven_alloc {r x : Zone} (h : r.driven x) : x.alloc = r.alloc := by
  obtain ⟨m, p, rfl⟩ := h
  rfl

theorem bindingCarried_alloc (s : State) (z : ZoneId) (rebind : Bool) :
    ((bindingCarried s z rebind).zones.get z).alloc = some ((bindingPlaced s z rebind).allocation z) := by
  have carried := driven_alloc
    (bindCarrier_zone (primeDelays (bindingEntered (bindingPlaced s z rebind) z) z) z (s.zones.get z).rate)
  rw [primeDelays_zones] at carried
  exact carried.trans (bindingEntered_alloc _ z)

theorem counted_alloc {x y : Zone} {c : Option Timer} (h : y = { x with countdown := c }) : y.alloc = x.alloc :=
  (congrArg Zone.alloc h :)

theorem sansContent_rate {r x : Zone} (h : x.sansContent = r.sansContent) : x.rate = r.rate := (congrArg Zone.rate h :)

theorem counted_rate {x y : Zone} {c : Option Timer} (h : y = { x with countdown := c }) : y.rate = x.rate :=
  (congrArg Zone.rate h :)

/-- A binding settles the rate before it allocates (R66). -/
theorem bindZone_rate (s : State) (z : ZoneId) (rebind : Bool) :
    ((bindZone s z rebind).zones.get z).rate = ((bindingPlaced s z rebind).zones.get z).rate := by
  obtain ⟨c, counted, -⟩ := bindZone_counted s z rebind
  exact (counted_rate counted).trans (sansContent_rate (bindingCarried_sansContent s z rebind))

/-- The allocation of a binding is that of the selection at the rate that the binding gives the zone (R112). -/
theorem bindZone_alloc (s : State) (z : ZoneId) (rebind : Bool) : ((bindZone s z rebind).zones.get z).alloc =
    some (s.bindingAllocation z ((bindZone s z rebind).zones.get z).rate) := by
  obtain ⟨c, counted, -⟩ := bindZone_counted s z rebind
  rw [bindZone_rate, counted_alloc counted, bindingCarried_alloc, bindingPlaced_allocation]

/-! ## LIMITED -/

theorem allocateZone_limited (s : State) (z : ZoneId) (k : Port) :
    ((allocateZone s z).ports.get k).flags.get Flag.limited.index =
      ((s.ports.get k).flags.get Flag.limited.index || (s.allocation z).limited) := by
  have written := updZone_sameLimited s z (fun r => { r with alloc := some (s.allocation z) }) k
  rw [allocateZone_eq]
  cases (s.allocation z).limited with
  | false => exact written.trans (Bool.or_false _).symm
  | true => rw [if_pos rfl, State.raise_ports, Ports.raise_flag, decide_eq_true rfl, Bool.or_true, Bool.or_true]

/-- A binding sets LIMITED exactly where its allocation is limited (R113). -/
theorem bindZone_limited (s : State) (z : ZoneId) (rebind : Bool) (k : Port) :
    ((bindZone s z rebind).ports.get k).flags.get Flag.limited.index = ((s.ports.get k).flags.get Flag.limited.index ||
      (s.bindingAllocation z ((bindZone s z rebind).zones.get z).rate).limited) := by
  have placed : SameLimited s (bindingPlaced s z rebind) :=
    ((autoZone_sameLimited s z _).trans (autoZone_sameLimited _ z _)).trans (rebindDecode_sameLimited _ z _ _)
  have allocation := bindingPlaced_allocation s z rebind
  rw [bindZone_rate, ← allocation, ← placed k, bindZone_eq]
  generalize bindingPlaced s z rebind = t
  have after : SameLimited (allocateZone t z)
      ((bindCountdown (bindCarrier (primeDelays (bindingEntered t z) z) z (s.zones.get z).rate) z).raise (.zone z)) :=
    ((((autoZone_sameLimited _ z _).trans (primeDelays_sameLimited _ z)).trans (bindCarrier_sameLimited _ z _)).trans
      (bindCountdown_sameLimited _ z)).trans (raise_sameLimited _ (zone_index_ne_limited z))
  exact (after k).trans (allocateZone_limited t z k)

end Sys2Proof.Machine
end

section
/-! What a request that binds or releases a zone obtains of the decode arbiter and of the delay allocator (R50 to R53, R112). -/

namespace Sys2Proof.Machine

/-! ## The arbiter's turn -/

theorem linkNeedsDecode_of_carries {s : State} {l : LinkId} {d : Descriptor} (carries : (s.links.get l).state.carries = true)
    (last : (s.links.get l).lastGood = some d) (bsf : d.format = .bsf) : linkNeedsDecode s l = true := by
  simp [linkNeedsDecode, carries, last, bsf]

theorem linkNeedsDecode_false {s : State} {l : LinkId} (other : ∀ d, (s.links.get l).state.carries = true →
    (s.links.get l).lastGood = some d → d.format ≠ .bsf) : linkNeedsDecode s l = false := by
  refine Bool.eq_false_iff.mpr fun need => ?_
  obtain ⟨carries, format⟩ := (Bool.and_eq_true _ _).mp need
  obtain ⟨d, last, bsf⟩ := Option.map_eq_some_iff.mp (of_decide_eq_true format)
  exact other d carries last bsf

/-- A zone whose new link gives no need of decode leaves its position (R53). -/
theorem rebind_leaves {need : LinkId → Bool} {a : Seats} {z : ZoneId} {old new : Option LinkId}
    (h : ∀ l, new = some l → need l = false) : a.rebind need z old new = a.release z := by
  cases new with
  | none => rfl
  | some l => exact rebind_unneeded a z old (h l rfl)

/-- A zone without a position is placed (R50). -/
theorem rebind_places {need : LinkId → Bool} {a : Seats} {z : ZoneId} {old : Option LinkId} {l : LinkId} (h : need l = true)
    (idle : a.pos z = .none) : a.rebind need z old (some l) = a.place z l := by
  rw [rebind_moves h fun same => same.2 idle, release_none idle]

theorem selectedLink_of {s : State} {z : ZoneId} {i : SrcId} (h : (s.zones.get z).selected = some i) :
    s.selectedLink z = (s.sources.get i).input := by rw [State.selectedLink, h]; rfl

/-- A binding, in a state whose arbiter stands as it stood in `s`, that takes up link `l`. -/
theorem bindZone_seats_as {s t : State} {z : ZoneId} {l : Option LinkId} (rebind : Bool) (seats : t.seats = s.seats)
    (links : t.links = s.links) (selected : t.selectedLink z = l) : (bindZone t z rebind).seats =
      (s.seats.relink z l (!rebind && (s.zones.get z).mutes.decode)).rebind (linkNeedsDecode s) z (s.zones.get z).link l := by
  rw [bindZone_seats, State.bindingSeats, seats, selected, seats_muted seats, seats_link seats, linkNeedsDecode_links links]

/-! ## POWER_ON in STANDBY -/

theorem handDrive_selected (s : State) (z : ZoneId) (m : DriveMode) :
    ((handDrive s z m).zones.get z).selected = (s.zones.get z).selected := by
  obtain ⟨d, n, handed⟩ := handDrive_record s z m
  rw [handed]

theorem handDrive_selectedLink (s : State) (z : ZoneId) (m : DriveMode) : (handDrive s z m).selectedLink z = s.selectedLink z := by
  obtain ⟨-, -, sources, -⟩ := handDrive_frame s z m
  rw [State.selectedLink, handDrive_selected, sources, State.selectedLink]

theorem handDrive_bindingAllocation (s : State) (z : ZoneId) (m : DriveMode) (rate : Rate) :
    (handDrive s z m).bindingAllocation z rate = s.bindingAllocation z rate := by
  obtain ⟨-, -, sources, speakers, -⟩ := handDrive_frame s z m
  have free : freeFor (handDrive s z m) z = freeFor s z := freeFor_congr fun y ne => (handDrive_alone s z m).2 y (Ne.symm ne)
  have asked : (handDrive s z m).askedMicros z = s.askedMicros z := by
    rw [State.askedMicros, handDrive_selectedLink, handDrive_selected, sources, State.askedMicros]
  rw [State.bindingAllocation, free, asked, speakers, State.bindingAllocation]

theorem powered_seats (s : State) (z : ZoneId) (now : Millis) : (s.autoZone z (Zone.powered now)).seats = s.seats :=
  autoZone_seats_same s z rfl rfl rfl

theorem powered_record (s : State) (z : ZoneId) (now : Millis) :
    ((s.autoZone z (Zone.powered now)).zones.get z).alloc = (s.zones.get z).alloc ∧
      ((s.autoZone z (Zone.powered now)).zones.get z).rate = (s.zones.get z).rate := by
  obtain ⟨o, record⟩ := autoZone_record s z (Zone.powered now)
  rw [record]
  exact ⟨rfl, rfl⟩

theorem powerUpZone_seats (s : State) (z : ZoneId) : (powerUpZone s z).seats =
    (s.seats.relink z (s.selectedLink z) (s.zones.get z).mutes.decode).rebind (linkNeedsDecode s) z (s.zones.get z).link
      (s.selectedLink z) := by
  obtain ⟨links, -⟩ := handDrive_frame s z .centre
  rw [powerUpZone_eq, powered_seats]
  exact bindZone_seats_as false (handDrive_calm s z .centre).seats links (handDrive_selectedLink s z .centre)

/-- What a binding at power-up takes of the delay memory. -/
theorem powerUpZone_alloc (s : State) (z : ZoneId) : ((powerUpZone s z).zones.get z).alloc =
    some (s.bindingAllocation z ((powerUpZone s z).zones.get z).rate) := by
  obtain ⟨alloc, rate⟩ := powered_record (bindZone (handDrive s z .centre) z false) z s.ms
  rw [powerUpZone_eq, alloc, rate, bindZone_alloc, handDrive_bindingAllocation]

theorem powerUpZone_rate (s : State) (z : ZoneId) :
    ((powerUpZone s z).zones.get z).rate = ((bindZone (handDrive s z .centre) z false).zones.get z).rate :=
  (powered_record _ z s.ms).2

theorem powerUpZone_limited (s : State) (z : ZoneId) (k : Port) :
    ((powerUpZone s z).ports.get k).flags.get Flag.limited.index = ((s.ports.get k).flags.get Flag.limited.index ||
      (s.bindingAllocation z ((powerUpZone s z).zones.get z).rate).limited) := by
  rw [powerUpZone_rate, ← handDrive_bindingAllocation s z .centre, ← handDrive_sameLimited s z .centre k, ← bindZone_limited]
  exact autoZone_sameLimited _ z _ k

/-! ## The requests -/

theorem taking_sameLimited (s : State) (p : Port) (n : Nat) : SameLimited s (s.taking p n) := fun k => by
  cases p <;> cases k <;> rfl

theorem updPort_sameLimited (s : State) (p : Port) (r : Option Response) :
    SameLimited s (s.updPort p fun x => { x with slot := r }) := fun k => by cases p <;> cases k <;> rfl

/-- What a POWER_ON that binds leaves of the arbiter, of the allocation and of LIMITED. -/
structure Obtains (s : State) (z : ZoneId) (t : State) : Prop where
  seats : t.seats = (s.seats.relink z (s.selectedLink z) (s.zones.get z).mutes.decode).rebind (linkNeedsDecode s) z
    (s.zones.get z).link (s.selectedLink z)
  alloc : (t.zones.get z).alloc = some (s.bindingAllocation z (t.zones.get z).rate)
  limited : ∀ k, (t.ports.get k).flags.get Flag.limited.index =
    ((s.ports.get k).flags.get Flag.limited.index || (s.bindingAllocation z (t.zones.get z).rate).limited)

theorem powerUp_obtains (s : State) (z : ZoneId) : Obtains s z (powerUpZone s z) :=
  ⟨powerUpZone_seats s z, powerUpZone_alloc s z, powerUpZone_limited s z⟩

theorem Obtains.zoneOrigin {s t : State} {z : ZoneId} (h : Obtains s z t) (o : Origin) : Obtains s z (t.zoneOrigin z o) := by
  have rate : ((t.zoneOrigin z o).zones.get z).rate = (t.zones.get z).rate := by rw [zoneOrigin_record]
  refine ⟨(zoneOrigin_calm t z o).seats.trans h.seats, ?_, fun k => ?_⟩
  · rw [rate, ← h.alloc, zoneOrigin_record]
  · rw [rate]
    exact (updZone_sameLimited t z _ k).trans (h.limited k)

/-- The port at which a request is answered is not looked at, its flags aside. -/
theorem Obtains.answered {s t : State} {p : Port} {n : Nat} {z : ZoneId} (h : Obtains (s.taking p n) z t)
    (r : Option Response) : Obtains s z (t.updPort p fun x => { x with slot := r }) := by
  obtain ⟨seats, alloc, limited⟩ := h
  refine ⟨seats, alloc, fun k => (updPort_sameLimited t p r k).trans ((limited k).trans ?_)⟩
  rw [taking_sameLimited s p n k]
  rfl

theorem powerOn_obtains {s : State} {p : Port} {tag zb : Byte} {z : ZoneId} (ready : Ready s p) (index : zb.toNat = z.1)
    (standby : (s.zones.get z).power = .standby) : ∃ t, exec (.powerOn p tag [zb]) s = .next t ∧ Obtains s z t := by
  have standing : ((s.taking p [zb].length).zones.get z).power = .standby := standby
  have taken : powerOn (s.taking p [zb].length) z (portOrigin p) =
      ((powerUpZone (s.taking p [zb].length) z).zoneOrigin z (portOrigin p), true) := by
    unfold powerOn
    rw [standing]
  have owner : reqPowerOn (portOrigin p) [zb] (s.taking p [zb].length) =
      { state := (powerUpZone (s.taking p [zb].length) z).zoneOrigin z (portOrigin p), result := .accepted, data := [] } := by
    refine (oneIndex_in_range _ _ index).trans ?_
    rw [taken]
    rfl
  have obtains := ((powerUp_obtains (s.taking p [zb].length) z).zoneOrigin (portOrigin p)).answered
    (some { tag := tag, result := .accepted, data := [] })
  exact ⟨_, congrArg Host.Outcome.next (serve_eq ready one_le owner), obtains⟩

theorem answered_seats (t : State) (p : Port) (r : Option Response) :
    (t.updPort p fun x => { x with slot := r }).seats = t.seats := rfl

/-- What a POWER_OFF in STARTING writes besides the release is not the arbiter's. -/
theorem powerDownStarting_seats (s : State) (z : ZoneId) :
    (powerDownStarting s z).seats = (s.seats.release z).relink z none false := by
  have released := releaseZone_seats s z
  unfold powerDownStarting
  generalize releaseZone s z = t at released ⊢
  have written : (t.autoZone z fun r => { r with power := .standby, startTimer := none, qr := none }).seats = t.seats :=
    autoZone_seats_same t z rfl rfl rfl
  exact ((handDrive_calm _ z .off).seats.trans written).trans released

theorem powerOff_releases {s : State} {p : Port} {tag zb : Byte} {z : ZoneId} (ready : Ready s p) (index : zb.toNat = z.1)
    (starting : (s.zones.get z).power = .starting) :
    ∃ t, exec (.powerOff p tag [zb]) s = .next t ∧ t.seats = (s.seats.release z).relink z none false := by
  have standing : ((s.taking p [zb].length).zones.get z).power = .starting := starting
  have owner : reqPowerOff (portOrigin p) [zb] (s.taking p [zb].length) =
      { state := (powerDownStarting (s.taking p [zb].length) z).zoneOrigin z (portOrigin p), result := .ok, data := [] } := by
    refine (oneIndex_in_range _ _ index).trans ?_
    rw [powerOff_starting standing]
    rfl
  have seats := (zoneOrigin_calm (powerDownStarting (s.taking p [zb].length) z) z (portOrigin p)).seats.trans
    (powerDownStarting_seats (s.taking p [zb].length) z)
  exact ⟨_, congrArg Host.Outcome.next (serve_eq ready one_le owner), (answered_seats _ p _).trans seats⟩

/-- SELECT_SOURCE in STARTING is a rebind (R68, R69). -/
theorem selectSource_seats {s : State} {z : ZoneId} (src : Option SrcId) (o : Origin)
    (starting : (s.zones.get z).power = .starting) : (selectSource s z src o).seats =
      (s.seats.relink z (src.bind fun i => (s.sources.get i).input) false).rebind (linkNeedsDecode s) z (s.zones.get z).link
        (src.bind fun i => (s.sources.get i).input) := by
  have calm := (endTone_calm s z).trans (updZone_calm (endTone s z) z fun r => { r with selected := src })
  have frame := (endTone_frame s z).trans (updZone_frame (endTone s z) z fun r => { r with selected := src })
  obtain ⟨-, w, m, ended⟩ := endTone_record s z
  have record : ((endTone s z).updZone z fun r => { r with selected := src }).zones.get z =
      { s.zones.get z with tone := w, mutes := m, selected := src } := by rw [State.updZone_get_self, ended]
  unfold selectSource
  generalize (endTone s z).updZone z (fun r => { r with selected := src }) = t at calm frame record ⊢
  obtain ⟨links, -, sources, -⟩ := frame
  have selected : t.selectedLink z = src.bind fun i => (s.sources.get i).input := by
    rw [State.selectedLink, record, sources]
  have power : (t.zones.get z).power = .starting := by rw [record]; exact starting
  have rebinds : rebindCause t z = bindZone t z true := by
    unfold rebindCause
    dsimp only
    rw [power]
  rw [rebinds]
  exact (zoneOrigin_calm _ z o).seats.trans (bindZone_seats_as true calm.seats links selected)

theorem orNone_of_toNat {b : Byte} {i : SrcId} (h : b.toNat = i.1) : orNone 16 b = some (some i) := by
  have named : b ≠ 255 := fun e => by
    rw [e] at h
    exact absurd i.2 (by rw [← h]; decide)
  rw [orNone, if_neg named, indexOf_of_toNat h]
  rfl

theorem selectSource_rebinds {s : State} {p : Port} {tag zb sb : Byte} {z : ZoneId} {i : SrcId} (ready : Ready s p)
    (index : zb.toNat = z.1) (named : sb.toNat = i.1) (starting : (s.zones.get z).power = .starting) :
    ∃ t, exec (.selectSource p tag [zb, sb]) s = .next t ∧ t.seats =
      (s.seats.relink z (s.sources.get i).input false).rebind (linkNeedsDecode s) z (s.zones.get z).link
        (s.sources.get i).input := by
  have owner : reqSelectSource (portOrigin p) [zb, sb] (s.taking p [zb, sb].length) =
      (selectSource (s.taking p [zb, sb].length) z (some i) (portOrigin p)).ok (orNoneByte (some i)) := by
    unfold reqSelectSource
    dsimp only
    rw [indexOf_of_toNat index, orNone_of_toNat named]
  exact ⟨_, congrArg Host.Outcome.next (serve_eq ready two_le owner),
    selectSource_seats (s := s.taking p [zb, sb].length) (some i) (portOrigin p) starting⟩

end Sys2Proof.Machine
end

section
/-! Decode positions and delay allocations of bindings and releases, clause by clause (R38, R45 to R55, R109, R112, R113). -/

namespace Sys2Proof.Machine

/-! ## POWER_ON in STANDBY -/

theorem Obtains.places {s t : State} {z : ZoneId} {l : LinkId} {d : Descriptor} (h : Obtains s z t)
    (idle : (s.zones.get z).decode = .none) (selected : s.selectedLink z = some l)
    (carries : (s.links.get l).state.carries = true) (last : (s.links.get l).lastGood = some d) (bsf : d.format = .bsf) :
    t.seats = (s.seats.relink z (some l) (s.zones.get z).mutes.decode).place z l := by
  have need := linkNeedsDecode_of_carries carries last bsf
  rw [h.seats, selected]
  exact rebind_places need idle

/-- The unit that serves the link, or the lowest-numbered FREE unit, or the wait list takes the zone (R38, R45, R50, R55). -/
theorem placed_position {s t : State} {z : ZoneId} {l : LinkId}
    (placed : t.seats = (s.seats.relink z (some l) (s.zones.get z).mutes.decode).place z l) :
    (∀ u, (s.units.get u).link = some l → (∀ v, v < u → (s.units.get v).link ≠ some l) →
      (t.zones.get z).decode = .attached u ∧ (t.zones.get z).mutes.decode = decide ((s.units.get u).state = .syncing) ∧
      t.units = s.units ∧ t.waitList = s.waitList) ∧
    ((∀ v, (s.units.get v).link ≠ some l) →
      (∀ u, (s.units.get u).state = .free → (∀ v, v < u → (s.units.get v).state ≠ .free) →
        (t.zones.get z).decode = .attached u ∧ (t.zones.get z).mutes.decode = true ∧ t.waitList = s.waitList ∧
        (t.units.get u).state = .syncing ∧ (t.units.get u).link = some l ∧ (t.units.get u).output = [] ∧
        (t.units.get u).vals.map = 0 ∧ (t.units.get u).mark = false ∧ (t.units.get u).store = none ∧
        (t.units.get u).concealed = 0 ∧ (t.units.get u).silenced = 0 ∧ ∀ v, v ≠ u → t.units.get v = s.units.get v) ∧
      ((∀ v, (s.units.get v).state ≠ .free) →
        (t.zones.get z).decode = .waiting ∧ (t.zones.get z).mutes.decode = true ∧ t.units = s.units ∧
        t.waitList = if z = 0 then z :: s.waitList else s.waitList ++ [z])) := by
  have pos : (t.zones.get z).decode = t.seats.pos z := rfl
  have muted : (t.zones.get z).mutes.decode = t.seats.muted z := rfl
  have units : t.units = t.seats.units := rfl
  have wait : t.waitList = t.seats.wait := rfl
  rw [pos, muted, units, wait, placed]
  refine ⟨fun u serves first => place_joins serves first, fun unserved => ⟨fun u free first => ?_, fun full => ?_⟩⟩
  · obtain ⟨pos, muted, wait, units⟩ := place_binds (a := s.seats.relink z (some l) (s.zones.get z).mutes.decode) (z := z)
      unserved free first
    have bound : (((s.seats.relink z (some l) (s.zones.get z).mutes.decode).place z l).units.get u) = .syncingOn l s.fresh := by
      rw [units]
      exact setAt_get_self _ _ _
    refine ⟨pos, muted, wait, ?_⟩
    rw [bound]
    refine ⟨rfl, rfl, rfl, rfl, rfl, rfl, rfl, rfl, fun v ne => ?_⟩
    rw [units, setAt_get, if_neg (Ne.symm ne)]
    rfl
  · rw [place_waits (a := s.seats.relink z (some l) (s.zones.get z).mutes.decode) unserved full]
    exact ⟨tell_pos_self _ z _, tell_muted_self _ z _, rfl, rfl⟩

/-- A zone on a link that is not BSF has no position (R49). -/
theorem Obtains.unplaced {s t : State} {z : ZoneId} (h : Obtains s z t) (idle : (s.zones.get z).decode = .none)
    (other : ∀ l, s.selectedLink z = some l → linkNeedsDecode s l = false) :
    (t.zones.get z).decode = .none ∧ t.units = s.units ∧ t.waitList = s.waitList := by
  have seats : t.seats = s.seats.relink z (s.selectedLink z) (s.zones.get z).mutes.decode := by
    rw [h.seats, rebind_leaves other]
    exact release_none idle
  exact ⟨(congrFun (congrArg Seats.pos seats) z).trans idle, congrArg Seats.units seats, congrArg Seats.wait seats⟩

/-! ## The allocation -/

theorem askedMicros_of {s : State} {z : ZoneId} {i : SrcId} {l : LinkId} (selected : (s.zones.get z).selected = some i)
    (link : (s.sources.get i).input = some l) : s.askedMicros z = (s.sources.get i).lipSync := by
  rw [State.askedMicros, selectedLink_of selected, link, selected]
  rfl

theorem allocate_fits {free n frames : Nat} (micros : Nat) (rate : Rate) (fits : n * frames ≤ free) :
    allocate free n frames micros rate = { words := n * frames, frames := frames, micros := micros, limited := false } := if_pos fits

theorem allocate_limits {free n frames : Nat} (micros : Nat) (rate : Rate) (exceeds : free < n * frames) :
    allocate free n frames micros rate =
      { words := n * (free / n), frames := free / n, micros := framesMicros (free / n) rate, limited := true } :=
  if_neg (Nat.not_le.mpr exceeds)

/-- The allocation is n × L words where they fit, and what they come to for each speaker otherwise, which sets LIMITED (R112, R113). -/
theorem Obtains.allocates {s t : State} {z : ZoneId} {micros : Nat} (h : Obtains s z t) (asked : s.askedMicros z = micros) :
    let rate := (t.zones.get z).rate
    let n := (zoneChannels s.speakers z).length
    (n * delayFrames micros rate ≤ freeFor s z → (t.zones.get z).alloc =
        some { words := n * delayFrames micros rate, frames := delayFrames micros rate, micros := micros, limited := false } ∧
      ∀ k, (t.ports.get k).flags.get Flag.limited.index = (s.ports.get k).flags.get Flag.limited.index) ∧
    (freeFor s z < n * delayFrames micros rate → (t.zones.get z).alloc =
        some { words := n * (freeFor s z / n), frames := freeFor s z / n, micros := framesMicros (freeFor s z / n) rate, limited := true } ∧
      ∀ k, (t.ports.get k).flags.get Flag.limited.index = true) := by
  obtain ⟨-, alloc, limited⟩ := h
  rw [State.bindingAllocation, asked] at alloc limited
  refine ⟨fun fits => ?_, fun exceeds => ?_⟩
  · rw [allocate_fits micros _ fits] at alloc limited
    exact ⟨alloc, fun k => (limited k).trans (Bool.or_false _)⟩
  · rw [allocate_limits micros _ exceeds] at alloc limited
    exact ⟨alloc, fun k => (limited k).trans (Bool.or_true _)⟩

/-- Without a link there is no delay to hold (R112). -/
theorem Obtains.allocates_none {s t : State} {z : ZoneId} (h : Obtains s z t) (unlinked : s.selectedLink z = none) :
    (t.zones.get z).alloc = some { words := 0, frames := 0, micros := 0, limited := false } := by
  have asked : s.askedMicros z = 0 := by rw [State.askedMicros, unlinked]
  have frames (rate : Rate) : delayFrames 0 rate = 0 := by simp [delayFrames]
  have alloc := h.alloc
  rw [State.bindingAllocation, asked, frames, allocate_fits 0 _ (by rw [Nat.mul_zero]; exact Nat.zero_le _)] at alloc
  exact alloc

/-! ## POWER_OFF in STARTING -/

/-- A unit that is freed, or stays with the zones left on it (R47, R51). -/
theorem released_position {s t : State} {z : ZoneId} {u : UnitId} (seats : t.seats = (s.seats.release z).relink z none false)
    (attached : (s.zones.get z).decode = .attached u) :
    ((∃ y, y ≠ z ∧ (s.zones.get y).decode = .attached u) → t.units = s.units ∧ t.waitList = s.waitList) ∧
      ((∀ y, y ≠ z → (s.zones.get y).decode ≠ .attached u) → s.waitList = [] → t.waitList = [] ∧
        (∀ v, v ≠ u → t.units.get v = s.units.get v) ∧
        t.units.get u = { s.units.get u with state := .free, link := none, output := [], owed := false }) := by
  have units : t.units = (s.seats.release z).units := congrArg Seats.units seats
  have wait : t.waitList = (s.seats.release z).wait := congrArg Seats.wait seats
  rw [units, wait]
  refine ⟨fun ⟨y, ne, other⟩ => release_shared (a := s.seats) attached ne other, fun last empty => ?_⟩
  obtain ⟨gone, freed⟩ := release_frees (a := s.seats) attached last empty
  rw [freed]
  refine ⟨gone, fun v ne => ?_, setAt_get_self _ _ _⟩
  rw [setAt_get, if_neg (Ne.symm ne)]
  rfl

theorem waiter_ne {s : State} {y z : ZoneId} {u : UnitId} (waiting : (s.zones.get y).decode = .waiting)
    (attached : (s.zones.get z).decode = .attached u) : y ≠ z := by
  rintro rfl
  rw [waiting] at attached
  exact absurd attached nofun

/-- A freed unit goes to the head of the wait list and the waiters on its link (R52). -/
theorem released_grants {s t : State} {y z : ZoneId} {u : UnitId} {rest : List ZoneId} {k : LinkId}
    (seats : t.seats = (s.seats.release z).relink z none false) (attached : (s.zones.get z).decode = .attached u)
    (waits : ∀ y, y ∈ s.waitList → (s.zones.get y).decode = .waiting)
    (last : ∀ y, y ≠ z → (s.zones.get y).decode ≠ .attached u) (head : s.waitList = y :: rest)
    (link : (s.zones.get y).link = some k) :
    (t.units.get u).state = .syncing ∧ (t.units.get u).link = some k ∧
      t.waitList = rest.filter (fun w => decide ((s.zones.get w).link ≠ some k)) ∧
      (∀ v, v ≠ u → t.units.get v = s.units.get v) ∧
      ∀ w, (w = y ∨ (w ∈ rest ∧ (s.zones.get w).link = some k)) →
        (t.zones.get w).decode = .attached u ∧ (t.zones.get w).mutes.decode = true := by
  obtain ⟨wait, units, granted⟩ := release_grants (a := s.seats) attached last head link
  have here : t.units = setAt s.units u (.syncingOn k s.fresh) := (congrArg Seats.units seats).trans units
  refine ⟨?_, ?_, (congrArg Seats.wait seats).trans wait, fun v ne => ?_, fun w told => ?_⟩
  · rw [here, setAt_get_self]
    rfl
  · rw [here, setAt_get_self]
    rfl
  · rw [here, setAt_get, if_neg (Ne.symm ne)]
  · have listed : w ∈ s.waitList := by
      rw [head]
      rcases told with rfl | ⟨later, -⟩
      · exact List.mem_cons_self
      · exact List.mem_cons_of_mem _ later
    have ne : w ≠ z := waiter_ne (waits w listed) attached
    obtain ⟨pos, muted⟩ := granted w told
    exact ⟨(congrFun (congrArg Seats.pos seats) w).trans pos, ((congrFun (congrArg Seats.muted seats) w).trans (if_neg ne)).trans muted⟩

/-! ## SELECT_SOURCE in STARTING -/

theorem rebound_same {s t : State} {z : ZoneId} {l : LinkId} (need : linkNeedsDecode s l = true)
    (seats : t.seats = (s.seats.relink z (some l) false).rebind (linkNeedsDecode s) z (s.zones.get z).link (some l))
    (same : (s.zones.get z).link = some l) (placed : (s.zones.get z).decode ≠ .none) :
    (t.zones.get z).decode = (s.zones.get z).decode ∧ t.units = s.units ∧ t.waitList = s.waitList := by
  rw [rebind_same (a := s.seats.relink z (some l) false) need same placed] at seats
  exact ⟨(congrFun (congrArg Seats.pos seats) z).trans (tell_pos_self _ z _), congrArg Seats.units seats, congrArg Seats.wait seats⟩

theorem rebound_moves {s t : State} {z : ZoneId} {l : LinkId} (need : linkNeedsDecode s l = true)
    (seats : t.seats = (s.seats.relink z (some l) false).rebind (linkNeedsDecode s) z (s.zones.get z).link (some l))
    (moves : (s.zones.get z).link ≠ some l) : t.seats = ((s.seats.relink z (some l) false).release z).place z l :=
  seats.trans (rebind_moves need fun same => moves same.1)

/-! ## The statement -/

/-- Settles O58: the arbiter's turn and the allocation of a binding at POWER_ON, of a release at POWER_OFF, and of a rebind at
SELECT_SOURCE. -/
theorem bindingObtains : Obligations.BindingObtains := by
  refine ⟨fun s p tag zb z i ready index standby idle selected => ?_, fun s p tag zb z u ready index starting attached waits => ?_,
    fun s p tag zb sb z i ready index named starting waits => ?_⟩
  · obtain ⟨t, step, obtains⟩ := powerOn_obtains (tag := tag) ready index standby
    have link := selectedLink_of selected
    refine ⟨t, step, fun l d input carries last bsf => placed_position (obtains.places idle (link.trans input) carries last bsf),
      fun other => obtains.unplaced idle fun l e => linkNeedsDecode_false fun d => other l d (link.symm.trans e), ?_,
      fun unlinked => obtains.allocates_none (link.trans unlinked)⟩
    rintro l n want free hz input rfl rfl rfl rfl
    exact obtains.allocates (askedMicros_of selected input)
  · obtain ⟨t, step, seats⟩ := powerOff_releases (tag := tag) ready index starting
    obtain ⟨shared, freed⟩ := released_position seats attached
    have left : (t.zones.get z).decode = .none := (congrFun (congrArg Seats.pos seats) z).trans (release_pos (a := s.seats) waits)
    exact ⟨t, step, left, shared, fun last =>
      ⟨freed last, fun y rest k head link => released_grants seats attached waits last head link⟩⟩
  · obtain ⟨t, step, seats⟩ := selectSource_rebinds (tag := tag) ready index named starting
    have pos (y : ZoneId) : (t.zones.get y).decode = t.seats.pos y := rfl
    refine ⟨t, step, fun l d same input carries last bsf placed => ?_, fun other => ?_,
      fun l d moves input carries last bsf => ?_⟩
    · rw [input] at seats
      exact rebound_same (linkNeedsDecode_of_carries carries last bsf) seats same placed
    · rw [rebind_leaves fun l input => linkNeedsDecode_false fun d => other l d input] at seats
      rw [pos, seats]
      exact release_pos (a := s.seats.relink z _ false) waits
    · rw [input] at seats
      have moved := rebound_moves (linkNeedsDecode_of_carries carries last bsf) seats moves
      have units : t.units = t.seats.units := rfl
      have wait : t.waitList = t.seats.wait := rfl
      rw [pos, units, wait, moved]
      refine ⟨fun waiting full => moved_waiter (a := s.seats.relink z (some l) false) waiting (fun v => (full v).1) fun v => (full v).2,
        fun u y k attached last others queue link differs => ?_⟩
      have ne : y ≠ z := waiter_ne (waits y (queue ▸ List.mem_cons_self)) attached
      rw [pos, moved]
      exact moved_last (a := s.seats.relink z (some l) false) attached ne last others queue ((if_neg ne).trans link) differs

end Sys2Proof.Machine
end

section
/-! What the laws of TONE and of the auto-standby countdown read of a zone, and the operations that leave it as it is (R82, R149). -/

namespace Sys2Proof.Machine

/-! ## What the laws read -/

/-- What the laws of TONE and of the auto-standby countdown read of a zone record. -/
structure Ticks where
  power : Power
  toned : Bool
  runs : Bool
  setting : Nat
  counts : Bool

def Zone.ticks (r : Zone) : Ticks :=
  { power := r.power, toned := r.mutes.tone, runs := r.tone.running, setting := r.autoStandby, counts := r.countdown.isSome }

/-- TONE is present exactly while the sequencer runs, in ON alone (R149). -/
def Ticks.toneLawful (k : Ticks) : Prop := k.toned = k.runs ∧ (k.runs = true → k.power = .on)

/-- A zone is ON and quiet with a setting above 0, so that its countdown has cause to run (R82). -/
def Ticks.due (k : Ticks) (quiet : Bool) : Bool := decide (k.power = .on) && quiet && decide (0 < k.setting)

/-- The countdown runs exactly where it has cause to (R82). -/
def Ticks.countLawful (k : Ticks) (quiet : Bool) : Prop := k.counts = k.due quiet

/-- What the laws read of each zone: its record, and whether it is quiet. -/
def State.ticking (s : State) (z : ZoneId) : Ticks × Bool := ((s.zones.get z).ticks, zoneQuiet s z)

theorem toneLawful_iff (s : State) (z : ZoneId) : (s.zones.get z).toneLawful ↔ (s.ticking z).1.toneLawful := Iff.rfl

theorem due_iff (k : Ticks) (quiet : Bool) : k.due quiet = true ↔ k.power = .on ∧ 0 < k.setting ∧ quiet = true := by
  simp only [Ticks.due, Bool.and_eq_true, decide_eq_true_eq]
  tauto

theorem countdownsFollow_iff (s : State) : countdownsFollow s ↔ ∀ z, (s.ticking z).1.countLawful (s.ticking z).2 :=
  forall_congr' fun z => by
    rw [← zoneQuiet_iff]
    refine Iff.trans ?_ (Bool.eq_iff_iff (b := (s.ticking z).1.due (s.ticking z).2)).symm
    exact iff_congr Iff.rfl (due_iff (s.zones.get z).ticks (zoneQuiet s z)).symm

/-- Both laws of zone `z` stand in `t` where they stand in `s`. -/
structure Timely (z : ZoneId) (s t : State) : Prop where
  tone : (s.ticking z).1.toneLawful → (t.ticking z).1.toneLawful
  count : (s.ticking z).1.countLawful (s.ticking z).2 → (t.ticking z).1.countLawful (t.ticking z).2

theorem Timely.refl (z : ZoneId) (s : State) : Timely z s s := ⟨id, id⟩

theorem Timely.trans {z : ZoneId} {s t u : State} (h : Timely z s t) (k : Timely z t u) : Timely z s u :=
  ⟨fun i => k.tone (h.tone i), fun i => k.count (h.count i)⟩

theorem timely_of_eq {z : ZoneId} {s t : State} (h : t.ticking z = s.ticking z) : Timely z s t := by
  constructor <;> rw [h] <;> exact id

/-- Both laws of every zone stand in `t` where they stand in `s`. -/
def KeepsTime (s t : State) : Prop := ∀ z, Timely z s t

theorem KeepsTime.refl (s : State) : KeepsTime s s := fun z => .refl z s

theorem KeepsTime.trans {s t u : State} (h : KeepsTime s t) (k : KeepsTime t u) : KeepsTime s u := fun z => (h z).trans (k z)

theorem KeepsTime.ite {s t u : State} {b : Prop} [Decidable b] (h : KeepsTime s t) (k : KeepsTime s u) :
    KeepsTime s (if b then t else u) := by
  split <;> assumption

theorem KeepsTime.forEach {α : Type} (f : State → α → State) (h : ∀ s x, KeepsTime s (f s x)) (xs : List α) (s : State) :
    KeepsTime s (s.forEach xs f) := State.forEach_rel KeepsTime KeepsTime.refl (fun _ _ _ a b => a.trans b) f h xs s

/-! ## Operations that the laws do not see -/

/-- What the laws read stands. -/
def Untimed (s t : State) : Prop := t.ticking = s.ticking

theorem Untimed.refl (s : State) : Untimed s s := rfl

theorem Untimed.trans {s t u : State} (h : Untimed s t) (k : Untimed t u) : Untimed s u := Eq.trans k h

theorem Untimed.ite {s t u : State} {b : Prop} [Decidable b] (h : Untimed s t) (k : Untimed s u) :
    Untimed s (if b then t else u) := by
  split <;> assumption

theorem Untimed.forEach {α : Type} (f : State → α → State) (h : ∀ s x, Untimed s (f s x)) (xs : List α) (s : State) :
    Untimed s (s.forEach xs f) := State.forEach_rel Untimed Untimed.refl (fun _ _ _ a b => a.trans b) f h xs s

theorem Untimed.keeps {s t : State} (h : Untimed s t) : KeepsTime s t := fun z => timely_of_eq (congrFun h z)

theorem zoneQuiet_congr {s t : State} {z : ZoneId} (link : (t.zones.get z).link = (s.zones.get z).link)
    (monitors : t.monitors = s.monitors) : zoneQuiet t z = zoneQuiet s z := by
  unfold zoneQuiet
  rw [link, monitors]

/-- A write of other parts of the state. -/
theorem untimed_of_fields {s t : State} (zones : t.zones = s.zones) (monitors : t.monitors = s.monitors) : Untimed s t :=
  funext fun z => congrArg₂ Prod.mk (by rw [zones]) (zoneQuiet_congr (by rw [zones]) monitors)

/-- What another zone's operation leaves of zone `z` is all that its laws read. -/
theorem ticking_about {s t : State} {z : ZoneId} (h : t.about z = s.about z) : t.ticking z = s.ticking z := by
  have zone := about_zone h
  obtain ⟨-, monitors, -⟩ := about_frame h
  exact congrArg₂ Prod.mk (congrArg Zone.ticks zone :) (zoneQuiet_congr (sansArbiter_link zone) monitors)

theorem untimed_of_sansArbiter {s t : State} (h : t.sansArbiter = s.sansArbiter) : Untimed s t :=
  funext fun z => ticking_about (about_of_sansArbiter h z)

/-- A zone's record is rewritten, and what its laws read of it stands. -/
def Zone.Untimed (r x : Zone) : Prop := x.ticks = r.ticks ∧ x.link = r.link

theorem Zone.Untimed.refl (r : Zone) : r.Untimed r := ⟨rfl, rfl⟩

theorem Zone.Untimed.trans {r x y : Zone} (h : r.Untimed x) (k : x.Untimed y) : r.Untimed y :=
  ⟨k.1.trans h.1, k.2.trans h.2⟩

theorem Zone.Untimed.ite {r x y : Zone} {b : Prop} [Decidable b] (h : r.Untimed x) (k : r.Untimed y) :
    r.Untimed (if b then x else y) := by
  split <;> assumption

theorem putZone_untimed {s : State} {z : ZoneId} {r : Zone} (h : (s.zones.get z).Untimed r) : Untimed s (s.putZone z r) := by
  funext y
  have record : (s.zones.get y).Untimed ((s.putZone z r).zones.get y) := by
    rw [State.putZone_zones, setAt_get]
    split
    next e => exact e ▸ h
    next => exact .refl _
  exact congrArg₂ Prod.mk record.1 (zoneQuiet_congr record.2 rfl)

theorem updZone_untimed (s : State) (z : ZoneId) (f : Zone → Zone)
    (h : ∀ r, Zone.Untimed r (f r) := by exact fun _ => ⟨rfl, rfl⟩) : Untimed s (s.updZone z f) := putZone_untimed (h _)

theorem autoZone_untimed (s : State) (z : ZoneId) (f : Zone → Zone)
    (h : ∀ r, Zone.Untimed r (f r) := by exact fun _ => ⟨rfl, rfl⟩) : Untimed s (s.autoZone z f) :=
  putZone_untimed (.ite ((h _).trans ⟨rfl, rfl⟩) (h _))

theorem zoneOrigin_untimed (s : State) (z : ZoneId) (o : Origin) : Untimed s (s.zoneOrigin z o) := updZone_untimed s z _

theorem raise_untimed (s : State) (f : Flag) : Untimed s (s.raise f) := untimed_of_fields rfl rfl

theorem putPort_untimed (s : State) (p : Port) (r : PortState) : Untimed s (s.putPort p r) := untimed_of_fields rfl rfl

theorem updChannel_untimed (s : State) (c : Chan) (f : Channel → Channel) : Untimed s (s.updChannel c f) :=
  untimed_of_fields rfl rfl

theorem updPair_untimed (s : State) (q : PairId) (f : Pair → Pair) : Untimed s (s.updPair q f) := untimed_of_fields rfl rfl

theorem updLink_untimed (s : State) (l : LinkId) (f : Link → Link) : Untimed s (s.updLink l f) := untimed_of_fields rfl rfl

theorem updUnit_untimed (s : State) (u : UnitId) (f : DecodeUnit → DecodeUnit) : Untimed s (s.updUnit u f) :=
  untimed_of_fields rfl rfl

theorem putSource_untimed (s : State) (i : SrcId) (e : SourceEntry) : Untimed s (s.putSource i e) := untimed_of_fields rfl rfl

theorem putEncoder_untimed (s : State) (e : EncId) (r : Encoder) : Untimed s (s.putEncoder e r) := untimed_of_fields rfl rfl

theorem putTuner_untimed (s : State) (x : Tuner) : Untimed s (s.putTuner x) := untimed_of_fields rfl rfl

end Sys2Proof.Machine
end

section
/-! The output stage, frames and the decode arbiter leave TONE and the countdown alone (R82, R149). -/

namespace Sys2Proof.Machine

/-! ## Output stage -/

theorem presentChannel_untimed (z : ZoneId) (s : State) (c : Chan) : Untimed s (presentChannel z s c) := by
  unfold presentChannel
  split
  · split <;> exact updChannel_untimed _ _ _
  · exact .ite (updChannel_untimed _ _ _) (.refl s)

theorem beginPeriod_untimed (s : State) (z : ZoneId) : Untimed s (beginPeriod s z) :=
  (Untimed.forEach _ (presentChannel_untimed z) _ s).trans
    (.forEach _ (by exact fun t q => .ite (updPair_untimed t q _) (.refl t)) _ _)

theorem stopCarrier_untimed (s : State) (z : ZoneId) : Untimed s (stopCarrier s z) :=
  (Untimed.forEach _ (presentChannel_untimed z) _ s).trans
    (.forEach _ (by exact fun t q => .ite (updPair_untimed t q _) (.refl t)) _ _)

theorem beginFrame_untimed (s : State) (z : ZoneId) (m : DriveMode) : Untimed s (beginFrame s z m) :=
  (updZone_untimed s z _).trans (beginPeriod_untimed _ z)

theorem handDrive_untimed (s : State) (z : ZoneId) (m : DriveMode) : Untimed s (handDrive s z m) :=
  (updZone_untimed s z _).trans (.ite (beginFrame_untimed _ z m) (.refl _))

theorem restartCarrier_untimed (s : State) (z : ZoneId) : Untimed s (restartCarrier s z) :=
  .ite (.refl s) (beginFrame_untimed s z _)

theorem takeDuties_untimed (s : State) (z : ZoneId) : Untimed s (takeDuties s z) :=
  .forEach _ (fun t c => updChannel_untimed t c _) _ s

theorem offerTrip_untimed (s : State) (q : PairId) (cause : Cause) : Untimed s (offerTrip s q cause) := by
  have hold (t : State) : Untimed t (startHold t q) :=
    ((updChannel_untimed t _ _).trans (updChannel_untimed _ _ _)).trans (updPair_untimed _ q _)
  unfold offerTrip
  split
  · exact (updPair_untimed s q _).trans (hold _)
  · exact (updPair_untimed s q _).trans (hold _)
  · exact .refl s

theorem probePair_untimed (s : State) (q : PairId) : Untimed s (probePair s q) := by
  unfold probePair
  split <;> exact updPair_untimed s q _

theorem faultTrip_untimed (s : State) (q : PairId) : Untimed s (faultTrip s q) :=
  (updPair_untimed s q _).trans (offerTrip_untimed _ q _)

theorem samplePair_untimed (z : ZoneId) (flt : Vector Bool 6) (s : State) (q : PairId) : Untimed s (samplePair z flt s q) :=
  (updPair_untimed s q _).trans
    (.ite (.ite (.ite (faultTrip_untimed _ q) (updPair_untimed _ q _)) (updPair_untimed _ q _)) (.refl _))

theorem carrierBoundary_untimed (s : State) (z : ZoneId) (flt : Vector Bool 6) : Untimed s (carrierBoundary s z flt) := by
  have next (t : State) (stop : Prop) [Decidable stop] (take : Bool) (h : Untimed s t) :
      Untimed s (if stop then stopCarrier t z else beginPeriod (if take then takeDuties t z else t) z) := by
    refine h.trans (.ite (stopCarrier_untimed t z) ?_)
    split
    · exact (takeDuties_untimed t z).trans (beginPeriod_untimed _ z)
    · exact beginPeriod_untimed t z
  exact .ite (.refl s) (next _ _ _ ((Untimed.forEach _ (samplePair_untimed z flt) pairIds s).trans (updZone_untimed _ z _)))

theorem dcExpiry_untimed (s : State) (c : Chan) : Untimed s (dcExpiry s c) := by
  unfold dcExpiry
  split
  · exact .ite ((updChannel_untimed s c _).trans (offerTrip_untimed _ _ _)) (.refl s)
  · exact .refl s

/-! ## Frames -/

theorem write_untimed (r : Zone) (f : BufFrame) : r.Untimed (r.write f) := by
  rw [Zone.write_frame]
  exact ⟨rfl, rfl⟩

theorem writeFrame_untimed (s : State) (z : ZoneId) (f : BufFrame) : Untimed s (writeFrame s z f) :=
  updZone_untimed s z _ fun r => write_untimed r f

theorem untimed_of_took {n : Nat} {r x : Zone} (h : r.took n x) : r.Untimed x := by
  obtain ⟨fs, -, same⟩ := h
  have written : r.Untimed (fs.foldl Zone.write r) := by
    clear same
    induction fs generalizing r with
    | nil => exact .refl r
    | cons f fs ih => exact (write_untimed r f).trans ih
  exact written.trans ⟨(congrArg Zone.ticks same :), (congrArg Zone.link same :)⟩

/-- Frames that reach the zones on a link, from it or from a unit. -/
theorem untimed_of_framesPass {s t : State} (h : framesPass s t) : Untimed s t := by
  obtain ⟨⟨-, monitors, -⟩, took⟩ := h
  exact funext fun z => congrArg₂ Prod.mk (untimed_of_took (took z)).1 (zoneQuiet_congr (untimed_of_took (took z)).2 monitors)

/-- What an output frame reads and brings into force (R70, R81, R96). -/
theorem frameRead_untimed (r : Zone) (spk : Vector Speaker 12) (z : ZoneId) :
    r.Untimed (r.readFrame spk z).1.takeShadow.shiftTone := by
  have vals (r : Zone) (v : DescValues) : r.Untimed (r.takeVals spk z v) := .ite ⟨rfl, rfl⟩ ⟨rfl, rfl⟩
  have shadow (r : Zone) : r.Untimed r.takeShadow := by
    unfold Zone.takeShadow
    split
    · exact ⟨rfl, rfl⟩
    · exact .refl r
  have tone (r : Zone) : r.Untimed r.shiftTone := .ite ⟨rfl, rfl⟩ (.refl r)
  refine (Zone.Untimed.trans ?_ (shadow _)).trans (tone _)
  unfold Zone.readFrame
  split
  · split
    · exact ⟨rfl, rfl⟩
    · dsimp only
      split
      · exact Zone.Untimed.trans ⟨rfl, rfl⟩ (vals _ _)
      · exact ⟨rfl, rfl⟩
  · exact .refl r

theorem formFrame_untimed (s : State) (z : ZoneId) : Untimed s (formFrame s z) := by
  have row (x : Vector Sample 8) (t : State) (c : CoefRow) : Untimed t (frameRow z x t c) :=
    (updZone_untimed t z _).trans (updChannel_untimed _ _ _)
  have tone (t : State) : Untimed t (t.updZone z Zone.countTone) :=
    updZone_untimed t z _ fun r => .ite ⟨rfl, rfl⟩ (.refl r)
  exact ((putZone_untimed (frameRead_untimed _ s.speakers z)).trans (.forEach _ (row _) _ _)).trans (tone _)

/-! ## Units -/

theorem countBsf_untimed (s : State) (l : LinkId) (n : Nat) : Untimed s (countBsf s l n) := updLink_untimed s l _

theorem unitTakesBlock_untimed (s : State) (u : UnitId) (l : LinkId) (d : Descriptor) (fs : List MantissaFrame) :
    Untimed s (unitTakesBlock s u l d fs) := by
  have told (t : State) : Untimed t (clearDecodeMute t u) := .forEach _ (fun t z => autoZone_untimed t z _) _ t
  unfold unitTakesBlock
  dsimp only
  split
  · exact .refl s
  · split
    · exact (countBsf_untimed s l _).trans (updUnit_untimed _ u _)
    · exact (countBsf_untimed s l _).trans (updUnit_untimed _ u _)
  · split
    · exact (updUnit_untimed s u _).trans (told _)
    · exact (countBsf_untimed s l _).trans (updUnit_untimed _ u _)

/-- The unit that serves a link takes a block of it, if there is one. -/
theorem servingTakes_untimed (s : State) (l : LinkId) (d : Descriptor) (fs : List MantissaFrame) :
    Untimed s (match servingUnit s l with
      | some u => unitTakesBlock s u l d fs
      | none => s) := by
  split
  · exact unitTakesBlock_untimed s _ l d fs
  · exact .refl s

theorem takeSnapshot_untimed (s : State) : Untimed s (takeSnapshot s) := by
  unfold takeSnapshot
  split
  · exact (Untimed.forEach _ (by exact fun t l => updLink_untimed t l _) linkIds s).trans (untimed_of_fields rfl rfl)
  · exact .refl s

end Sys2Proof.Machine
end

section
/-! Bindings, power, rebind causes and the tone keep the laws of TONE and of the countdown (R60 to R68, R82, R149). -/

namespace Sys2Proof.Machine

/-! ## An operation on one zone -/

theorem keepsTime_of_zone {s t : State} {z : ZoneId} (others : ∀ y, z ≠ y → t.about y = s.about y) (self : Timely z s t) :
    KeepsTime s t := fun y => by
  by_cases e : z = y
  · exact e ▸ self
  · exact timely_of_eq (ticking_about (others y e))

theorem updZone_keepsTime {s : State} {z : ZoneId} {f : Zone → Zone} (self : Timely z s (s.updZone z f)) :
    KeepsTime s (s.updZone z f) := keepsTime_of_zone (fun _ e => updZone_about s e f) self

theorem autoZone_ticks (s : State) (z : ZoneId) (f : Zone → Zone) :
    ((s.autoZone z f).zones.get z).ticks = (f (s.zones.get z)).ticks := by
  obtain ⟨o, record⟩ := autoZone_record s z f
  rw [record]
  rfl

theorem power_of_ticks {r x : Zone} (h : x.ticks = r.ticks) : x.power = r.power := (congrArg Ticks.power h :)

theorem counts_of_ticks {r x : Zone} (h : x.ticks = r.ticks) : x.countdown.isSome = r.countdown.isSome :=
  (congrArg Ticks.counts h :)

theorem ticks_of_sansArbiter {r x : Zone} (h : x.sansArbiter = r.sansArbiter) : x.ticks = r.ticks := (congrArg Zone.ticks h :)

/-! ## What an operation makes of what the laws read -/

/-- The power state changes. -/
def Ticks.into (k : Ticks) (p : Power) : Ticks := { k with power := p }

/-- The tone ends. -/
def Ticks.ended (k : Ticks) : Ticks := { k with toned := if k.runs then false else k.toned, runs := false }

/-- The countdown stops. -/
def Ticks.stopped (k : Ticks) : Ticks := { k with counts := false }

/-- The countdown starts where it has cause to, and stops nowhere. -/
def Ticks.starting (k : Ticks) (quiet : Bool) : Ticks := { k with counts := k.due quiet || k.counts }

/-- In ON the countdown runs afresh where it has cause to, and stops elsewhere. -/
def Ticks.afresh (k : Ticks) (quiet : Bool) : Ticks := { k with counts := if k.power = .on then k.due quiet else k.counts }

theorem due_off {k : Ticks} (off : k.power ≠ .on) (quiet : Bool) : k.due quiet = false := by simp [Ticks.due, off]

theorem due_into_off (k : Ticks) {p : Power} (off : p ≠ .on) (quiet : Bool) : (k.into p).due quiet = false :=
  due_off (k := k.into p) off quiet

theorem toneLawful_ended {k : Ticks} (h : k.toneLawful) : k.ended.toneLawful := by
  refine ⟨?_, nofun⟩
  show (if k.runs = true then false else k.toned) = false
  split
  · rfl
  next idle => rw [h.1, Bool.eq_false_iff.mpr idle]

theorem afresh_off {k : Ticks} (off : k.power ≠ .on) (quiet : Bool) : k.afresh quiet = k := by simp [Ticks.afresh, off]

theorem countLawful_afresh {k : Ticks} (quiet : Bool) (h : k.power ≠ .on → k.counts = false) :
    (k.afresh quiet).countLawful quiet := by
  by_cases on : k.power = .on
  · simp [Ticks.countLawful, Ticks.afresh, on, Ticks.due]
  · rw [afresh_off on, Ticks.countLawful, h on, due_off on]

theorem countLawful_starting {k : Ticks} {quiet : Bool} (h : k.counts = true → k.due quiet = true) :
    (k.starting quiet).countLawful quiet := by
  show (k.due quiet || k.counts) = k.due quiet
  cases counts : k.counts with
  | false => simp
  | true => simp [h counts]

/-- The laws of a zone by what they read of it. -/
theorem timely_of_ticks {s t : State} {z : ZoneId} {k : Ticks} (h : (t.zones.get z).ticks = k)
    (tone : (s.zones.get z).ticks.toneLawful → k.toneLawful)
    (count : (s.zones.get z).ticks.countLawful (zoneQuiet s z) → k.countLawful (zoneQuiet t z)) : Timely z s t := by
  subst h
  exact ⟨tone, count⟩

theorem toneLawful_off {k : Ticks} {p : Power} (off : k.power ≠ .on) (h : k.toneLawful) : (k.into p).toneLawful :=
  ⟨h.1, fun runs => absurd (h.2 runs) off⟩

theorem countLawful_off {k : Ticks} {p : Power} {a b : Bool} (off : k.power ≠ .on) (still : p ≠ .on) (h : k.countLawful a) :
    (k.into p).countLawful b := (h.trans (due_off off a)).trans (due_into_off k still b).symm

/-- A zone that is not ON comes to another state that is not ON, with its countdown and its tone as they were. -/
theorem timely_of_off {s t : State} {z : ZoneId} {p : Power} (off : (s.zones.get z).power ≠ .on) (still : p ≠ .on)
    (h : (t.zones.get z).ticks = (s.zones.get z).ticks.into p) : Timely z s t :=
  timely_of_ticks h (toneLawful_off off) (countLawful_off off still)

/-! ## The countdown -/

theorem startCountdown_zone (s : State) (z : ZoneId) : (startCountdown s z).zones.get z =
    if (s.zones.get z).power = .on ∧ zoneQuiet s z = true ∧ 0 < (s.zones.get z).autoStandby then
      { s.zones.get z with countdown := some (newTimer s.ms ((s.zones.get z).autoStandby * 60000)) }
    else s.zones.get z := State.updZone_get_self s z _

theorem startCountdown_ticks (s : State) (z : ZoneId) :
    ((startCountdown s z).zones.get z).ticks = (s.zones.get z).ticks.starting (zoneQuiet s z) := by
  rw [startCountdown_zone]
  generalize zoneQuiet s z = quiet
  generalize s.zones.get z = r
  have due : r.ticks.due quiet = decide (r.power = .on ∧ quiet = true ∧ 0 < r.autoStandby) := by
    rw [Bool.eq_iff_iff, due_iff, decide_eq_true_iff]
    exact and_congr Iff.rfl And.comm
  unfold Ticks.starting
  rw [due]
  split
  next start => simp [Zone.ticks, start]
  next start => simp [Zone.ticks, start]

theorem startCountdown_quiet (s : State) (z : ZoneId) : zoneQuiet (startCountdown s z) z = zoneQuiet s z := by
  refine zoneQuiet_congr ?_ rfl
  rw [startCountdown_zone]
  split <;> rfl

/-- A zone comes to ON, and its countdown starts where it has cause to. -/
theorem timely_of_on {s t : State} {z : ZoneId} (off : (s.zones.get z).power ≠ .on)
    (h : (t.zones.get z).ticks = (s.zones.get z).ticks.into .on) : Timely z s (startCountdown t z) := by
  refine timely_of_ticks (startCountdown_ticks t z) (fun law => ?_) fun law => ?_
  · rw [h]
    exact ⟨law.1, fun _ => rfl⟩
  · rw [startCountdown_quiet]
    refine countLawful_starting fun counts => ?_
    rw [h] at counts
    exact nomatch counts.symm.trans (law.trans (due_off off _))

/-! ## A binding -/

theorem bindRecord_ticks (s : State) (r : Zone) : (bindRecord s r).ticks = r.ticks := by
  cases h : (takeCopy s.sources r).link with
  | none =>
    rw [bindRecord_unlinked h, bindClock_kept]
    simp only [Zone.ticks, takeCopy]
  | some l =>
    rw [bindRecord_linked h, bindClock_kept]
    simp only [Zone.ticks, takeCopy, linkMutes]

theorem bindingTaken_ticks (s : State) (z : ZoneId) (rebind : Bool) :
    ((bindingTaken s z rebind).zones.get z).ticks = (s.zones.get z).ticks := by
  have yielded (r : Zone) : (r.yielded rebind).ticks = r.ticks := by cases rebind <;> rfl
  rw [bindingTaken_eq, autoZone_ticks, bindRecord_ticks, autoZone_ticks, yielded]

theorem bindingEntered_ticks (s : State) (z : ZoneId) : ((bindingEntered s z).zones.get z).ticks = (s.zones.get z).ticks := by
  have allocated : ((allocateZone s z).zones.get z).ticks = (s.zones.get z).ticks := by
    rw [allocateZone_zone]
    rfl
  have entered (spk : Vector Speaker 12) (v : Option DescValues) (r : Zone) : (r.enterPath spk z v).ticks = r.ticks := by
    simp only [Zone.enterPath, Zone.ticks]
  rw [bindingEntered_eq, autoZone_ticks, entered, allocated]

theorem driven_ticks {r x : Zone} (h : r.driven x) : x.ticks = r.ticks := by
  obtain ⟨m, p, rfl⟩ := h
  rfl

theorem bindingCarried_ticks (s : State) (z : ZoneId) (rebind : Bool) :
    ((bindingCarried s z rebind).zones.get z).ticks = (s.zones.get z).ticks := by
  have carried := bindCarrier_zone (primeDelays (bindingEntered (bindingPlaced s z rebind) z) z) z (s.zones.get z).rate
  rw [primeDelays_zones] at carried
  exact (driven_ticks carried).trans ((bindingEntered_ticks _ z).trans
    ((ticks_of_sansArbiter (sansArbiter_zone (rebindDecode_sansArbiter _ z _ _) z)).trans (bindingTaken_ticks s z rebind)))

theorem quiet_congr {r x : Zone} {s t : State} (link : x.link = r.link) (monitors : t.monitors = s.monitors) :
    x.quiet t ↔ r.quiet s := by
  unfold Zone.quiet
  rw [link, monitors]

/-- A zone's record once its countdown has been settled by the quiet of its link. -/
theorem afresh_of_counted {r : Zone} {c : Option Timer} {s t : State} {q : Bool} (monitors : t.monitors = s.monitors)
    (quiet : q = true ↔ Zone.quiet { r with countdown := c } t)
    (on : r.power = .on → c = if 0 < r.autoStandby ∧ r.quiet s then r.fullCountdown s else none)
    (off : r.power ≠ .on → c.isSome = r.countdown.isSome) : Zone.ticks { r with countdown := c } = r.ticks.afresh q := by
  have quiet : q = true ↔ r.quiet s := quiet.trans (quiet_congr rfl monitors)
  have fresh : c.isSome = if r.power = .on then r.ticks.due q else r.countdown.isSome := by
    split
    next isOn =>
      rw [on isOn, Bool.eq_iff_iff, due_iff, quiet]
      split
      next start => exact iff_of_true rfl ⟨isOn, start.1, start.2⟩
      next start => exact iff_of_false nofun fun e => start e.2
    next isOff => exact off isOff
  exact congrArg (fun b => ({ r.ticks with counts := b } : Ticks)) fresh

/-- A binding keeps what the laws read but for the quiet of the link it takes, by which the countdown starts afresh in ON (R82). -/
theorem bindZone_ticks (s : State) (z : ZoneId) (rebind : Bool) : ((bindZone s z rebind).zones.get z).ticks =
    (s.zones.get z).ticks.afresh (zoneQuiet (bindZone s z rebind) z) := by
  obtain ⟨c, counted, count⟩ := bindZone_counted s z rebind
  obtain ⟨-, monitors, -⟩ := bindZone_frame s z rebind
  have carried := bindingCarried_ticks s z rebind
  have stands := bindZone_countdown (s := s) (z := z) rebind
  have quiet := zoneQuiet_iff (bindZone s z rebind) z
  rw [counted] at quiet
  rw [← power_of_ticks carried] at stands
  rw [← carried, counted]
  refine afresh_of_counted monitors quiet count fun off => ?_
  rw [counts_of_ticks carried, ← stands off, counted]

theorem bindZone_ticks_off {s : State} {z : ZoneId} (rebind : Bool) (off : (s.zones.get z).power ≠ .on) :
    ((bindZone s z rebind).zones.get z).ticks = (s.zones.get z).ticks :=
  (bindZone_ticks s z rebind).trans (afresh_off off _)

theorem bindZone_timely (s : State) (z : ZoneId) (rebind : Bool) : Timely z s (bindZone s z rebind) :=
  timely_of_ticks (bindZone_ticks s z rebind) id fun law =>
    countLawful_afresh _ fun off => Eq.trans law (due_off off _)

theorem bindZone_keepsTime (s : State) (z : ZoneId) (rebind : Bool) : KeepsTime s (bindZone s z rebind) :=
  keepsTime_of_zone (fun _ e => bindZone_about s e rebind) (bindZone_timely s z rebind)

theorem rebindCause_keepsTime (s : State) (z : ZoneId) : KeepsTime s (rebindCause s z) := by
  rcases rebindCause_cases s z with e | ⟨-, e | e⟩
  · rw [e]
    exact .refl s
  · rw [e]
    exact bindZone_keepsTime s z true
  · rw [e]
    exact (autoZone_untimed s z _).keeps

/-! ## The tone -/

theorem endTone_ticks (s : State) (z : ZoneId) : ((endTone s z).zones.get z).ticks = (s.zones.get z).ticks.ended := by
  unfold endTone
  rw [State.updZone_get_self]
  generalize s.zones.get z = r
  unfold Ticks.ended
  split
  next runs => simp [Zone.ticks, runs]
  next idle => simp [Zone.ticks, idle]

theorem endTone_link (s : State) (z : ZoneId) : ((endTone s z).zones.get z).link = (s.zones.get z).link := by
  obtain ⟨-, t, m, record⟩ := endTone_record s z
  rw [record]
  rfl

theorem endTone_keepsTime (s : State) (z : ZoneId) : KeepsTime s (endTone s z) := by
  refine updZone_keepsTime (timely_of_ticks (endTone_ticks s z) toneLawful_ended fun law => ?_)
  exact law.trans (congrArg _ (zoneQuiet_congr (endTone_link s z) rfl).symm)

theorem toneStep_untimed (s : State) (z : ZoneId) : Untimed s (toneStep s z) := (updZone_untimed s z _).trans (raise_untimed _ _)

/-- A zone's record as a start of the tone leaves it (R150). -/
def Zone.toned (r : Zone) (t : Tone) : Zone := { r with tone := t, mutes := { r.mutes with tone := true } }

/-- A tone starts in ON alone (R149, R150). -/
theorem toned_keepsTime {s : State} {z : ZoneId} (on : (s.zones.get z).power = .on) {t : Tone} (runs : t.running = true) :
    KeepsTime s (s.updZone z fun r => r.toned t) := by
  have ticks (r : Zone) : (r.toned t).ticks = { r.ticks with toned := true, runs := true } := by
    simp only [Zone.toned, Zone.ticks, runs]
  have link (r : Zone) : (r.toned t).link = r.link := rfl
  have record : (s.updZone z fun r => r.toned t).zones.get z = (s.zones.get z).toned t := State.updZone_get_self s z _
  refine updZone_keepsTime (timely_of_ticks ((congrArg Zone.ticks record).trans (ticks _)) (fun _ => ⟨rfl, fun _ => on⟩)
    fun law => law.trans (congrArg _ (Eq.symm ?_)))
  exact zoneQuiet_congr (by rw [record, link]) rfl

theorem startTone_keepsTime {s : State} {z : ZoneId} (on : (s.zones.get z).power = .on) (pattern : Pattern) (m : StepMode)
    (dwell : Nat) (o : Origin) : KeepsTime s (startTone s z pattern m dwell o) :=
  (toned_keepsTime on rfl).trans ((zoneOrigin_untimed _ z o).trans (raise_untimed _ _)).keeps

/-! ## Power -/

theorem releaseZone_ticks (s : State) (z : ZoneId) : ((releaseZone s z).zones.get z).ticks = (s.zones.get z).ticks := by
  have released : ((releaseDecode s z).autoZone z Zone.releaseRecord).zones = (releaseZone s z).zones :=
    (forEach_dropChannel_zones _ _).symm
  have record (r : Zone) : r.releaseRecord.ticks = r.ticks := by
    simp only [Zone.releaseRecord, Zone.letGo, Mutes.released, Zone.ticks]
  rw [← released, autoZone_ticks, record]
  exact ticks_of_sansArbiter (sansArbiter_zone (releaseDecode_sansArbiter s z) z)

theorem handDrive_ticks (s : State) (z : ZoneId) (m : DriveMode) :
    ((handDrive s z m).zones.get z).ticks = (s.zones.get z).ticks :=
  congrArg Prod.fst (congrFun (handDrive_untimed s z m) z)

theorem enterDrain_keepsTime {s : State} {z : ZoneId} (off : (s.zones.get z).power ≠ .on) : KeepsTime s (enterDrain s z) := by
  refine keepsTime_of_zone (fun y e => (handDrive_about _ e _).trans ((autoZone_about _ e _).trans (releaseZone_about s e)))
    (timely_of_off (p := .drain) off (by decide) ?_)
  unfold enterDrain
  rw [handDrive_ticks, autoZone_ticks, ← releaseZone_ticks]
  rfl

theorem powerDownStarting_keepsTime {s : State} {z : ZoneId} (off : (s.zones.get z).power ≠ .on) :
    KeepsTime s (powerDownStarting s z) := by
  refine keepsTime_of_zone (fun y e => (handDrive_about _ e _).trans ((autoZone_about _ e _).trans (releaseZone_about s e)))
    (timely_of_off (p := .standby) off (by decide) ?_)
  unfold powerDownStarting
  rw [handDrive_ticks, autoZone_ticks, ← releaseZone_ticks]
  rfl

theorem powerUpZone_keepsTime {s : State} {z : ZoneId} (off : (s.zones.get z).power ≠ .on) : KeepsTime s (powerUpZone s z) := by
  have handed := handDrive_ticks s z .centre
  refine keepsTime_of_zone (fun y e => powerUpZone_about s e) (timely_of_off (p := .starting) off (by decide) ?_)
  have still : ((handDrive s z .centre).zones.get z).power ≠ .on := fun on =>
    off ((power_of_ticks handed).symm.trans on)
  have powered (r : Zone) : (r.powered s.ms).ticks = r.ticks.into .starting := by simp only [Zone.powered, Zone.ticks, Ticks.into]
  rw [powerUpZone_eq, autoZone_ticks, powered, bindZone_ticks_off false still, handed]

theorem powerOn_keepsTime (s : State) (z : ZoneId) (o : Origin) : KeepsTime s (powerOn s z o).1 := by
  unfold powerOn
  split
  next power => exact (powerUpZone_keepsTime (by rw [power]; decide)).trans (zoneOrigin_untimed _ z o).keeps
  · exact (zoneOrigin_untimed s z o).keeps
  · exact (zoneOrigin_untimed s z o).keeps
  next power =>
    refine KeepsTime.trans (keepsTime_of_zone (z := z) (fun y e => ?_) ?_) (zoneOrigin_untimed _ z o).keeps
    · exact (updZone_about _ e _).trans (updZone_about s e _)
    · exact timely_of_on (by rw [power]; decide) (by rw [State.updZone_get_self]; rfl)
  · exact ((updZone_untimed s z _).trans (zoneOrigin_untimed _ z o)).keeps

theorem rampingDown_ticks (s : State) (z : ZoneId) :
    ((rampingDown s z).zones.get z).ticks = ((s.zones.get z).ticks.stopped.ended).into .rampDown := by
  have stopped : ((s.updZone z fun r => { r with countdown := none }).zones.get z).ticks = (s.zones.get z).ticks.stopped := by
    rw [State.updZone_get_self]
    rfl
  rw [← stopped, ← endTone_ticks]
  exact autoZone_ticks _ z _

theorem rampingDown_keepsTime (s : State) (z : ZoneId) : KeepsTime s (rampingDown s z) := by
  refine keepsTime_of_zone (z := z) (fun y e => ?_) (timely_of_ticks (rampingDown_ticks s z) (fun law => ?_) fun _ => ?_)
  · exact (autoZone_about _ e _).trans ((updZone_about _ e _).trans (updZone_about s e _))
  · exact ⟨(toneLawful_ended (k := (s.zones.get z).ticks.stopped) law).1, nofun⟩
  · exact (due_into_off _ (by decide) _).symm

theorem powerOff_keepsTime (s : State) (z : ZoneId) (o : Origin) : KeepsTime s (powerOff s z o).1 := by
  have down := (rampingDown_keepsTime s z)
  have off : ((rampingDown s z).zones.get z).power ≠ .on := by rw [(rampingDown_record s z).power]; decide
  have downOn : KeepsTime s (powerDownOn s z) := by
    rw [powerDownOn_eq]
    exact .ite (down.trans (enterDrain_keepsTime off)) down
  unfold powerOff
  split
  · exact (zoneOrigin_untimed s z o).keeps
  · exact (zoneOrigin_untimed s z o).keeps
  next power => exact (powerDownStarting_keepsTime (by rw [power]; decide)).trans (zoneOrigin_untimed _ z o).keeps
  · exact downOn.trans (zoneOrigin_untimed _ z o).keeps
  · exact ((updZone_untimed s z _).trans (zoneOrigin_untimed _ z o)).keeps

theorem startExpiry_keepsTime (s : State) (z : ZoneId) : KeepsTime s (startExpiry s z) := by
  unfold startExpiry
  split
  next due =>
    refine keepsTime_of_zone (fun y e => ?_) (timely_of_on (by rw [due.1]; decide) ?_)
    · exact (updZone_about _ e _).trans ((handDrive_about _ e _).trans (autoZone_about s e _))
    · rw [handDrive_ticks, autoZone_ticks]
      rfl
  · exact .refl s

theorem drainExpiry_keepsTime (s : State) (z : ZoneId) : KeepsTime s (drainExpiry s z) := by
  unfold drainExpiry
  dsimp only
  split
  next due =>
    have off : (s.zones.get z).power ≠ .on := by rw [due.1]; decide
    have ticks : ((handDrive (s.autoZone z fun r => { r with power := .standby, drainTimer := none, restart := none })
        z .off).zones.get z).ticks = { (s.zones.get z).ticks with power := .standby } := by
      rw [handDrive_ticks, autoZone_ticks]
      rfl
    have rests := keepsTime_of_zone (z := z) (fun y e => (handDrive_about _ e .off).trans (autoZone_about s e _))
      (timely_of_off off (by decide) ticks)
    have standby : ((handDrive (s.autoZone z fun r => { r with power := .standby, drainTimer := none, restart := none })
        z .off).zones.get z).power ≠ .on := fun on => nomatch (congrArg Ticks.power ticks).symm.trans on
    split
    · exact rests.trans ((powerUpZone_keepsTime standby).trans (zoneOrigin_untimed _ z _).keeps)
    · exact rests
  · exact .refl s

theorem autoStandbyExpiry_keepsTime (s : State) (z : ZoneId) : KeepsTime s (autoStandbyExpiry s z) :=
  .ite ((powerOff_keepsTime s z .auto).trans (raise_untimed _ _).keeps) (.refl s)

/-! ## Selection, ramp and options -/

theorem selectSource_keepsTime (s : State) (z : ZoneId) (src : Option SrcId) (o : Origin) :
    KeepsTime s (selectSource s z src o) :=
  (((endTone_keepsTime s z).trans (updZone_untimed _ z _).keeps).trans (rebindCause_keepsTime _ z)).trans
    (zoneOrigin_untimed _ z o).keeps

theorem zoneOnEdit_keepsTime (i : SrcId) (s : State) (z : ZoneId) : KeepsTime s (zoneOnEdit i s z) :=
  .ite (rebindCause_keepsTime s z) (.refl s)

theorem rampStep_keepsTime (s : State) (z : ZoneId) : KeepsTime s (rampStep s z) := by
  unfold rampStep
  dsimp only
  split
  · exact .refl s
  · have stepped : Untimed s (s.updZone z fun r =>
        { r with rampCount := 0, qr := rampNext (s.zones.get z).qr (s.zones.get z).target }) := updZone_untimed s z _
    have power := congrArg (fun k : Ticks × Bool => k.1.power) (congrFun stepped z)
    generalize (s.updZone z fun r =>
        { r with rampCount := 0, qr := rampNext (s.zones.get z).qr (s.zones.get z).target }) = t at stepped power ⊢
    refine stepped.keeps.trans (.ite ?_ (.refl t))
    split
    next down =>
      have off : (t.zones.get z).power ≠ .on := fun on => nomatch down.symm.trans (power.symm.trans on)
      exact (enterDrain_keepsTime off).trans (zoneOrigin_untimed _ z _).keeps
    · exact .ite ((bindZone_keepsTime t z true).trans (zoneOrigin_untimed _ z _).keeps) (.refl t)

theorem outputFrame_keepsTime (s : State) (z : ZoneId) : KeepsTime s (outputFrame s z) := by
  have count (t : State) : KeepsTime t (countRampFrame t z) :=
    .ite (.refl t) (.ite (rampStep_keepsTime t z) (updZone_untimed t z _).keeps)
  have formed : Untimed s (if (s.zones.get z).power.isBound then formFrame s z else s) := .ite (formFrame_untimed s z) (.refl s)
  exact formed.keeps.trans (count _)

end Sys2Proof.Machine
end

section
/-! Zone options, announcements and monitors keep the laws of TONE and of the countdown (R82, R83). -/

namespace Sys2Proof.Machine

/-! ## Zone options -/

/-- A countdown that runs does so in ON, while the zone is quiet. -/
def Ticks.countSound (k : Ticks) (quiet : Bool) : Prop := k.counts = true → k.power = .on ∧ quiet = true

theorem countSound_of_lawful {k : Ticks} {quiet : Bool} (h : k.countLawful quiet) : k.countSound quiet := fun counts => by
  obtain ⟨on, -, isQuiet⟩ := (due_iff k quiet).mp (h.symm.trans counts)
  exact ⟨on, isQuiet⟩

/-- What the options of a zone need while they are replaced: TONE as it was, and a countdown that is sound. -/
structure Timely.Sound (z : ZoneId) (s t : State) : Prop where
  tone : (s.ticking z).1.toneLawful → (t.ticking z).1.toneLawful
  count : (s.ticking z).1.countSound (s.ticking z).2 → (t.ticking z).1.countSound (t.ticking z).2

theorem sound_of_ticks {s t : State} {z : ZoneId} {k : Ticks} (h : (t.zones.get z).ticks = k)
    (tone : (s.zones.get z).ticks.toneLawful → k.toneLawful)
    (count : (s.zones.get z).ticks.countSound (zoneQuiet s z) → k.countSound (zoneQuiet t z)) : Timely.Sound z s t := by
  subst h
  exact ⟨tone, count⟩

theorem countSound_afresh {k : Ticks} {a b : Bool} (h : k.countSound a) : (k.afresh b).countSound b := by
  by_cases on : k.power = .on
  · exact countSound_of_lawful (countLawful_afresh b fun off => absurd on off)
  · rw [afresh_off on]
    exact fun counts => absurd (h counts).1 on

theorem bindZone_sound (s : State) (z : ZoneId) (rebind : Bool) : Timely.Sound z s (bindZone s z rebind) :=
  sound_of_ticks (bindZone_ticks s z rebind) id countSound_afresh

theorem sound_of_eq {z : ZoneId} {s t : State} (h : t.ticking z = s.ticking z) : Timely.Sound z s t := by
  constructor <;> rw [h] <;> exact id

theorem rebindCause_sound (s : State) (z : ZoneId) : Timely.Sound z s (rebindCause s z) := by
  rcases rebindCause_cases s z with e | ⟨-, e | e⟩
  · rw [e]
    exact sound_of_eq rfl
  · rw [e]
    exact bindZone_sound s z true
  · rw [e]
    exact sound_of_eq (congrFun (autoZone_untimed s z _) z)

theorem storeClock_untimed (s : State) (z : ZoneId) (m : ClockMode) : Untimed s (storeClock s z m) := by
  have restart (t : State) (old : Rate) (h : Untimed s t) :
      Untimed s (if (t.zones.get z).rate = old then t else restartCarrier t z) :=
    h.trans (.ite (.refl t) (restartCarrier_untimed t z))
  exact restart _ _ (updZone_untimed s z _)

theorem storeClock_about (s : State) {y z : ZoneId} (h : y ≠ z) (m : ClockMode) : (storeClock s y m).about z = s.about z := by
  have restart (t : State) (old : Rate) (k : t.about z = s.about z) :
      (if (t.zones.get y).rate = old then t else restartCarrier t y).about z = s.about z := by
    split
    · exact k
    · exact (restartCarrier_about t h).trans k
  exact restart _ _ (updZone_about s h _)

/-- A zone's record with the five options stored, a shadow set for a new surround mode and the ramp frame count for a new ramp
interval (R83, R89). -/
def Zone.optioned (spk : Vector Speaker 12) (z : ZoneId) (opt : ZoneOptions) (r : Zone) : Zone :=
  let x := { r with mode := opt.mode, night := opt.night, clockMode := opt.clockMode, rampInterval := opt.rampInterval,
                    autoStandby := opt.autoStandby }
  let y := if r.power.isBound ∧ r.mode ≠ opt.mode then { x with shadow := buildFor spk z x } else x
  if r.power.isBound ∧ r.rampInterval ≠ opt.rampInterval then { y with rampCount := 0 } else y

/-- The options are stored, and a new clock mode has acted (R68, R78, R79, R83). -/
def State.clockActed (s : State) (z : ZoneId) (opt : ZoneOptions) : State :=
  let t := s.updZone z (Zone.optioned s.speakers z opt)
  if (s.zones.get z).clockMode = opt.clockMode then t
  else if (s.zones.get z).power.isBound then rebindCause t z else storeClock t z opt.clockMode

theorem setZoneOptions_eq (s : State) (z : ZoneId) (opt : ZoneOptions) (o : Origin) : setZoneOptions s z opt o =
    (if (s.zones.get z).autoStandby = opt.autoStandby then s.clockActed z opt
      else if opt.autoStandby = 0 then (s.clockActed z opt).updZone z fun r => { r with countdown := none }
      else startCountdown (s.clockActed z opt) z).zoneOrigin z o := rfl

theorem due_unset {k : Ticks} (h : k.setting = 0) (quiet : Bool) : k.due quiet = false := by simp [Ticks.due, h]

/-- The setting of the countdown is replaced. -/
def Ticks.withSetting (k : Ticks) (n : Nat) : Ticks := { k with setting := n }

theorem optioned_ticks (spk : Vector Speaker 12) (z : ZoneId) (opt : ZoneOptions) (r : Zone) :
    (r.optioned spk z opt).ticks = r.ticks.withSetting opt.autoStandby := by
  unfold Zone.optioned
  dsimp only
  split <;> split <;> rfl

theorem optioned_link (spk : Vector Speaker 12) (z : ZoneId) (opt : ZoneOptions) (r : Zone) :
    (r.optioned spk z opt).link = r.link := by
  unfold Zone.optioned
  dsimp only
  split <;> split <;> rfl

theorem optioned_quiet (s : State) (z : ZoneId) (opt : ZoneOptions) :
    zoneQuiet (s.updZone z (Zone.optioned s.speakers z opt)) z = zoneQuiet s z :=
  zoneQuiet_congr (by rw [State.updZone_get_self, optioned_link]) (by rfl)

theorem clockActed_sound (s : State) (z : ZoneId) (opt : ZoneOptions) : Timely.Sound z s (s.clockActed z opt) := by
  have stored : Timely.Sound z s (s.updZone z (Zone.optioned s.speakers z opt)) := by
    have ticking : (s.updZone z (Zone.optioned s.speakers z opt)).ticking z =
        ((s.zones.get z).ticks.withSetting opt.autoStandby, zoneQuiet s z) := by
      rw [State.ticking, State.updZone_get_self, optioned_ticks, optioned_quiet]
    constructor <;> rw [ticking] <;> exact id
  have acted (t : State) (h : Timely.Sound z s t) (a b : Prop) [Decidable a] [Decidable b] :
      Timely.Sound z s (if a then t else if b then rebindCause t z else storeClock t z opt.clockMode) := by
    have next (u : State) (k : Timely.Sound z t u) : Timely.Sound z s u :=
      ⟨fun i => k.tone (h.tone i), fun i => k.count (h.count i)⟩
    split
    · exact h
    · split
      · exact next _ (rebindCause_sound t z)
      · exact next _ (sound_of_eq (congrFun (storeClock_untimed t z _) z))
  exact acted _ stored _ _

theorem clockActed_about (s : State) {y z : ZoneId} (h : y ≠ z) (opt : ZoneOptions) :
    (s.clockActed y opt).about z = s.about z := by
  have stored := updZone_about s h (Zone.optioned s.speakers y opt)
  unfold State.clockActed
  dsimp only
  split
  · exact stored
  · split
    · exact (rebindCause_about _ h).trans stored
    · exact (storeClock_about _ h _).trans stored

/-- With the setting as it was, the zone's laws see the clock alone. -/
theorem clockActed_keepsTime {s : State} {z : ZoneId} {opt : ZoneOptions}
    (same : (s.zones.get z).autoStandby = opt.autoStandby) : KeepsTime s (s.clockActed z opt) := by
  have stored : Untimed s (s.updZone z (Zone.optioned s.speakers z opt)) :=
    putZone_untimed ⟨by rw [optioned_ticks, ← same]; rfl, optioned_link _ _ _ _⟩
  exact stored.keeps.trans (.ite (.refl _) (.ite (rebindCause_keepsTime _ z) (storeClock_untimed _ z _).keeps))

theorem setting_of_ticks {r : Zone} {k : Ticks} (h : r.ticks = k) : r.autoStandby = k.setting := (congrArg Ticks.setting h :)

theorem clockActed_setting (s : State) (z : ZoneId) (opt : ZoneOptions) :
    ((s.clockActed z opt).zones.get z).autoStandby = opt.autoStandby := by
  have stored : ((s.updZone z (Zone.optioned s.speakers z opt)).zones.get z).autoStandby = opt.autoStandby := by
    rw [State.updZone_get_self, setting_of_ticks (optioned_ticks _ _ _ _)]
    rfl
  have rebound (t : State) (h : (t.zones.get z).autoStandby = opt.autoStandby) :
      ((rebindCause t z).zones.get z).autoStandby = opt.autoStandby := by
    rcases rebindCause_cases t z with e | ⟨-, e | e⟩
    · rwa [e]
    · rw [e, setting_of_ticks (bindZone_ticks t z true)]
      exact h
    · rw [e, setting_of_ticks (autoZone_ticks t z _)]
      exact h
  unfold State.clockActed
  dsimp only
  split
  · exact stored
  · split
    · exact rebound _ stored
    · exact (setting_of_ticks (congrArg Prod.fst (congrFun (storeClock_untimed _ z _) z))).trans stored

theorem setZoneOptions_keepsTime (s : State) (z : ZoneId) (opt : ZoneOptions) (o : Origin) :
    KeepsTime s (setZoneOptions s z opt o) := by
  have setting := clockActed_setting s z opt
  have sound := clockActed_sound s z opt
  have others (y : ZoneId) (e : z ≠ y) := clockActed_about s e opt
  rw [setZoneOptions_eq]
  refine KeepsTime.trans ?_ (zoneOrigin_untimed _ z o).keeps
  split
  next same => exact clockActed_keepsTime same
  next changed =>
    generalize s.clockActed z opt = t at setting sound others ⊢
    split
    next none =>
      refine keepsTime_of_zone (fun y e => (updZone_about t e _).trans (others y e)) (timely_of_ticks
        (k := (t.zones.get z).ticks.stopped) (by rw [State.updZone_get_self]; rfl) sound.tone fun _ => ?_)
      exact (due_unset (k := (t.zones.get z).ticks.stopped) (setting.trans none) _).symm
    next some_ =>
      refine keepsTime_of_zone (fun y e => (updZone_about t e _).trans (others y e))
        (timely_of_ticks (startCountdown_ticks t z) sound.tone fun law => ?_)
      rw [startCountdown_quiet]
      refine countLawful_starting fun counts => ?_
      obtain ⟨on, quiet⟩ := sound.count (countSound_of_lawful law) counts
      exact (due_iff _ _).mpr ⟨on, (setting.symm ▸ Nat.pos_of_ne_zero some_ : 0 < (t.zones.get z).autoStandby), quiet⟩

/-! ## Announcements -/

theorem onLink_untimed (x : Link) (r : Zone) : r.Untimed (r.onLink x) := by
  rw [Zone.onLink_eq]
  exact ⟨rfl, rfl⟩

theorem zoneOnLink_keepsTime (l : LinkId) (s : State) (z : ZoneId) : KeepsTime s (zoneOnLink l s z) := by
  by_cases link : (s.zones.get z).link = some l
  · have told := (autoZone_untimed s z (Zone.onLink (s.links.get l)) (onLink_untimed _)).keeps
    rw [zoneOnLink_on link]
    exact .ite (told.trans (rebindCause_keepsTime _ z)) told
  · rw [zoneOnLink_of_ne link]
    exact .refl s

theorem announceFormat_keepsTime (s : State) (l : LinkId) : KeepsTime s (announceFormat s l) :=
  (untimed_of_sansArbiter (arbiterLink_sansArbiter s l)).keeps.trans (.forEach _ (zoneOnLink_keepsTime l) zoneIds _)

/-- The countdown of a zone whose link's monitor comes to a state. -/
theorem onActivity_lawful {l : LinkId} {a : Activity} {now : Millis} {r : Zone} {quiet : Bool} (link : r.link = some l)
    (before : r.ticks.countLawful quiet) : (r.onActivity l a now).ticks.countLawful (a != .active) := by
  have running : r.countdown.isSome = r.ticks.due quiet := before
  unfold Zone.onActivity Ticks.countLawful
  rw [if_pos link]
  show Option.isSome (if a = .active then none else if r.power = .on ∧ 0 < r.autoStandby then
      some (newTimer now (r.autoStandby * 60000)) else r.countdown) =
    (decide (r.power = .on) && (a != .active) && decide (0 < r.autoStandby))
  by_cases active : a = .active
  · simp [active]
  · rw [if_neg active]
    split
    next start => simp [active, start]
    next still =>
      have idle : r.ticks.due quiet = false := Bool.eq_false_iff.mpr fun due => by
        obtain ⟨on, above, -⟩ := (due_iff _ _).mp due
        exact still ⟨on, above⟩
      rw [running, idle]
      by_cases on : r.power = .on
      · have zero : r.autoStandby = 0 := Nat.eq_zero_of_not_pos fun above => still ⟨on, above⟩
        simp [zero]
      · simp [on]

theorem onActivity_tone (l : LinkId) (a : Activity) (now : Millis) (r : Zone) :
    (r.onActivity l a now).ticks.toneLawful ↔ r.ticks.toneLawful := by
  unfold Zone.onActivity
  split <;> exact Iff.rfl

/-- A monitor that is written tells the zones on its link (R82). -/
theorem sense_keepsTime (s : State) (l : LinkId) (m : Monitor) : KeepsTime s (s.sense l m) := by
  intro z
  have record := sense_zone s l m z
  have link : ((s.sense l m).zones.get z).link = (s.zones.get z).link := by
    obtain ⟨c, same, -⟩ := sense_countdown s l m z
    rw [same]
    rfl
  have heard : (s.sense l m).monitors = setAt s.monitors l m := rfl
  by_cases on : (s.zones.get z).link = some l
  · have after : zoneQuiet (s.sense l m) z = (m.state != .active) := by
      unfold zoneQuiet
      rw [link, on, heard]
      exact congrArg (fun m : Monitor => m.state != .active) (setAt_get_self _ _ _)
    have before : zoneQuiet s z = ((s.monitors.get l).state != .active) := by
      unfold zoneQuiet
      rw [on]
    refine timely_of_ticks (congrArg Zone.ticks record) (fun law => ?_) fun law => ?_
    · split
      · exact (onActivity_tone l _ _ _).mpr law
      · exact law
    · rw [after]
      split
      · exact onActivity_lawful on law
      next same =>
        have stands : decide ((s.monitors.get l).state = .active) = decide (m.state = .active) := by simpa using same
        have quiet : ((s.monitors.get l).state != .active) = (m.state != .active) := by
          simpa [bne, BEq.beq] using congrArg not stands
        rwa [← quiet, ← before]
  · have told : (s.sense l m).zones.get z = s.zones.get z := by
      rw [record, Zone.onActivity, if_neg on, ite_self]
    refine timely_of_eq (congrArg₂ Prod.mk (congrArg Zone.ticks told) ?_)
    unfold zoneQuiet
    rw [told, heard]
    split
    · rfl
    next k elsewhere =>
      rw [setAt_get_of_ne _ _ fun e : l = k => on (e ▸ elsewhere)]

theorem offerAutoOn_keepsTime (s : State) (l : LinkId) : KeepsTime s (offerAutoOn s l) := by
  unfold offerAutoOn
  split
  next power =>
    split
    next i _ =>
      have off : ((s.updZone 0 fun r => { r with selected := some i }).zones.get 0).power ≠ .on := by
        rw [State.updZone_get_self]
        exact fun on => nomatch power.symm.trans on
      exact (updZone_untimed s 0 _).keeps.trans ((powerUpZone_keepsTime off).trans
        ((zoneOrigin_untimed _ 0 .auto).trans (raise_untimed _ .signal)).keeps)
    · exact .refl s
  · exact .refl s

theorem setMonitor_keepsTime (s : State) (l : LinkId) (m : Monitor) : KeepsTime s (setMonitor s l m) := by
  rw [setMonitor_eq]
  exact .ite ((sense_keepsTime s l m).trans (offerAutoOn_keepsTime _ l)) (sense_keepsTime s l m)

theorem announceState_keepsTime (s : State) (l : LinkId) : KeepsTime s (announceState s l) := by
  have heard : KeepsTime s (monitorOnLink s l) := by
    rw [monitorOnLink_eq]
    exact sense_keepsTime s l _
  exact heard.trans (announceFormat_keepsTime _ l)

theorem zoneOnTuner_untimed (locked : Bool) (s : State) (z : ZoneId) : Untimed s (zoneOnTuner locked s z) :=
  .ite (autoZone_untimed s z _) (.refl s)

end Sys2Proof.Machine
end

section
/-! Monitors, links, the tuner and the encoders keep the laws of TONE and of the countdown (R82, R149). -/

namespace Sys2Proof.Machine

/-! ## Monitors and links -/

theorem monitorFrame_keepsTime (s : State) (l : LinkId) (first last loud : Bool) :
    KeepsTime s (monitorFrame s l first last loud) := by
  rw [monitorFrame_eq]
  exact setMonitor_keepsTime s l _

theorem monitorBlock_keepsTime (s : State) (l : LinkId) (loud : Bool) : KeepsTime s (monitorBlock s l loud) := by
  rw [monitorBlock_eq]
  exact setMonitor_keepsTime s l _

theorem quietExpiry_keepsTime (s : State) (l : LinkId) : KeepsTime s (quietExpiry s l) :=
  .ite (setMonitor_keepsTime s l _) (.refl s)

theorem monitorReached_keepsTime (s : State) (l : LinkId) : KeepsTime s (monitorReached s l) :=
  .ite (setMonitor_keepsTime s l _) (.refl s)

theorem updLink_keepsTime (s : State) (l : LinkId) (f : Link → Link) : KeepsTime s (s.updLink l f) :=
  (updLink_untimed s l f).keeps

/-- A link that takes another state announces it (R18). -/
theorem announced_keepsTime (s : State) (l : LinkId) (f : Link → Link) : KeepsTime s (announceState (s.updLink l f) l) :=
  (updLink_keepsTime s l f).trans (announceState_keepsTime _ l)

theorem enterRecover_keepsTime (s : State) (l : LinkId) : KeepsTime s (enterRecover s l) := by
  have silenced (t : State) : KeepsTime t (announceState (match servingUnit t l with
      | some u => unitSilent t u false
      | none => t) l) := by
    split
    · exact (updUnit_untimed t _ _).keeps.trans (announceState_keepsTime _ l)
    · exact announceState_keepsTime t l
  exact (updLink_keepsTime s l _).trans (silenced _)

theorem deliverFrame_keepsTime (s : State) (l : LinkId) : KeepsTime s (deliverFrame s l) := by
  unfold deliverFrame
  dsimp only
  split
  · exact .refl s
  · split
    · exact updLink_keepsTime s l _
    · exact ((updLink_keepsTime s l _).trans (untimed_of_framesPass (frameToZones_passes _ l _)).keeps).trans
        (monitorFrame_keepsTime _ l _ _ _)

theorem releaseGood_keepsTime (s : State) (l : LinkId) (d : Descriptor) (fs : List RawFrame) (announce : State → State)
    (announced : ∀ t, KeepsTime t (announce t)) : KeepsTime s (releaseGood s l d fs announce) := by
  unfold releaseGood
  dsimp only
  split
  · exact (((updLink_keepsTime s l _).trans (servingTakes_untimed _ l d _).keeps).trans (announced _)).trans
      (monitorBlock_keepsTime _ l _)
  · exact ((updLink_keepsTime s l _).trans (announced _)).trans (updLink_keepsTime _ l _)

theorem enterLocked_keepsTime (s : State) (l : LinkId) (d : Descriptor) (fs : List RawFrame) :
    KeepsTime s (enterLocked s l d fs) :=
  (updLink_keepsTime s l _).trans (releaseGood_keepsTime _ l d fs _ fun t => announceState_keepsTime t l)

theorem releaseBad_keepsTime (s : State) (l : LinkId) (fs : List RawFrame) : KeepsTime s (releaseBad s l fs) := by
  unfold releaseBad
  split
  · exact .refl s
  · split
    · refine KeepsTime.trans ?_ (monitorBlock_keepsTime _ l _)
      split
      · exact (updUnit_untimed s _ _).keeps
      · exact .refl s
    · exact updLink_keepsTime s l _

theorem lockedBlockEnd_keepsTime (s : State) (l : LinkId) : KeepsTime s (lockedBlockEnd s l) := by
  unfold lockedBlockEnd
  dsimp only
  split
  · exact (updLink_keepsTime s l _).trans (.ite (announced_keepsTime _ l _)
      (releaseGood_keepsTime _ l _ _ _ fun t => .ite (.refl t) (announceFormat_keepsTime t l)))
  · exact (updLink_keepsTime s l _).trans
      (.ite (announced_keepsTime _ l _) (.ite (enterRecover_keepsTime _ l) (releaseBad_keepsTime _ l _)))

theorem recoverZero_keepsTime (s : State) (l : LinkId) : KeepsTime s (recoverZero s l) :=
  (untimed_of_framesPass (recoverZero_passes s l)).keeps

theorem recoverFrame_keepsTime (s : State) (l : LinkId) (f : LinkFrame) : KeepsTime s (recoverFrame s l f) := by
  have written (t : State) (g : Link → Link) : KeepsTime t (t.updLink l g) := updLink_keepsTime t l g
  unfold recoverFrame
  dsimp only
  refine (recoverZero_keepsTime s l).trans (.ite (.ite (written _ _) (.refl _))
    (.ite (.ite (written _ _) (written _ _)) (.ite (written _ _) ?_)))
  split
  · split
    · exact (written _ _).trans (enterLocked_keepsTime _ l _ _)
    · exact (written _ _).trans (written _ _)
  · exact written _ _

theorem lockedFrame_keepsTime (s : State) (l : LinkId) (f : LinkFrame) : KeepsTime s (lockedFrame s l f) := by
  unfold lockedFrame
  dsimp only
  exact .ite ((enterRecover_keepsTime s l).trans (recoverZero_keepsTime _ l))
    (.trans (((deliverFrame_keepsTime s l).trans (untimed_of_framesPass (unitDelivers_passes _ l)).keeps).trans
      (updLink_keepsTime _ l _)) (.ite (lockedBlockEnd_keepsTime _ l) (.refl _)))

theorem alignFrame_keepsTime (s : State) (l : LinkId) (f : LinkFrame) : KeepsTime s (alignFrame s l f) := by
  have written (g : Link → Link) : KeepsTime s (s.updLink l g) := updLink_keepsTime s l g
  unfold alignFrame
  dsimp only
  refine .ite (.ite (written _) (.refl s)) (.ite (.ite ?_ (written _)) (.ite (written _) (written _)))
  split
  · exact .ite ((enterLocked_keepsTime s l _ _).trans (lockedFrame_keepsTime _ l f)) (written _)
  · exact written _

theorem closeMeasurement_keepsTime (s : State) (l : LinkId) (ticks : Nat) (wf : Bool) :
    KeepsTime s (closeMeasurement s l ticks wf) := by
  unfold closeMeasurement
  split
  · exact announced_keepsTime s l _
  · exact updLink_keepsTime s l _

theorem measureFrame_keepsTime (s : State) (l : LinkId) (f : LinkFrame) : KeepsTime s (measureFrame s l f) := by
  unfold measureFrame
  split
  · exact updLink_keepsTime s l _
  · exact .ite (closeMeasurement_keepsTime s l _ _) (updLink_keepsTime s l _)

theorem detectFrame_keepsTime (s : State) (l : LinkId) : KeepsTime s (detectFrame s l) := by
  unfold detectFrame
  dsimp only
  split
  · exact updLink_keepsTime s l _
  · exact .ite (announced_keepsTime s l _) (updLink_keepsTime s l _)

theorem linkFrame_keepsTime (s : State) (l : LinkId) (f : LinkFrame) : KeepsTime s (linkFrame s l f) := by
  have loss : KeepsTime s (restartLoss s l) := updLink_keepsTime s l _
  unfold linkFrame
  split
  · exact .refl s
  · exact loss.trans (detectFrame_keepsTime _ l)
  · exact loss.trans (detectFrame_keepsTime _ l)
  · exact loss.trans (measureFrame_keepsTime _ l f)
  · exact loss.trans (measureFrame_keepsTime _ l f)
  · exact loss.trans (alignFrame_keepsTime _ l f)
  · exact loss.trans (alignFrame_keepsTime _ l f)
  · exact loss.trans (lockedFrame_keepsTime _ l f)
  · exact loss.trans (recoverFrame_keepsTime _ l f)
  · exact loss.trans (recoverFrame_keepsTime _ l f)

theorem measurementEnds_keepsTime (s : State) (l : LinkId) (ticks : Nat) (wf : Bool) :
    KeepsTime s (measurementEnds s l ticks wf) := by
  unfold measurementEnds
  split
  · exact (updLink_keepsTime s l _).trans (closeMeasurement_keepsTime _ l ticks wf)
  · exact .refl s

theorem detectReached_keepsTime (s : State) (l : LinkId) : KeepsTime s (detectReached s l) :=
  .ite ((updLink_keepsTime s l _).trans (announced_keepsTime _ l _)) (.refl s)

theorem endBlock_keepsTime (s : State) (l : LinkId) (f : LinkFrame) : KeepsTime s (endBlock s l f) :=
  .ite (linkFrame_keepsTime s l f) (.refl s)

theorem endErrorRun_keepsTime (s : State) (l : LinkId) (f : LinkFrame) : KeepsTime s (endErrorRun s l f) :=
  .ite (.ite (linkFrame_keepsTime s l f) (.refl s)) (.refl s)

theorem lossOfSignal_keepsTime (s : State) (l : LinkId) : KeepsTime s (lossOfSignal s l) :=
  .ite (announced_keepsTime s l _) (.refl s)

theorem alignmentExpiry_keepsTime (s : State) (l : LinkId) : KeepsTime s (alignmentExpiry s l) :=
  .ite (announced_keepsTime s l _) (.refl s)

theorem recoveryExpiry_keepsTime (s : State) (l : LinkId) : KeepsTime s (recoveryExpiry s l) :=
  .ite (announced_keepsTime s l _) (.refl s)

theorem enableLink_keepsTime (s : State) (l : LinkId) : KeepsTime s (enableLink s l) :=
  .ite (announced_keepsTime s l _) (updLink_keepsTime s l _)

theorem disableLink_keepsTime (s : State) (l : LinkId) : KeepsTime s (disableLink s l) :=
  .ite (updLink_keepsTime s l _) (announced_keepsTime s l _)

theorem writeSource_keepsTime (s : State) (i : SrcId) (e : SourceEntry) : KeepsTime s (writeSource s i e) :=
  (putSource_untimed s i e).keeps.trans (.forEach _ (zoneOnEdit_keepsTime i) _ _)

/-! ## Tuner -/

theorem setTuner_untimed (s : State) (x : Tuner) : Untimed s (setTuner s x) :=
  (putTuner_untimed s x).trans (.ite (.refl _) (.forEach _ (zoneOnTuner_untimed _) _ _))

theorem endGate_untimed (s : State) (lo : Option Int) : Untimed s (endGate s lo) := .ite (setTuner_untimed s _) (.refl s)

theorem abandonGate_untimed (s : State) : Untimed s (abandonGate s) := .ite (endGate_untimed s none) (.refl s)

theorem freqEdge_untimed (s : State) (ticks : Nat) : Untimed s (freqEdge s ticks) := by
  unfold freqEdge
  split
  · exact putTuner_untimed s _
  · exact .ite (endGate_untimed s _) (putTuner_untimed s _)
  · exact .refl s

theorem transferDac_untimed (s : State) : Untimed s (transferDac s) :=
  (takeSnapshot_untimed s).trans (untimed_of_fields rfl rfl)

theorem settleExpiry_untimed (s : State) : Untimed s (settleExpiry s) := by
  unfold settleExpiry
  split
  · exact .ite (putTuner_untimed s _) (.refl s)
  · exact .refl s

theorem scanFound_untimed (s : State) (x : Tuner) (level : Nat) : Untimed s (scanFound s x level) :=
  .ite (setTuner_untimed s _) (.ite (setTuner_untimed s _) ((setTuner_untimed s _).trans (raise_untimed _ _)))

theorem testVerdict_untimed (s : State) (x : Tuner) (readings : List (Nat × Bool)) (level : Nat) :
    Untimed s (testVerdict s x readings level) :=
  .ite (.ite (scanFound_untimed s x level) (setTuner_untimed s _)) (setTuner_untimed s _)

theorem takeReading_untimed (s : State) (x : Tuner) (level : Nat) (pilot : Bool) : Untimed s (takeReading s x level pilot) := by
  unfold takeReading
  dsimp only
  split
  · exact .ite (testVerdict_untimed s _ _ level) (putTuner_untimed s _)
  · exact putTuner_untimed s _

theorem levelRise_untimed (s : State) (period : Nat) (pilot : Bool) : Untimed s (levelRise s period pilot) := by
  unfold levelRise
  split
  · exact takeReading_untimed s _ _ pilot
  · exact putTuner_untimed s _

theorem levelTimeout_untimed (s : State) (pilot : Bool) : Untimed s (levelTimeout s pilot) :=
  .ite (takeReading_untimed s _ _ pilot) (.refl s)

theorem thirdReading_untimed (s : State) (period : Nat) (pilot : Bool) : Untimed s (thirdReading s period pilot) :=
  .ite (levelRise_untimed s period pilot) (.refl s)

theorem panelTune_untimed (s : State) (n : Int) : Untimed s (panelTune s n) :=
  .ite (.refl s) (.ite (setTuner_untimed s _) ((setTuner_untimed s _).trans (raise_untimed _ _)))

/-! ## Panel encoders -/

theorem setVolume_untimed (s : State) (z : ZoneId) (q : Int) (o : Origin) : Untimed s (setVolume s z q o) :=
  (updZone_untimed s z _).trans (zoneOrigin_untimed _ z o)

theorem panelVolume_untimed (s : State) (z : ZoneId) (n : Int) : Untimed s (panelVolume s z n) := by
  have taken := (setVolume_untimed s z ((s.zones.get z).qv + n) .panel).trans (raise_untimed _ (.zone z))
  exact .ite taken (taken.trans (raise_untimed _ _))

theorem panelSource_keepsTime (s : State) (n : Int) : KeepsTime s (panelSource s n) := by
  unfold panelSource
  dsimp only
  split
  · split
    · exact .refl s
    · exact .ite (.refl s) (selectSource_keepsTime s 0 _ _)
  · exact .refl s

theorem handSteps_keepsTime (s : State) (b : Binding) (n : Int) : KeepsTime s (handSteps s b n) := by
  cases b with
  | volume z => exact .ite (panelVolume_untimed s z n).keeps (.refl s)
  | tune => exact (panelTune_untimed s n).keeps
  | source => exact panelSource_keepsTime s n
  | none => exact .refl s

theorem makeDetent_keepsTime (s : State) (e : EncId) (clockwise : Bool) : KeepsTime s (makeDetent s e clockwise) :=
  (putEncoder_untimed s e _).keeps.trans (handSteps_keepsTime _ _ _)

theorem filterTakes_keepsTime (s : State) (e : EncId) : KeepsTime s (filterTakes s e) := by
  have written (r : Encoder) : KeepsTime s (s.putEncoder e r) := (putEncoder_untimed s e r).keeps
  have quarter (t : State) (clockwise : Bool) : KeepsTime t (takeQuarter t e clockwise) :=
    .ite (makeDetent_keepsTime t e clockwise) (putEncoder_untimed t e _).keeps
  unfold filterTakes
  dsimp only
  split
  · exact written _
  · split
    · exact .refl s
    · split
      · exact (written _).trans (quarter _ true)
      · exact (written _).trans (quarter _ false)
      · exact written _

end Sys2Proof.Machine
end

section
/-! Every request and every command keeps the laws of TONE and of the countdown (R82, R149). -/

namespace Sys2Proof.Machine

/-! ## Requests -/

/-- A request keeps what its owner's taking keeps, for the ports are not looked at. -/
theorem serve_keepsTime (s : State) (p : Port) (tag : Byte) (payload : List Byte) (owner : State → Reply)
    (h : ∀ t, KeepsTime t (owner t).state) : KeepsTime s (serve s p tag payload owner) :=
  serve_keeps (KeepsTime s) (fun t q r i => i.trans (putPort_untimed t q r).keeps) s p tag payload owner
    (fun t i => i.trans (h t)) (.refl s)

theorem oneIndex_keepsTime (n : Nat) (payload : List Byte) (s : State) (f : State → Fin n → Reply)
    (h : ∀ i, KeepsTime s (f s i).state) : KeepsTime s (oneIndex n payload s f).state := by
  unfold oneIndex
  split
  · split
    · exact h _
    · exact .refl s
  · exact .refl s

theorem noPayload_keepsTime (payload : List Byte) (s : State) (f : State → Reply) (h : KeepsTime s (f s).state) :
    KeepsTime s (noPayload payload s f).state := by
  unfold noPayload
  split
  · exact h
  · exact .refl s

theorem reqSetEventMask_keepsTime (p : Port) (payload : List Byte) (s : State) :
    KeepsTime s (reqSetEventMask p payload s).state := by
  unfold reqSetEventMask
  split
  · exact (putPort_untimed s p _).keeps
  · exact .refl s

theorem reqReadEvents_keepsTime (p : Port) (payload : List Byte) (s : State) : KeepsTime s (reqReadEvents p payload s).state :=
  noPayload_keepsTime payload s _ (putPort_untimed s p _).keeps

theorem reqSetLinkOptions_keepsTime (payload : List Byte) (s : State) : KeepsTime s (reqSetLinkOptions payload s).state := by
  unfold reqSetLinkOptions
  split
  · split
    · rw [State.okOrLimited_state]
      exact updLink_keepsTime s _ _
    · exact .refl s
  · exact .refl s

theorem reqSetSource_keepsTime (payload : List Byte) (s : State) : KeepsTime s (reqSetSource payload s).state := by
  unfold reqSetSource
  split
  · split
    · exact writeSource_keepsTime s _ _
    · exact .refl s
  · exact .refl s

theorem reqSelectSource_keepsTime (o : Origin) (payload : List Byte) (s : State) :
    KeepsTime s (reqSelectSource o payload s).state := by
  unfold reqSelectSource
  split
  · split
    · exact selectSource_keepsTime s _ _ o
    · exact .refl s
  · exact .refl s

theorem reqSetVolume_keepsTime (o : Origin) (payload : List Byte) (s : State) : KeepsTime s (reqSetVolume o payload s).state := by
  unfold reqSetVolume
  split
  · split
    · exact (setVolume_untimed s _ _ o).keeps
    · exact .refl s
  · exact .refl s

theorem reqStepVolume_keepsTime (o : Origin) (payload : List Byte) (s : State) :
    KeepsTime s (reqStepVolume o payload s).state := by
  unfold reqStepVolume
  split
  · split
    · exact (setVolume_untimed s _ _ o).keeps
    · exact .refl s
  · exact .refl s

theorem reqSetMute_keepsTime (o : Origin) (payload : List Byte) (s : State) : KeepsTime s (reqSetMute o payload s).state := by
  unfold reqSetMute
  split
  · split
    · exact ((updZone_untimed s _ _).trans (zoneOrigin_untimed _ _ o)).keeps
    · exact .refl s
  · exact .refl s

theorem reqSetZoneOptions_keepsTime (o : Origin) (payload : List Byte) (s : State) :
    KeepsTime s (reqSetZoneOptions o payload s).state := by
  unfold reqSetZoneOptions
  split
  · split
    · exact setZoneOptions_keepsTime s _ _ o
    · exact .refl s
  · exact .refl s

theorem writeSpeaker_untimed (s : State) (c : Chan) (e : Speaker) : Untimed s (writeSpeaker s c e) := by
  have raised (t : State) (z : Option ZoneId) : Untimed t (raiseZone t z) := by
    cases z
    · exact .refl t
    · exact raise_untimed t _
  have refresh (t : State) (q : PairId) : Untimed t (refreshPair s.speakers t q) := .ite (.refl t) (updPair_untimed t q _)
  have put : Untimed s (s.putSpeaker c e) := untimed_of_fields rfl rfl
  exact ((put.trans (raised _ _)).trans (raised _ _)).trans (refresh _ _)

theorem reqSetSpeaker_keepsTime (payload : List Byte) (s : State) : KeepsTime s (reqSetSpeaker payload s).state := by
  have set (c : Chan) (q : SpeakerRequest) : KeepsTime s (setSpeaker s c q).state := by
    unfold setSpeaker
    split
    · exact .refl s
    · split
      · exact .refl s
      · split
        · exact .refl s
        · split
          · exact .refl s
          · exact (writeSpeaker_untimed s c _).keeps
  unfold reqSetSpeaker
  split
  · split
    · exact set _ _
    · exact .refl s
  · exact .refl s

theorem reqSetModulator_keepsTime (payload : List Byte) (s : State) : KeepsTime s (reqSetModulator payload s).state := by
  unfold reqSetModulator
  split
  · split
    · split
      · exact ((updZone_untimed s _ _).trans (raise_untimed _ _)).keeps
      · exact .refl s
    · exact .refl s
  · exact .refl s

theorem reqSetProtection_keepsTime (payload : List Byte) (s : State) : KeepsTime s (reqSetProtection payload s).state := by
  unfold reqSetProtection
  split
  · split
    · exact ((updPair_untimed s _ _).trans (raise_untimed _ _)).keeps
    · exact .refl s
  · exact .refl s

theorem reqToneStart_keepsTime (o : Origin) (payload : List Byte) (s : State) : KeepsTime s (reqToneStart o payload s).state := by
  unfold reqToneStart
  split
  · split
    · split
      · exact .refl s
      next taken => exact startTone_keepsTime (not_not.mp fun off => taken (.inl off)) _ _ _ o
    · exact .refl s
  · exact .refl s

theorem reqToneNext_keepsTime (o : Origin) (payload : List Byte) (s : State) : KeepsTime s (reqToneNext o payload s).state := by
  refine oneIndex_keepsTime 3 payload s _ fun z => ?_
  split
  · exact ((toneStep_untimed s z).trans (zoneOrigin_untimed _ z o)).keeps
  · exact .refl s

theorem reqToneStop_keepsTime (o : Origin) (payload : List Byte) (s : State) : KeepsTime s (reqToneStop o payload s).state := by
  refine oneIndex_keepsTime 3 payload s _ fun z => ?_
  split
  · exact (endTone_keepsTime s z).trans (zoneOrigin_untimed _ z o).keeps
  · exact .refl s

theorem reqSetBand_keepsTime (o : Origin) (payload : List Byte) (s : State) : KeepsTime s (reqSetBand o payload s).state := by
  unfold reqSetBand
  split
  · split
    · exact .refl s
    · split
      · split
        · exact .refl s
        · exact (setTuner_untimed s _).keeps
      · exact .refl s
  · exact .refl s

theorem reqLoadCalibration_keepsTime (o : Origin) (payload : List Byte) (s : State) :
    KeepsTime s (reqLoadCalibration o payload s).state := by
  unfold reqLoadCalibration
  split
  · split
    · split
      · split
        · exact .refl s
        · exact (setTuner_untimed s _).keeps
      · exact .refl s
    · exact .refl s
  · exact .refl s

theorem reqGetCalibration_keepsTime (payload : List Byte) (s : State) : KeepsTime s (reqGetCalibration payload s).state := by
  unfold reqGetCalibration
  split
  · split <;> exact .refl s
  · exact .refl s

theorem tuneRequest_keepsTime (s : State) (b : Band) (f : Nat) (op : TunerOp) (o : Origin) :
    KeepsTime s (tuneRequest s b f op o).state := by
  unfold tuneRequest
  split
  · exact .refl s
  · exact (setTuner_untimed s _).keeps

theorem reqTune_keepsTime (o : Origin) (payload : List Byte) (s : State) : KeepsTime s (reqTune o payload s).state := by
  unfold reqTune
  split
  · split
    · exact tuneRequest_keepsTime s _ _ _ o
    · exact .refl s
  · exact .refl s

theorem reqSeek_keepsTime (o : Origin) (payload : List Byte) (s : State) : KeepsTime s (reqSeek o payload s).state := by
  unfold reqSeek
  split
  · split
    · split
      · exact .refl s
      · exact (setTuner_untimed s _).keeps
    · exact .refl s
  · exact .refl s

theorem reqScan_keepsTime (o : Origin) (payload : List Byte) (s : State) : KeepsTime s (reqScan o payload s).state := by
  refine noPayload_keepsTime payload s _ ?_
  split
  · exact .refl s
  · exact (setTuner_untimed s _).keeps

theorem putPresets_untimed (s : State) (ps : List Preset) (o : Origin) : Untimed s (putPresets s ps o) :=
  (putTuner_untimed s _).trans (raise_untimed _ _)

theorem reqStorePreset_keepsTime (o : Origin) (payload : List Byte) (s : State) :
    KeepsTime s (reqStorePreset o payload s).state := by
  unfold reqStorePreset
  split
  · dsimp only
    split
    · exact .refl s
    · split
      · exact .refl s
      · split
        · exact .refl s
        · exact (putPresets_untimed s _ o).keeps
  · exact .refl s

theorem reqRecallPreset_keepsTime (o : Origin) (payload : List Byte) (s : State) :
    KeepsTime s (reqRecallPreset o payload s).state := by
  unfold reqRecallPreset
  split
  · split
    · exact tuneRequest_keepsTime s _ _ _ o
    · exact .refl s
  · exact .refl s

theorem reqErasePreset_keepsTime (o : Origin) (payload : List Byte) (s : State) :
    KeepsTime s (reqErasePreset o payload s).state := by
  unfold reqErasePreset
  split
  · split
    · exact (putPresets_untimed s _ o).keeps
    · exact .refl s
  · exact .refl s

theorem reqLoadPresets_keepsTime (o : Origin) (payload : List Byte) (s : State) :
    KeepsTime s (reqLoadPresets o payload s).state := by
  unfold reqLoadPresets
  split
  · split
    · split
      · split
        · split
          · exact (putPresets_untimed s _ o).keeps
          · exact .refl s
        · exact .refl s
      · exact .refl s
    · exact .refl s
  · exact .refl s

theorem reqSetBinding_keepsTime (payload : List Byte) (s : State) : KeepsTime s (reqSetBinding payload s).state := by
  unfold reqSetBinding
  split
  · split
    · exact (putEncoder_untimed s _ _).keeps
    · exact .refl s
  · exact .refl s

/-! ## Resets -/

/-- A zone as a reset leaves it plays no tone and counts down nothing, whatever stood before. -/
theorem timely_of_reset {s t : State} {z : ZoneId} {selected : Option SrcId} {w m : Nat}
    (h : t.zones.get z = Zone.reset selected w m) : Timely z s t := by
  have off : (Zone.reset selected w m).ticks.power ≠ .on := by
    show (Power.standby : Power) ≠ .on
    decide
  exact timely_of_ticks (congrArg Zone.ticks h) (fun _ => ⟨rfl, nofun⟩) fun _ => (due_off off _).symm

theorem softReset_keepsTime (s : State) : KeepsTime s (softReset s) := by
  intro z
  have zones : (softReset s).zones = Vector.ofFn fun z => let r := s.zones.get z; Zone.reset r.selected r.resolution r.minPulse := rfl
  exact timely_of_reset (by rw [zones, ofFn_get])

theorem powerOnReset_keepsTime (s : State) (pins : Pins) : KeepsTime s (powerOnReset s pins) := by
  intro z
  obtain ⟨i, zone⟩ := powerUp_zone pins z
  exact timely_of_reset zone

theorem reqDeviceReset_keepsTime (payload : List Byte) (s : State) : KeepsTime s (reqDeviceReset payload s).state := by
  cases payload with
  | nil => exact softReset_keepsTime s
  | cons b bs => exact .refl s

/-! ## Every command -/

/-- Every command keeps both laws of every zone. -/
theorem exec_keepsTime {c : Instr} {s t : State} (h : exec c s = .next t) : KeepsTime s t := by
  have port (p : Port) (r : PortState) : KeepsTime s (s.putPort p r) := (putPort_untimed s p r).keeps
  cases c <;> cases h
  case readEvents p tag y => exact serve_keepsTime s p tag y _ (reqReadEvents_keepsTime p y)
  case powerOnReset pins => exact powerOnReset_keepsTime s pins
  case deviceReset p tag y => exact serve_keepsTime s p tag y _ (reqDeviceReset_keepsTime y)
  case poll p => exact .ite (port p _) (port p _)
  case fetch p n => exact .ite (port p _) (port p _)
  case setEventMask p tag y => exact serve_keepsTime s p tag y _ (reqSetEventMask_keepsTime p y)
  case getEventMask p tag y => exact serve_keepsTime s p tag y _ fun t => noPayload_keepsTime y t _ (.refl t)
  case unknownCommand p code tag y => exact .ite (.refl s) (serve_keepsTime s p tag y _ .refl)
  case malformedTransaction p mosi bits => exact .ite (.ite (port p _) (port p _)) (.refl s)
  case enableLink p tag y => exact serve_keepsTime s p tag y _ fun t => oneIndex_keepsTime 9 y t _ (enableLink_keepsTime t)
  case disableLink p tag y => exact serve_keepsTime s p tag y _ fun t => oneIndex_keepsTime 9 y t _ (disableLink_keepsTime t)
  case setLinkOptions p tag y => exact serve_keepsTime s p tag y _ (reqSetLinkOptions_keepsTime y)
  case getLinkStatus p tag y => exact serve_keepsTime s p tag y _ fun t => oneIndex_keepsTime 9 y t _ fun _ => .refl t
  case getLinkCounters p tag y => exact serve_keepsTime s p tag y _ fun t => oneIndex_keepsTime 9 y t _ fun _ => .refl t
  case clearCounters p tag y =>
    exact serve_keepsTime s p tag y _ fun t => oneIndex_keepsTime 9 y t _ fun l =>
      updLink_keepsTime t l fun r => { r with counters := clearTotals r.counters }
  case setSource p tag y => exact serve_keepsTime s p tag y _ (reqSetSource_keepsTime y)
  case getSource p tag y => exact serve_keepsTime s p tag y _ fun t => oneIndex_keepsTime 16 y t _ fun _ => .refl t
  case getActivity p tag y => exact serve_keepsTime s p tag y _ fun t => oneIndex_keepsTime 9 y t _ fun _ => .refl t
  case getDecodeStatus p tag y => exact serve_keepsTime s p tag y _ fun t => noPayload_keepsTime y t _ (.refl t)
  case powerOn p tag y =>
    exact serve_keepsTime s p tag y _ fun t => oneIndex_keepsTime 3 y t _ fun z => powerOn_keepsTime t z _
  case powerOff p tag y =>
    exact serve_keepsTime s p tag y _ fun t => oneIndex_keepsTime 3 y t _ fun z => powerOff_keepsTime t z _
  case selectSource p tag y => exact serve_keepsTime s p tag y _ (reqSelectSource_keepsTime _ y)
  case setVolume p tag y => exact serve_keepsTime s p tag y _ (reqSetVolume_keepsTime _ y)
  case stepVolume p tag y => exact serve_keepsTime s p tag y _ (reqStepVolume_keepsTime _ y)
  case setMute p tag y => exact serve_keepsTime s p tag y _ (reqSetMute_keepsTime _ y)
  case setZoneOptions p tag y => exact serve_keepsTime s p tag y _ (reqSetZoneOptions_keepsTime _ y)
  case getZoneStatus p tag y => exact serve_keepsTime s p tag y _ fun t => oneIndex_keepsTime 3 y t _ fun _ => .refl t
  case clearZoneCounters p tag y =>
    exact serve_keepsTime s p tag y _ fun t => oneIndex_keepsTime 3 y t _ fun z =>
      ((updZone_untimed t z fun r => { r with repeats := 0, skips := 0, clips := 0 }).trans (zoneOrigin_untimed _ z _)).keeps
  case getMixMatrix p tag y => exact serve_keepsTime s p tag y _ fun t => oneIndex_keepsTime 3 y t _ fun _ => .refl t
  case getDelayStatus p tag y => exact serve_keepsTime s p tag y _ fun t => noPayload_keepsTime y t _ (.refl t)
  case setSpeaker p tag y => exact serve_keepsTime s p tag y _ (reqSetSpeaker_keepsTime y)
  case getSpeaker p tag y => exact serve_keepsTime s p tag y _ fun t => oneIndex_keepsTime 12 y t _ fun _ => .refl t
  case setModulator p tag y => exact serve_keepsTime s p tag y _ (reqSetModulator_keepsTime y)
  case getModulator p tag y => exact serve_keepsTime s p tag y _ fun t => oneIndex_keepsTime 3 y t _ fun _ => .refl t
  case getOutputStatus p tag y => exact serve_keepsTime s p tag y _ fun t => noPayload_keepsTime y t _ (.refl t)
  case setProtection p tag y => exact serve_keepsTime s p tag y _ (reqSetProtection_keepsTime y)
  case getProtection p tag y => exact serve_keepsTime s p tag y _ fun t => oneIndex_keepsTime 6 y t _ fun _ => .refl t
  case clearProtection p tag y =>
    exact serve_keepsTime s p tag y _ fun t => oneIndex_keepsTime 6 y t _ fun q => .ite (probePair_untimed t q).keeps (.refl t)
  case getProtectionStatus p tag y flt =>
    exact serve_keepsTime s p tag y _ fun t =>
      noPayload_keepsTime y t _ (Untimed.forEach _ (fun t q => updPair_untimed t q _) _ t).keeps
  case toneStart p tag y => exact serve_keepsTime s p tag y _ (reqToneStart_keepsTime _ y)
  case toneNext p tag y => exact serve_keepsTime s p tag y _ (reqToneNext_keepsTime _ y)
  case toneStop p tag y => exact serve_keepsTime s p tag y _ (reqToneStop_keepsTime _ y)
  case setBand p tag y => exact serve_keepsTime s p tag y _ (reqSetBand_keepsTime _ y)
  case getBandTable p tag y => exact serve_keepsTime s p tag y _ fun t => noPayload_keepsTime y t _ (.refl t)
  case loadCalibration p tag y => exact serve_keepsTime s p tag y _ (reqLoadCalibration_keepsTime _ y)
  case getCalibration p tag y => exact serve_keepsTime s p tag y _ (reqGetCalibration_keepsTime y)
  case tune p tag y => exact serve_keepsTime s p tag y _ (reqTune_keepsTime _ y)
  case seek p tag y => exact serve_keepsTime s p tag y _ (reqSeek_keepsTime _ y)
  case scan p tag y => exact serve_keepsTime s p tag y _ (reqScan_keepsTime _ y)
  case getTunerStatus p tag y pilot =>
    exact serve_keepsTime s p tag y _ fun t => noPayload_keepsTime y t _ (putTuner_untimed t _).keeps
  case storePreset p tag y => exact serve_keepsTime s p tag y _ (reqStorePreset_keepsTime _ y)
  case recallPreset p tag y => exact serve_keepsTime s p tag y _ (reqRecallPreset_keepsTime _ y)
  case erasePreset p tag y => exact serve_keepsTime s p tag y _ (reqErasePreset_keepsTime _ y)
  case loadPresets p tag y => exact serve_keepsTime s p tag y _ (reqLoadPresets_keepsTime _ y)
  case getPresets p tag y => exact serve_keepsTime s p tag y _ fun t => noPayload_keepsTime y t _ (.refl t)
  case setBinding p tag y => exact serve_keepsTime s p tag y _ (reqSetBinding_keepsTime y)
  case getEncoderStatus p tag y => exact serve_keepsTime s p tag y _ fun t => oneIndex_keepsTime 2 y t _ fun _ => .refl t
  case linkFrame l f => exact linkFrame_keepsTime s l f
  case detectCountReached l => exact detectReached_keepsTime s l
  case rateMeasurement l ticks wf => exact measurementEnds_keepsTime s l ticks wf
  case blockEnd l f => exact endBlock_keepsTime s l f
  case descriptorErrorRun l f => exact endErrorRun_keepsTime s l f
  case alignmentTimerExpiry l => exact alignmentExpiry_keepsTime s l
  case recoveryTimerExpiry l => exact recoveryExpiry_keepsTime s l
  case lossOfSignal l => exact lossOfSignal_keepsTime s l
  case counterSnapshot => exact (takeSnapshot_untimed s).keeps
  case monitorActive l => exact monitorReached_keepsTime s l
  case quietTimerExpiry l => exact quietExpiry_keepsTime s l
  case startTimerExpiry z => exact startExpiry_keepsTime s z
  case drainTimerExpiry z => exact drainExpiry_keepsTime s z
  case rampStep z => exact rampStep_keepsTime s z
  case bufferFilled z x => exact .ite (writeFrame_untimed s z _).keeps (.refl s)
  case zoneOutputFrame z => exact outputFrame_keepsTime s z
  case autoStandbyExpiry z => exact autoStandbyExpiry_keepsTime s z
  case carrierPeriodBoundary z flt => exact (carrierBoundary_untimed s z flt).keeps
  case faultCountTrip q => exact .ite (faultTrip_untimed s q).keeps (.refl s)
  case dcTimerExpiry c => exact (dcExpiry_untimed s c).keeps
  case retryTimerExpiry q => exact .ite (probePair_untimed s q).keeps (.refl s)
  case probeWindowExpiry q => exact .ite (updPair_untimed s q _).keeps (.refl s)
  case dwellTimerExpiry z => exact .ite (toneStep_untimed s z).keeps (.refl s)
  case dacTransfer => exact (transferDac_untimed s).keeps
  case settleTimeExpiry => exact (settleExpiry_untimed s).keeps
  case gateComplete ticks => exact (endGate_untimed s _).keeps
  case gateAbandoned => exact (abandonGate_untimed s).keeps
  case afcTimerExpiry => exact .ite (putTuner_untimed s _).keeps (.refl s)
  case levelReading period pilot => exact (levelRise_untimed s period pilot).keeps
  case levelTimeout pilot => exact (levelTimeout_untimed s pilot).keeps
  case stationTest period pilot => exact (thirdReading_untimed s period pilot).keeps
  case encoderLineChange e a b => exact .ite (.refl s) (putEncoder_untimed s e _).keeps
  case filterSettled e => exact .ite (filterTakes_keepsTime s e) (.refl s)
  case detent e clockwise => exact makeDetent_keepsTime s e clockwise
  case chipSelectFallingEdge p => exact port p _
  case freqRisingEdge ticks => exact (freqEdge_untimed s ticks).keeps
  case lvlFallingEdge high => exact (putTuner_untimed s _).keeps

/-- Settles O54: every command keeps both laws of every zone, and the queue is not among what they read. -/
theorem toneAndCountdownKept : Obligations.ToneAndCountdownKept := by
  intro s t h
  have kept : KeepsTime s t := step_keeps (P := KeepsTime s) (fun _ _ _ e i => i.trans (exec_keepsTime e))
    (fun u q i => i.trans (untimed_of_fields (s := u) (t := { u with pending := q }) rfl rfl).keeps) h (.refl s)
  exact ⟨fun law z => (kept z).tone (law z), fun law => (countdownsFollow_iff t).mpr fun z =>
    (kept z).count ((countdownsFollow_iff s).mp law z)⟩

end Sys2Proof.Machine
end

section
/-! Loops in which each index has its own turn, and requests that write one zone's record or the pairs (R77, R84 to R86, R146). -/

namespace Sys2Proof.Machine

/-! ## Loops -/

/-- What a loop leaves of a part of the state that one index alone writes: that index's turn, if it is among the indices. -/
theorem forEach_turn {ι α : Type} [DecidableEq ι] {g : State → α} {op : State → ι → State} {i : ι} {turn : α → α}
    (self : ∀ s, g (op s i) = turn (g s)) (other : ∀ s j, j ≠ i → g (op s j) = g s) {xs : List ι} (once : xs.Nodup)
    (s : State) : g (s.forEach xs op) = if i ∈ xs then turn (g s) else g s := by
  induction xs generalizing s with
  | nil => simp
  | cons x xs ih =>
    obtain ⟨fresh, once⟩ := List.nodup_cons.mp once
    rw [State.forEach_cons, ih once]
    by_cases e : x = i
    · subst e
      rw [if_neg fresh, if_pos List.mem_cons_self, self]
    · have same : i ∈ x :: xs ↔ i ∈ xs := by simp [Ne.symm e]
      rw [other s x e]
      simp only [same]

/-! ## A zone's record and its origin -/

/-- A request's write of a zone's record, and its origin, as the whole state they leave (R84, R86). -/
theorem updZone_origin_state (s : State) (z : ZoneId) (f : Zone → Zone) (o : Origin) : (s.updZone z f).zoneOrigin z o =
    { s with zones := setAt s.zones z { f (s.zones.get z) with lastChanged := o }
             ports := s.ports.raiseIf ((s.zones.get z).reportedChange (f (s.zones.get z)) ||
               (f (s.zones.get z)).lastChanged != o) (.zone z) } := by
  rw [zoneOrigin_state, State.updZone_get_self]
  unfold State.updZone State.putZone
  dsimp only
  rw [setAt_setAt, Ports.raiseIf_raiseIf]

/-- A request that writes a zone's record and records its origin, and changes nothing else (R84, R199). -/
theorem serve_zone {s : State} {p : Port} {tag : Byte} {payload : List Byte} {owner : State → Reply} {r : Result}
    {data : List Byte} {z : ZoneId} {f : Zone → Zone} {o : Origin} (ready : Ready s p) (le : payload.length ≤ 250)
    (owns : owner (s.taking p payload.length) =
      { state := ((s.taking p payload.length).updZone z f).zoneOrigin z o, result := r, data := data }) :
    serve s p tag payload owner =
      State.answered { s with
        zones := setAt s.zones z { f (s.zones.get z) with lastChanged := o }
        ports := s.ports.raiseIf ((s.zones.get z).reportedChange (f (s.zones.get z)) ||
          (f (s.zones.get z)).lastChanged != o) (.zone z) } p (s.status p) tag payload.length r data :=
  serve_sources (src := s.sources) ready le (owns.trans (by rw [updZone_origin_state]; rfl))

theorem reportedChange_volume (r : Zone) (q : Int) : r.reportedChange { r with qv := q } = (r.qv != q) := by
  have mode : Zone.effMode { r with qv := q } = r.effMode := rfl
  simp [Zone.reportedChange, mode]

theorem reportedChange_mutes (r : Zone) (m : Mutes) : r.reportedChange { r with mutes := m } = (r.mutes != m) := by
  have mode : Zone.effMode { r with mutes := m } = r.effMode := rfl
  simp [Zone.reportedChange, mode]

theorem reportedChange_counters (r : Zone) : r.reportedChange { r with repeats := 0, skips := 0, clips := 0 } = false := by
  have mode : Zone.effMode { r with repeats := 0, skips := 0, clips := 0 } = r.effMode := rfl
  simp [Zone.reportedChange, mode]

theorem mutes_user_bne (m : Mutes) (on : Bool) : (m != { m with user := on }) = (m.user != on) := by
  rw [Bool.eq_iff_iff, bne_iff_ne, bne_iff_ne]
  exact not_congr ⟨fun same => (congrArg Mutes.user same :), fun same => by subst same; rfl⟩

/-- LIMITED where the value applied is not the value asked for, by the model's test and in the statement's words. -/
theorem limited_eq_okIf (a b : Int) : (if (a != b) = true then Result.limited else Result.ok) = okIf (decide (a = b)) := by
  by_cases e : a = b <;> simp [okIf, e]

theorem three_le {a b c : Byte} : [a, b, c].length ≤ 250 := Nat.le_of_ble_eq_true rfl

theorem yesNo_flag (on : Bool) : yesNo (if on then 1 else 0) = some on := by cases on <;> rfl

theorem flagByte_eq (on : Bool) : flagByte on = [if on then 1 else 0] := by cases on <;> rfl

/-- The answer to a volume request: qv as applied, and whether that is the volume asked for (R77). -/
theorem setVolume_reply (s : State) (z : ZoneId) {q asked : Int} (o : Origin) (value : q = max (-160) (min 24 asked)) :
    (setVolume s z asked o).okOrLimited (clampInt (-160) 24 asked != asked) (i16 (clampInt (-160) 24 asked)) =
      { state := (s.updZone z fun r => { r with qv := q }).zoneOrigin z o, result := okIf (decide (q = asked)), data := i16 q } := by
  have applied : clampInt (-160) 24 asked = q := (clampInt_eq _ _ _ (by decide)).trans value.symm
  unfold setVolume State.okOrLimited
  rw [applied, limited_eq_okIf]

theorem reqSetVolume_eq {zb : Byte} {z : ZoneId} {q : Int} (hi lo : Byte) (o : Origin) (s : State) (index : zb.toNat = z.1)
    (value : q = max (-160) (min 24 (hi ++ lo).toInt)) : reqSetVolume o [zb, hi, lo] s =
      { state := (s.updZone z fun r => { r with qv := q }).zoneOrigin z o, result := okIf (decide (q = (hi ++ lo).toInt))
        data := i16 q } := by
  rw [← setVolume_reply s z o value]
  simp only [reqSetVolume, indexOf_of_toNat index]
  rfl

theorem reqStepVolume_eq {zb nb : Byte} {z : ZoneId} {q : Int} (o : Origin) (s : State) (index : zb.toNat = z.1)
    (value : q = max (-160) (min 24 ((s.zones.get z).qv + nb.toInt))) : reqStepVolume o [zb, nb] s =
      { state := (s.updZone z fun r => { r with qv := q }).zoneOrigin z o
        result := okIf (decide (q = (s.zones.get z).qv + nb.toInt)), data := i16 q } := by
  rw [← setVolume_reply s z o value]
  simp only [reqStepVolume, indexOf_of_toNat index]
  rfl

theorem reqSetMute_eq {zb ob : Byte} {z : ZoneId} {on : Bool} (o : Origin) (s : State) (index : zb.toNat = z.1)
    (byte : ob = if on then 1 else 0) : reqSetMute o [zb, ob] s =
      { state := (s.updZone z fun r => { r with mutes := { r.mutes with user := on } }).zoneOrigin z o, result := .ok
        data := [ob] } := by
  simp only [reqSetMute, indexOf_of_toNat index, byte, yesNo_flag, flagByte_eq]
  rfl

/-- Settles O24: each request is one write of the record with its origin. -/
theorem volumeAndMute : Obligations.VolumeAndMute := by
  refine ⟨fun s p tag zb hi lo z q ready index value => congrArg Host.Outcome.next ?_,
    fun s p tag zb nb z q ready index value => congrArg Host.Outcome.next ?_,
    fun s p tag zb ob z on ready index byte => congrArg Host.Outcome.next ?_⟩
  · refine (serve_zone ready three_le (reqSetVolume_eq hi lo _ _ index value)).trans ?_
    rw [reportedChange_volume]
    rfl
  · refine (serve_zone ready two_le (reqStepVolume_eq _ (s.taking p _) index value)).trans ?_
    rw [reportedChange_volume]
    rfl
  · refine (serve_zone ready two_le (reqSetMute_eq _ _ index byte)).trans ?_
    rw [reportedChange_mutes, mutes_user_bne]
    rfl

/-! ## Reports -/

/-- The FLT lines as a status request sees them: every pair's level, and nothing else (R146). -/
theorem seeFlt_eq (s : State) (flt : Vector Bool 6) :
    seeFlt s flt = { s with pairs := Vector.ofFn fun q => { s.pairs.get q with flt := flt.get q } } := by
  have silent (t : State) (q : PairId) : t.updPair q (fun p => { p with flt := flt.get q }) =
      { t with pairs := setAt t.pairs q { t.pairs.get q with flt := flt.get q } } := by
    simp [State.updPair, State.putPair, Pair.reportedChange]
  have alone : seeFlt s flt = { s with pairs := (seeFlt s flt).pairs } :=
    State.forEach_keeps (fun t => t = { s with pairs := t.pairs }) _ (fun t q kept => by rw [silent, kept]) pairIds s rfl
  have record (q : PairId) : (seeFlt s flt).pairs.get q = { s.pairs.get q with flt := flt.get q } := by
    have all : ∀ q : PairId, q ∈ pairIds := by decide
    refine (forEach_turn (g := fun t : State => t.pairs.get q) (turn := fun p => { p with flt := flt.get q })
      (fun t => ?_) (fun t j ne => ?_) (by decide) s).trans (if_pos (all q))
    · rw [silent]
      exact setAt_get_self _ _ _
    · rw [silent]
      exact setAt_get_of_ne _ _ ne
  rw [alone]
  congr 1
  exact table_ext fun q => by rw [record, ofFn_get]

/-- A request whose owner writes the pairs alone (R194). -/
theorem serve_pairs {s : State} {p : Port} {tag : Byte} {payload : List Byte} {owner : State → Reply} {r : Result}
    {data : List Byte} {ps : Vector Pair 6} (ready : Ready s p) (le : payload.length ≤ 250)
    (owns : owner (s.taking p payload.length) =
      { state := { s.taking p payload.length with pairs := ps }, result := r, data := data }) :
    serve s p tag payload owner = State.answered { s with pairs := ps } p (s.status p) tag payload.length r data := by
  have ports := Ports.raiseIf_answered s.ports false (.zone 0) p ((s.ports.get p).complete false (List.replicate (2 + payload.length) 0))
    (some { tag := tag, result := r, data := data })
  rw [serve_eq ready le owns]
  exact congrArg (fun ports => ({ s with pairs := ps, ports := ports } : State)) ports

/-- Settles O33: the owner of each report answers with the record and leaves the state, but for the FLT lines and the counts. -/
theorem zoneAndOutputReports : Obligations.ZoneAndOutputReports := by
  refine ⟨⟨fun s p tag zb z ready index => ⟨?_, ?_, ?_⟩, fun s p tag ready => ⟨?_, ?_⟩, fun s p tag cb c ready index => ?_,
    fun s p tag qb q ready index => ?_, fun s p tag flt ready => ?_⟩,
    fun s p tag zb z ready index => congrArg Host.Outcome.next ?_⟩
  · exact congrArg Host.Outcome.next (serve_unchanged ready one_le (oneIndex_in_range _ _ index))
  · exact congrArg Host.Outcome.next (serve_unchanged ready one_le (oneIndex_in_range _ _ index))
  · exact congrArg Host.Outcome.next (serve_unchanged ready one_le (oneIndex_in_range _ _ index))
  · exact congrArg Host.Outcome.next (serve_unchanged ready (Nat.zero_le _) rfl)
  · exact congrArg Host.Outcome.next (serve_unchanged ready (Nat.zero_le _) rfl)
  · exact congrArg Host.Outcome.next (serve_unchanged ready one_le (oneIndex_in_range _ _ index))
  · exact congrArg Host.Outcome.next (serve_unchanged ready one_le (oneIndex_in_range _ _ index))
  · refine ⟨seeFlt s flt, congrArg Host.Outcome.next ?_, ?_, fun q => ?_⟩
    · rw [seeFlt_eq]
      refine serve_pairs ready (Nat.zero_le _) ?_
      simp only [noPayload, seeFlt_eq]
      rfl
    · rw [seeFlt_eq]
    · rw [seeFlt_eq]
      exact ofFn_get _ _
  · refine (serve_zone (f := fun r => { r with repeats := 0, skips := 0, clips := 0 }) ready one_le
      (oneIndex_in_range _ _ index)).trans ?_
    rw [reportedChange_counters, Bool.false_or]
    rfl

end Sys2Proof.Machine
end

section
/-! POWER_ON by the power state of the zone (R60 to R64). -/

namespace Sys2Proof.Machine

/-! ## The other zones while an idle zone binds -/

/-- A zone without a decode position has none to release (R51). -/
theorem releaseDecode_idle {s : State} {z : ZoneId} (idle : (s.zones.get z).decode = .none) : releaseDecode s z = s := by
  unfold releaseDecode
  rw [idle]

theorem placeDecode_others (s : State) {y z : ZoneId} (ne : z ≠ y) (l : LinkId) :
    (placeDecode s z l).zones.get y = s.zones.get y := by
  unfold placeDecode
  split
  · exact (setDecode_alone s z _).2 y ne
  · split
    · exact (setDecode_alone (bindUnit s _ l) z _).2 y ne
    · exact (setDecode_alone (s.putWaitList _) z _).2 y ne

theorem rebindDecode_others {s : State} {y z : ZoneId} (ne : z ≠ y) (idle : (s.zones.get z).decode = .none)
    (old new : Option LinkId) : (rebindDecode s z old new).zones.get y = s.zones.get y := by
  unfold rebindDecode
  rw [releaseDecode_idle idle]
  split
  · rfl
  · split
    · split
      · exact (setDecode_alone s z _).2 y ne
      · exact placeDecode_others s ne _
    · rfl

/-- A binding of a zone without a decode position leaves the other zones as a whole (R50, R66). -/
theorem bindZone_others {s : State} {y z : ZoneId} (ne : z ≠ y) (idle : (s.zones.get z).decode = .none) :
    (bindZone s z false).zones.get y = s.zones.get y := by
  have taken := (bindingTaken_alone s z false).2 y ne
  have placed : (bindingPlaced s z false).zones.get y = (bindingTaken s z false).zones.get y :=
    rebindDecode_others ne ((bindingTaken_decode s z).trans idle) _ _
  have rest (t : State) : ((bindCountdown (bindCarrier (primeDelays (bindingEntered t z) z) z (s.zones.get z).rate) z).raise
      (.zone z)).zones.get y = t.zones.get y :=
    (((((bindingEntered_alone t z).trans (primeDelays_alone _ z)).trans (bindCarrier_alone _ z _)).trans
      (bindCountdown_alone _ z)).trans (raise_alone _ (.zone z) z)).2 y ne
  rw [bindZone_eq, rest, placed, taken]

theorem powerUpZone_others {s : State} {y z : ZoneId} (ne : z ≠ y) (idle : (s.zones.get z).decode = .none) :
    (powerUpZone s z).zones.get y = s.zones.get y := by
  obtain ⟨d, n, handed⟩ := handDrive_record s z .centre
  have still : ((handDrive s z .centre).zones.get z).decode = .none := by rw [handed]; exact idle
  rw [powerUpZone_eq, (autoZone_alone _ z _).2 y ne, bindZone_others ne still, (handDrive_alone s z .centre).2 y ne]

theorem powerUpZone_qv (s : State) (z : ZoneId) : ((powerUpZone s z).zones.get z).qv = (s.zones.get z).qv := by
  obtain ⟨d, n, handed⟩ := handDrive_record s z .centre
  have powered (r : Zone) : (r.powered s.ms).qv = r.qv := rfl
  have before : ((handDrive s z .centre).zones.get z).qv = (s.zones.get z).qv := by rw [handed]
  rw [powerUpZone_eq, qv_of_sansArbiter (autoZone_zone_sansArbiter _ z _), powered, bindZone_qv, before]

/-! ## A countdown and a restart as whole states -/

/-- A countdown that starts, or not, in ON: it sets no flag (R82, R86). -/
theorem startCountdown_state {s : State} {z : ZoneId} (on : (s.zones.get z).power = .on) : startCountdown s z =
    { s with zones := setAt s.zones z { s.zones.get z with
        countdown := if 0 < (s.zones.get z).autoStandby ∧ (s.zones.get z).quiet s then (s.zones.get z).fullCountdown s
          else (s.zones.get z).countdown } } := by
  have record := startCountdown_record s z on
  unfold startCountdown at record ⊢
  rw [State.updZone_get_self] at record
  refine (State.updZone_unreported ?_).trans (congrArg (fun r => ({ s with zones := setAt s.zones z r } : State)) record)
  split <;> exact Zone.reportedChange_self _

theorem reportedChange_power {r : Zone} {p : Power} (h : r.power ≠ p) : r.reportedChange { r with power := p } = true := by
  simp [Zone.reportedChange, bne_iff_ne.mpr h]

theorem reportedChange_restarts (r : Zone) (o : Option Origin) : r.reportedChange { r with restart := o } = (r.restart != o) := by
  have mode : Zone.effMode { r with restart := o } = r.effMode := rfl
  simp [Zone.reportedChange, mode]

/-- A zone returns from RAMP_DOWN to ON, with the origin of the POWER_ON (R63, R82). -/
theorem returnsOn_state {s : State} {z : ZoneId} (down : (s.zones.get z).power = .rampDown) (o : Origin) :
    (startCountdown (s.updZone z fun r => { r with power := .on }) z).zoneOrigin z o =
      { s with
        zones := setAt s.zones z { s.zones.get z with
          power := .on, lastChanged := o
          countdown := if 0 < (s.zones.get z).autoStandby ∧ (s.zones.get z).quiet s then (s.zones.get z).fullCountdown s
            else (s.zones.get z).countdown }
        ports := s.ports.raise (.zone z) } := by
  have changes : (s.zones.get z).reportedChange { s.zones.get z with power := .on } = true :=
    reportedChange_power (by rw [down]; decide)
  have record : (s.updZone z fun r => { r with power := .on }).zones.get z = { s.zones.get z with power := .on } :=
    State.updZone_get_self s z _
  rw [startCountdown_state (by rw [record]), zoneOrigin_state]
  dsimp only
  rw [setAt_get_self, setAt_setAt, record]
  unfold State.updZone State.putZone
  dsimp only
  rw [setAt_setAt, Ports.raiseIf_raiseIf, changes]
  rfl

/-- The countdown of a zone that returns to ON, in the statement's words (R82). -/
theorem countdown_returns {r : Zone} {s : State} {cd : Option Timer}
    (h : cd = if r.autoStandby = 0 ∨ ∃ l, r.link = some l ∧ (s.monitors.get l).state = .active then r.countdown
      else some { start := s.ms, len := r.autoStandby * 60000 }) :
    (if 0 < r.autoStandby ∧ r.quiet s then r.fullCountdown s else r.countdown) = cd := by
  have heard : (∃ l, r.link = some l ∧ (s.monitors.get l).state = .active) ↔ ¬ r.quiet s := by
    unfold Zone.quiet
    push Not
    rfl
  rw [h]
  by_cases above : r.autoStandby = 0
  · rw [if_neg fun e => absurd above (Nat.pos_iff_ne_zero.mp e.1), if_pos (.inl above)]
  · by_cases quiet : r.quiet s
    · rw [if_pos ⟨Nat.pos_of_ne_zero above, quiet⟩, if_neg fun e => e.elim above fun active => heard.mp active quiet]
      rfl
    · rw [if_neg fun e => quiet e.2, if_pos (.inr (heard.mpr quiet))]

/-! ## POWER_ON by the power state -/

theorem powerOn_standby {s : State} {z : ZoneId} {o : Origin} (h : (s.zones.get z).power = .standby) :
    powerOn s z o = ((powerUpZone s z).zoneOrigin z o, true) := by
  unfold powerOn
  rw [h]

theorem powerOn_running {s : State} {z : ZoneId} {o : Origin}
    (h : (s.zones.get z).power = .starting ∨ (s.zones.get z).power = .on) : powerOn s z o = (s.zoneOrigin z o, false) := by
  unfold powerOn
  rcases h with h | h <;> rw [h]

theorem powerOn_rampDown {s : State} {z : ZoneId} {o : Origin} (h : (s.zones.get z).power = .rampDown) :
    powerOn s z o = ((startCountdown (s.updZone z fun r => { r with power := .on }) z).zoneOrigin z o, false) := by
  unfold powerOn
  rw [h]

theorem powerOn_drain {s : State} {z : ZoneId} {o : Origin} (h : (s.zones.get z).power = .drain) :
    powerOn s z o = ((s.updZone z fun r => { r with restart := some o }).zoneOrigin z o, true) := by
  unfold powerOn
  rw [h]

theorem zoneOrigin_asked (s : State) (z : ZoneId) (o : Origin) :
    ((s.zoneOrigin z o).zones.get z).selected = (s.zones.get z).selected ∧
      ((s.zoneOrigin z o).zones.get z).qv = (s.zones.get z).qv := by
  rw [zoneOrigin_record]
  exact ⟨rfl, rfl⟩

/-- POWER_ON as a request for one zone: the owner's taking, and its answer in the slot (R60, R192). -/
theorem powerOn_taken {s : State} {p : Port} {tag zb : Byte} {z : ZoneId} (ready : Ready s p) (index : zb.toNat = z.1) :
    ∃ t, exec (.powerOn p tag [zb]) s = .next t ∧ t.zones = (powerOn (s.taking p [zb].length) z (portOrigin p)).1.zones ∧
      t.slot p = some { tag := tag, data := []
                        result := if (powerOn (s.taking p [zb].length) z (portOrigin p)).2 then .accepted else .ok } ∧
      zoneFrameKept s t := by
  have frame : zoneFrameKept s (powerOn (s.taking p [zb].length) z (portOrigin p)).1 :=
    powerOn_frame (s.taking p [zb].length) z (portOrigin p)
  refine ⟨_, congrArg Host.Outcome.next (serve_eq ready one_le (oneIndex_in_range _ _ index)), rfl, ?_, frame⟩
  unfold State.slot State.updPort
  rw [State.putPort_ports, Ports.put_get_self]

/-- Settles O26, each power state by what `powerOn` does in it. -/
theorem powerOnEffect : Obligations.PowerOnEffect := by
  refine ⟨fun s p tag zb z ready index standby => ?_, fun s p tag zb z ready index running => ?_,
    fun s p tag zb z cd ready index down value => ?_, fun s p tag zb z ready index drain => ?_⟩
  · obtain ⟨t, step, zones, slot, frame⟩ := powerOn_taken (tag := tag) ready index
    rw [powerOn_standby (s := s.taking p [zb].length) standby] at zones slot
    obtain ⟨power, -, drive, startTimer, bound, origin⟩ := powerUp_restarted (s := s) (u := s.taking p [zb].length)
      (o := portOrigin p) (putPort_frame s p _) standby rfl rfl
    obtain ⟨-, -, selected, -⟩ := powerUpZone_zone (s := s.taking p [zb].length) standby
    have volume := powerUpZone_qv (s.taking p [zb].length) z
    refine ⟨t, step, slot, ?_⟩
    rw [zones]
    refine ⟨power, startTimer, drive, origin, bound, ?_, ?_, frame, fun idle y ne => ?_⟩
    · exact (zoneOrigin_asked _ z _).1.trans selected
    · exact (zoneOrigin_asked _ z _).2.trans volume
    · exact (zoneOrigin_other _ ne _).trans (powerUpZone_others (s := s.taking p [zb].length) (Ne.symm ne) idle)
  · refine congrArg Host.Outcome.next (serve_sources (src := s.sources) ready one_le ?_)
    refine (oneIndex_in_range _ _ index).trans ?_
    rw [powerOn_running (s := s.taking p [zb].length) running]
    dsimp only
    rw [zoneOrigin_state]
    rfl
  · refine congrArg Host.Outcome.next (serve_sources (b := true) (src := s.sources) ready one_le ?_)
    refine (oneIndex_in_range _ _ index).trans ?_
    rw [powerOn_rampDown (s := s.taking p [zb].length) down]
    dsimp only
    rw [returnsOn_state (s := s.taking p [zb].length) down]
    have value := countdown_returns (s := s.taking p [zb].length) value
    rw [show ((s.taking p [zb].length).zones.get z) = s.zones.get z from rfl, value]
    rfl
  · refine congrArg Host.Outcome.next ((serve_zone (f := fun r => { r with restart := some (portOrigin p) })
      (o := portOrigin p) (z := z) (r := .accepted) (data := []) ready one_le ?_).trans ?_)
    · refine (oneIndex_in_range _ _ index).trans ?_
      rw [powerOn_drain (s := s.taking p [zb].length) drain]
      rfl
    · rw [reportedChange_restarts]
      rfl

end Sys2Proof.Machine
end

section
/-! SELECT_SOURCE by the power state and the path of the zone (R66, R68, R69, R155). -/

namespace Sys2Proof.Machine

/-! ## A run of writes of one zone's record -/

/-- The state with one zone's record written, and its ZONE flag set or not. -/
def State.wrote (s : State) (z : ZoneId) (r : Zone) (b : Bool) : State :=
  { s with zones := setAt s.zones z r, ports := s.ports.raiseIf b (.zone z) }

theorem wrote_get (s : State) (z : ZoneId) (r : Zone) (b : Bool) : (s.wrote z r b).zones.get z = r := setAt_get_self _ _ _

theorem wrote_putZone (s : State) (z : ZoneId) (r x : Zone) (b : Bool) :
    (s.wrote z r b).putZone z x = s.wrote z x (b || r.reportedChange x) := by
  unfold State.putZone
  rw [wrote_get]
  unfold State.wrote
  dsimp only
  rw [setAt_setAt, Ports.raiseIf_raiseIf]

theorem updZone_wrote (s : State) (z : ZoneId) (f : Zone → Zone) :
    s.updZone z f = s.wrote z (f (s.zones.get z)) ((s.zones.get z).reportedChange (f (s.zones.get z))) := rfl

theorem wrote_updZone (s : State) (z : ZoneId) (r : Zone) (b : Bool) (f : Zone → Zone) :
    (s.wrote z r b).updZone z f = s.wrote z (f r) (b || r.reportedChange (f r)) := by
  unfold State.updZone
  rw [wrote_get, wrote_putZone]

theorem wrote_zoneOrigin (s : State) (z : ZoneId) (r : Zone) (b : Bool) (o : Origin) :
    (s.wrote z r b).zoneOrigin z o = s.wrote z { r with lastChanged := o } (b || r.lastChanged != o) := by
  unfold State.zoneOrigin
  rw [wrote_updZone, reportedChange_origin]

/-- An automatic write followed by an origin, where it changes what ZONE reports (R84, R86). -/
theorem wrote_autoZone_origin (s : State) (z : ZoneId) (r : Zone) (b : Bool) (f : Zone → Zone) (o : Origin)
    (reported : ∀ p, r.reportedChange { f r with lastChanged := p } = true) :
    ((s.wrote z r b).autoZone z f).zoneOrigin z o = s.wrote z { f r with lastChanged := o } true := by
  have written (x : Zone) (p : Origin) (h : x = { f r with lastChanged := p }) :
      ((s.wrote z r b).putZone z x).zoneOrigin z o = s.wrote z { f r with lastChanged := o } true := by
    rw [wrote_putZone, wrote_zoneOrigin, h, reported, Bool.or_true, Bool.true_or]
  have audited (c : Bool) : ((s.wrote z r b).putZone z (if c then { f r with lastChanged := .auto } else f r)).zoneOrigin z o =
      s.wrote z { f r with lastChanged := o } true := by
    cases c
    · exact written _ (f r).lastChanged rfl
    · exact written _ .auto rfl
  unfold State.autoZone State.updZone
  rw [wrote_get]
  exact audited _

/-- A request that writes one zone's record alone (R199). -/
theorem serve_wrote {s : State} {p : Port} {tag : Byte} {payload : List Byte} {owner : State → Reply} {r : Result}
    {data : List Byte} {z : ZoneId} {x : Zone} {b : Bool} (ready : Ready s p) (le : payload.length ≤ 250)
    (owns : owner (s.taking p payload.length) = { state := (s.taking p payload.length).wrote z x b, result := r, data := data }) :
    serve s p tag payload owner = (s.wrote z x b).answered p (s.status p) tag payload.length r data :=
  serve_sources (src := s.sources) ready le owns

/-! ## The parts of a selection -/

/-- The record of a zone whose tone has ended (R155). -/
def Zone.toneless (r : Zone) : Zone :=
  { r with tone := { r.tone with running := false, speaker := none, dwellTimer := none }, mutes := { r.mutes with tone := false } }

theorem endTone_eq (s : State) (z : ZoneId) :
    endTone s z = s.updZone z fun r => if r.tone.running then r.toneless else r := rfl

theorem endTone_idle {s : State} {z : ZoneId} (idle : (s.zones.get z).tone.running = false) : endTone s z = s := by
  rw [endTone_eq, State.updZone_unreported]
  · rw [idle, if_neg (by decide), setAt_self]
  · rw [idle, if_neg (by decide)]
    exact Zone.reportedChange_self _

theorem reportedChange_toneless {r : Zone} (h : r.mutes.tone = true) : r.reportedChange r.toneless = true := by
  have changed : (r.mutes != r.toneless.mutes) = true := bne_iff_ne.mpr fun same =>
    nomatch h.symm.trans (congrArg Mutes.tone same)
  simp [Zone.reportedChange, changed]

theorem endTone_running {s : State} {z : ZoneId} (runs : (s.zones.get z).tone.running = true)
    (toned : (s.zones.get z).mutes.tone = true) : endTone s z = s.wrote z (s.zones.get z).toneless true := by
  rw [endTone_eq, updZone_wrote, if_pos runs, reportedChange_toneless toned]

theorem reportedChange_selected (r : Zone) (src : Option SrcId) :
    r.reportedChange { r with selected := src } = (r.selected != src) := by
  have mode : Zone.effMode { r with selected := src } = r.effMode := rfl
  simp [Zone.reportedChange, mode]

/-- A rebind cause that finds nothing to do: the zone is not bound, or its rebind is pending (R68). -/
def Zone.bindsLater (r : Zone) : Prop :=
  r.power = .standby ∨ r.power = .drain ∨ ((r.power = .on ∨ r.power = .rampDown) ∧ r.path = .fading)

theorem rebindCause_rests {s : State} {z : ZoneId} (h : (s.zones.get z).bindsLater) : rebindCause s z = s := by
  unfold rebindCause
  dsimp only
  rcases h with power | power | ⟨power | power, path⟩
  · rw [power]
  · rw [power]
  · rw [power, path]
  · rw [power, path]

theorem reportedChange_path {r x : Zone} (h : r.path ≠ x.path) : r.reportedChange x = true := by
  simp [Zone.reportedChange, bne_iff_ne.mpr h]

/-- A selection that waits is stored, with its origin (R69). -/
theorem selectSource_stores {s : State} {z : ZoneId} (src : Option SrcId) (o : Origin)
    (idle : (s.zones.get z).tone.running = false) (later : (s.zones.get z).bindsLater) : selectSource s z src o =
      (s.updZone z fun r => { r with selected := src }).zoneOrigin z o := by
  unfold selectSource
  rw [endTone_idle idle, rebindCause_rests (by rw [State.updZone_get_self]; exact later)]

/-- A selection in a zone that plays starts its fade (R68, R69). -/
theorem fades_wrote {s : State} {z : ZoneId} {r : Zone} {b : Bool} (o : Origin)
    (power : r.power = .on ∨ r.power = .rampDown) (path : r.path = .playing) (qr : r.qr ≠ none) :
    (rebindCause (s.wrote z r b) z).zoneOrigin z o = s.wrote z { r with path := .fading, lastChanged := o } true := by
  have bound : r.power.isBound = true ∧ r.power ≠ .starting := by
    rcases power with e | e <;> rw [e] <;> decide
  have leaves (p : Origin) : r.path ≠ Zone.path { r with path := .fading, lastChanged := p } := by rw [path]; exact nofun
  rw [rebindCause_plays (by rw [wrote_get]; exact bound.1) (by rw [wrote_get]; exact bound.2) (by rw [wrote_get]; exact path)
    (by rw [wrote_get]; exact qr)]
  exact wrote_autoZone_origin s z r b _ o fun p => reportedChange_path (leaves p)

/-! ## The request -/

theorem orNone_byte {b : Byte} {src : Option SrcId} (h : orNone 16 b = some src) : orNoneByte src = [b] := by
  unfold orNone at h
  split at h
  next e =>
    cases h
    rw [e]
    rfl
  next =>
    obtain ⟨i, found, rfl⟩ := Option.map_eq_some_iff.mp h
    unfold indexOf at found
    split at found
    · cases found
      exact congrArg (fun x => [x]) (BitVec.ofNat_toNat 8 b |>.trans (BitVec.setWidth_eq b))
    · exact nomatch found

theorem reqSelectSource_eq {zb sb : Byte} {z : ZoneId} {src : Option SrcId} (o : Origin) (s : State) (index : zb.toNat = z.1)
    (named : orNone 16 sb = some src) : reqSelectSource o [zb, sb] s =
      { state := selectSource s z src o, result := .ok, data := [sb] } := by
  simp only [reqSelectSource, indexOf_of_toNat index, named, State.ok, orNone_byte named]

/-- The flags of a port are not its slot's. -/
theorem updPort_flags (s : State) (p k : Port) (r : Option Response) :
    ((s.updPort p fun x => { x with slot := r }).ports.get k).flags = (s.ports.get k).flags := by cases p <;> cases k <;> rfl

/-- A flag that is set stays set when an origin is recorded. -/
theorem zoneOrigin_flag {s : State} {z : ZoneId} {o : Origin} {f : Flag} {k : Port}
    (h : (s.ports.get k).flags.get f.index = true) : ((s.zoneOrigin z o).ports.get k).flags.get f.index = true := by
  rw [zoneOrigin_state]
  exact (Ports.raiseIf_flag ..).trans (by rw [h]; rfl)

/-- What a selection leaves of a zone that binds at once: its source taken anew, no tone, and the origin of the request (R66, R69). -/
structure Zone.Selects (r : Zone) (s : State) (src : Option SrcId) (before : Zone) (o : Origin) : Prop where
  selected : r.selected = src
  bound : r.justBound s src before.rate
  power : r.power = before.power
  qv : r.qv = before.qv
  tone : r.tone.running = false
  origin : r.lastChanged = o

theorem selects_origin {r before : Zone} {s : State} {src : Option SrcId} (o : Origin) (selected : r.selected = src)
    (bound : r.justBound s src before.rate) (power : r.power = before.power) (qv : r.qv = before.qv)
    (tone : r.tone.running = false) : Zone.Selects { r with lastChanged := o } s src before o :=
  ⟨selected, bound, power, qv, tone, rfl⟩

/-- A zone that is to bind at once, once its tone has ended and its selection is stored. -/
theorem selecting_record (s : State) (z : ZoneId) (src : Option SrcId) : ∃ t m,
    ((endTone s z).updZone z fun r => { r with selected := src }).zones.get z =
      { s.zones.get z with tone := t, mutes := m, selected := src } ∧ t.running = false := by
  obtain ⟨ended, t, m, record⟩ := endTone_record s z
  refine ⟨t, m, ?_, ?_⟩
  · rw [State.updZone_get_self, record]
  · rw [record] at ended
    exact ended

theorem runs_of_ticks {r : Zone} {k : Ticks} (h : r.ticks = k) : r.tone.running = k.runs := (congrArg Ticks.runs h :)

theorem selectSource_binds {s : State} {z : ZoneId} (src : Option SrcId) (o : Origin) (now : (s.zones.get z).bindsNow) :
    Zone.Selects ((selectSource s z src o).zones.get z) s src (s.zones.get z) o ∧
      ∀ k, ((selectSource s z src o).ports.get k).flags.get (Flag.zone z).index = true := by
  have frame := (endTone_frame s z).trans (updZone_frame (endTone s z) z fun r => { r with selected := src })
  obtain ⟨t, m, record, ended⟩ := selecting_record s z src
  unfold selectSource
  generalize (endTone s z).updZone z (fun r => { r with selected := src }) = u at frame record ⊢
  have runs : (u.zones.get z).tone.running = false := by rw [record]; exact ended
  have binds : (u.zones.get z).bindsNow := by rw [record]; exact now
  rw [rebindCause_binds binds, zoneOrigin_record]
  obtain ⟨bound, power, selected, -⟩ := bindZone_justBound u z true
  have volume := bindZone_qv u z true
  have tone : ((bindZone u z true).zones.get z).tone.running = (u.zones.get z).tone.running :=
    runs_of_ticks (bindZone_ticks u z true)
  rw [record] at bound power selected volume
  exact ⟨selects_origin o selected (justBound_frame frame bound) power volume (tone.trans runs),
    fun k => zoneOrigin_flag (bindZone_flag u z true k)⟩

/-- A selection in a zone whose tone has ended, where the rebind cause finds nothing to do (R69). -/
theorem selectSource_stores_wrote {s : State} {z : ZoneId} (src : Option SrcId) (o : Origin)
    (idle : (s.zones.get z).tone.running = false) (later : (s.zones.get z).bindsLater) : selectSource s z src o =
      s.wrote z { s.zones.get z with selected := src, lastChanged := o }
        ((s.zones.get z).selected != src || (s.zones.get z).lastChanged != o) := by
  rw [selectSource_stores src o idle later, updZone_wrote, wrote_zoneOrigin, reportedChange_selected]

/-- A selection in a zone that plays without a tone (R68, R69). -/
theorem selectSource_fades {s : State} {z : ZoneId} (src : Option SrcId) (o : Origin)
    (idle : (s.zones.get z).tone.running = false) (power : (s.zones.get z).power = .on ∨ (s.zones.get z).power = .rampDown)
    (path : (s.zones.get z).path = .playing) (qr : (s.zones.get z).qr ≠ none) : selectSource s z src o =
      s.wrote z { s.zones.get z with selected := src, path := .fading, lastChanged := o } true := by
  unfold selectSource
  rw [endTone_idle idle, updZone_wrote]
  exact fades_wrote o power path qr

/-- A selection that ends a test tone, where the source does not change at once: the zone fades (R68, R155). -/
theorem selectSource_toned {s : State} {z : ZoneId} (src : Option SrcId) (o : Origin) (on : (s.zones.get z).power = .on)
    (path : (s.zones.get z).path = .fading ∨ ((s.zones.get z).path = .playing ∧ (s.zones.get z).qr ≠ none))
    (runs : (s.zones.get z).tone.running = true) (toned : (s.zones.get z).mutes.tone = true) : selectSource s z src o =
      s.wrote z { (s.zones.get z).toneless with selected := src, path := .fading, lastChanged := o } true := by
  unfold selectSource
  rw [endTone_running runs toned, wrote_updZone]
  rcases path with path | ⟨path, qr⟩
  · have fading : (s.zones.get z).toneless.path = .fading := path
    rw [rebindCause_rests (by rw [wrote_get]; exact .inr (.inr ⟨.inl on, path⟩)), wrote_zoneOrigin, ← fading]
    rfl
  · exact fades_wrote o (.inl on) path qr

theorem bindsNow_of {r : Zone} (which : r.power = .starting ∨ ((r.power = .on ∨ r.power = .rampDown) ∧
    (r.path = .idle ∨ r.path = .filling ∨ (r.path = .playing ∧ r.qr = none)))) : r.bindsNow := by
  unfold Zone.bindsNow
  rcases which with power | ⟨power | power, path⟩
  · exact ⟨by rw [power]; rfl, .inl power⟩
  · exact ⟨by rw [power]; rfl, .inr path⟩
  · exact ⟨by rw [power]; rfl, .inr path⟩

/-- A selection as a request: the owner's taking, and its answer in the slot (R69, R192). -/
theorem selectSource_taken {s : State} {p : Port} {tag zb sb : Byte} {z : ZoneId} {src : Option SrcId} (ready : Ready s p)
    (index : zb.toNat = z.1) (named : orNone 16 sb = some src) : ∃ t, exec (.selectSource p tag [zb, sb]) s = .next t ∧
      t.zones = (selectSource (s.taking p [zb, sb].length) z src (portOrigin p)).zones ∧
      t.slot p = some { tag := tag, result := .ok, data := [sb] } ∧ (∀ k, (t.ports.get k).flags =
        ((selectSource (s.taking p [zb, sb].length) z src (portOrigin p)).ports.get k).flags) ∧ zoneFrameKept s t := by
  have frame : zoneFrameKept s (selectSource (s.taking p [zb, sb].length) z src (portOrigin p)) :=
    selectSource_frame (s.taking p [zb, sb].length) z src (portOrigin p)
  refine ⟨_, congrArg Host.Outcome.next (serve_eq ready two_le (reqSelectSource_eq _ _ index named)), rfl, ?_,
    fun k => updPort_flags _ p k _, frame⟩
  unfold State.slot State.updPort
  rw [State.putPort_ports, Ports.put_get_self]

/-- Settles O25, each power state and path by what a rebind cause does in it. -/
theorem selectSourceEffect : Obligations.SelectSourceEffect := by
  refine ⟨⟨fun s p tag zb sb z src ready index named power idle => congrArg Host.Outcome.next ?_,
    fun s p tag zb sb z src ready index named power path qr idle => congrArg Host.Outcome.next ?_,
    fun s p tag zb sb z src ready index named power path idle => congrArg Host.Outcome.next ?_⟩,
    fun s p tag zb sb z src ready index named which => ?_,
    fun s p tag zb sb z src ready index named on path runs toned => congrArg Host.Outcome.next ?_⟩
  · refine serve_wrote ready two_le ((reqSelectSource_eq _ _ index named).trans ?_)
    rw [selectSource_stores_wrote (s := s.taking p _) src _ idle (power.imp id .inl)]
    rfl
  · refine serve_wrote (b := true) ready two_le ((reqSelectSource_eq _ _ index named).trans ?_)
    rw [selectSource_fades (s := s.taking p _) src _ idle power path qr]
    rfl
  · refine serve_wrote ready two_le ((reqSelectSource_eq _ _ index named).trans ?_)
    rw [selectSource_stores_wrote (s := s.taking p _) src _ idle (.inr (.inr ⟨power, path⟩))]
    rfl
  · obtain ⟨t, step, zones, slot, flags, frame⟩ := selectSource_taken (tag := tag) ready index named
    obtain ⟨left, flag⟩ := selectSource_binds (s := s.taking p [zb, sb].length) src (portOrigin p) (bindsNow_of which)
    rw [← zones] at left
    exact ⟨t, step, slot, left.selected, justBound_frame (putPort_frame s p _) left.bound, left.power, left.qv, left.tone,
      left.origin, fun k => by rw [flags]; exact flag k, frame⟩
  · refine serve_wrote (b := true) ready two_le ((reqSelectSource_eq _ _ index named).trans ?_)
    rw [selectSource_toned (s := s.taking p _) src _ on path runs toned]
    rfl

end Sys2Proof.Machine
end

section
/-! SET_ZONE_OPTIONS by the power state and the path of the zone (R66, R68, R82, R83). -/

namespace Sys2Proof.Machine

/-! ## The record with the options stored -/

theorem optioned_eq (spk : Vector Speaker 12) (z : ZoneId) (opt : ZoneOptions) (r : Zone) : r.optioned spk z opt = { r with
    mode := opt.mode, night := opt.night, clockMode := opt.clockMode, rampInterval := opt.rampInterval
    autoStandby := opt.autoStandby
    shadow := if r.power.isBound = true ∧ r.mode ≠ opt.mode then r.vals.map (buildSet spk z { r with mode := opt.mode }.effMode)
      else r.shadow
    rampCount := if r.power.isBound = true ∧ r.rampInterval ≠ opt.rampInterval then 0 else r.rampCount } := by
  have shadowed (x : Zone) (p : Prop) [Decidable p] (cs : Option CoefSet) :
      (if p then { x with shadow := cs } else x) = { x with shadow := if p then cs else x.shadow } := by split <;> rfl
  have counted (x : Zone) (p : Prop) [Decidable p] :
      (if p then { x with rampCount := 0 } else x) = { x with rampCount := if p then 0 else x.rampCount } := by split <;> rfl
  exact (counted _ _).trans ((congrArg (fun x : Zone => { x with
    rampCount := if r.power.isBound = true ∧ r.rampInterval ≠ opt.rampInterval then 0 else x.rampCount })
    (shadowed _ _ _)).trans rfl)

/-- The five options of a zone's record. -/
def Zone.options (r : Zone) : ZoneOptions :=
  { mode := r.mode, night := r.night, clockMode := r.clockMode, rampInterval := r.rampInterval, autoStandby := r.autoStandby }

theorem options_eq {r : Zone} {opt : ZoneOptions} (h : r.options = opt) : r.mode = opt.mode ∧ r.night = opt.night ∧
    r.clockMode = opt.clockMode ∧ r.rampInterval = opt.rampInterval ∧ r.autoStandby = opt.autoStandby := by
  subst h
  exact ⟨rfl, rfl, rfl, rfl, rfl⟩

theorem optioned_options (spk : Vector Speaker 12) (z : ZoneId) (opt : ZoneOptions) (r : Zone) :
    (r.optioned spk z opt).options = opt := by rw [optioned_eq]; rfl

/-- What a change of the options reports (R86): the effective mode follows the surround mode. -/
theorem reportedChange_optioned (spk : Vector Speaker 12) (z : ZoneId) (opt : ZoneOptions) (r : Zone) :
    r.reportedChange (r.optioned spk z opt) = (r.mode != opt.mode || r.night != opt.night || r.clockMode != opt.clockMode ||
      r.rampInterval != opt.rampInterval || r.autoStandby != opt.autoStandby) := by
  have fields := optioned_eq spk z opt r
  by_cases same : r.mode = opt.mode
  · have mode : (r.optioned spk z opt).mode = r.mode := (congrArg Zone.mode fields :).trans same.symm
    have vals : (r.optioned spk z opt).vals = r.vals := (congrArg Zone.vals fields :)
    have copy : (r.optioned spk z opt).copy = r.copy := (congrArg Zone.copy fields :)
    have eff : (r.optioned spk z opt).effMode = r.effMode := by
      unfold Zone.effMode
      rw [mode, vals, copy]
    unfold Zone.reportedChange
    rw [eff, fields]
    simp [same]
  · rw [fields]
    simp [Zone.reportedChange, bne_iff_ne.mpr same]

/-! ## The countdown by the new setting -/

/-- A zone's record with another countdown. -/
def Zone.counting (r : Zone) (c : Option Timer) : Zone := { r with countdown := c }

theorem reportedChange_counting (r : Zone) (c : Option Timer) : r.reportedChange (r.counting c) = false :=
  Zone.reportedChange_self r

/-- The countdown acts on a new setting (R82). -/
def State.retimed (u : State) (z : ZoneId) (old new : Nat) : State :=
  if old = new then u
  else if new = 0 then u.updZone z fun r => { r with countdown := none } else startCountdown u z

theorem setZoneOptions_retimed (s : State) (z : ZoneId) (opt : ZoneOptions) (o : Origin) : setZoneOptions s z opt o =
    ((s.clockActed z opt).retimed z (s.zones.get z).autoStandby opt.autoStandby).zoneOrigin z o := rfl

/-- The countdown that a new setting leaves, `old` being the setting before (R82). -/
def Zone.recounted (r : Zone) (u : State) (old : Nat) : Option Timer :=
  if old = r.autoStandby then r.countdown
  else if r.autoStandby = 0 then none
  else if r.power = .on ∧ r.quiet u then r.fullCountdown u else r.countdown

theorem updZone_counting {s : State} {z : ZoneId} {f : Zone → Zone} {c : Option Timer}
    (h : f (s.zones.get z) = (s.zones.get z).counting c) :
    s.updZone z f = { s with zones := setAt s.zones z ((s.zones.get z).counting c) } := by
  rw [State.updZone_unreported (by rw [h, reportedChange_counting]), h]

theorem startCountdown_counting {s : State} {z : ZoneId} (setting : (s.zones.get z).autoStandby ≠ 0) : startCountdown s z =
    { s with zones := setAt s.zones z ((s.zones.get z).counting (if (s.zones.get z).power = .on ∧ (s.zones.get z).quiet s
        then (s.zones.get z).fullCountdown s else (s.zones.get z).countdown)) } := by
  refine updZone_counting ?_
  by_cases starts : (s.zones.get z).power = .on ∧ (s.zones.get z).quiet s
  · rw [if_pos starts, if_pos ⟨starts.1, (zoneQuiet_iff s z).mpr starts.2, Nat.pos_of_ne_zero setting⟩]
    rfl
  · rw [if_neg starts, if_neg fun e => starts ⟨e.1, (zoneQuiet_iff s z).mp e.2.1⟩]
    rfl

theorem retimed_eq {u : State} {z : ZoneId} (old : Nat) {new : Nat} (setting : (u.zones.get z).autoStandby = new) :
    u.retimed z old new = { u with zones := setAt u.zones z ((u.zones.get z).counting ((u.zones.get z).recounted u old)) } := by
  subst setting
  unfold State.retimed Zone.recounted
  split
  · exact congrArg (fun zs => ({ u with zones := zs } : State)) (setAt_self u.zones z).symm
  · split
    · exact updZone_counting rfl
    next some_ => exact startCountdown_counting some_

theorem setZoneOptions_state (s : State) (z : ZoneId) (opt : ZoneOptions) (o : Origin) : setZoneOptions s z opt o =
    { s.clockActed z opt with
      zones := setAt (s.clockActed z opt).zones z { ((s.clockActed z opt).zones.get z).counting
        (((s.clockActed z opt).zones.get z).recounted (s.clockActed z opt) (s.zones.get z).autoStandby) with lastChanged := o }
      ports := (s.clockActed z opt).ports.raiseIf (((s.clockActed z opt).zones.get z).lastChanged != o) (.zone z) } := by
  rw [setZoneOptions_retimed, retimed_eq _ (clockActed_setting s z opt), zoneOrigin_state]
  dsimp only
  rw [setAt_get_self, setAt_setAt]
  rfl

/-- The options and the clock have written one zone's record alone. -/
theorem setZoneOptions_wrote {s : State} {z : ZoneId} {opt : ZoneOptions} {x : Zone} {b : Bool} (o : Origin)
    (acted : s.clockActed z opt = s.wrote z x b) : setZoneOptions s z opt o =
      s.wrote z { x with countdown := x.recounted s (s.zones.get z).autoStandby, lastChanged := o }
        (b || x.lastChanged != o) := by
  rw [setZoneOptions_state, acted, wrote_get]
  unfold State.wrote
  dsimp only
  rw [setAt_setAt, Ports.raiseIf_raiseIf]
  rfl

/-! ## A new clock mode -/

theorem optioned_path (spk : Vector Speaker 12) (z : ZoneId) (opt : ZoneOptions) (r : Zone) :
    (r.optioned spk z opt).path = r.path ∧ (r.optioned spk z opt).qr = r.qr ∧ (r.optioned spk z opt).power = r.power ∧
      (r.optioned spk z opt).selected = r.selected ∧ (r.optioned spk z opt).qv = r.qv ∧
      (r.optioned spk z opt).lastChanged = r.lastChanged ∧ (r.optioned spk z opt).rate = r.rate ∧
      (r.optioned spk z opt).drive = r.drive ∧ (r.optioned spk z opt).driveNow = r.driveNow := by
  rw [optioned_eq]
  exact ⟨rfl, rfl, rfl, rfl, rfl, rfl, rfl, rfl, rfl⟩

theorem storeOptions_wrote (s : State) (z : ZoneId) (opt : ZoneOptions) : s.updZone z (Zone.optioned s.speakers z opt) =
    s.wrote z ((s.zones.get z).optioned s.speakers z opt)
      ((s.zones.get z).reportedChange ((s.zones.get z).optioned s.speakers z opt)) := updZone_wrote s z _

/-- The clock mode is as it was, or the zone fades: nothing acts (R68). -/
theorem clockActed_rests {s : State} {z : ZoneId} {opt : ZoneOptions} (h : (s.zones.get z).clockMode = opt.clockMode ∨
    (((s.zones.get z).power = .on ∨ (s.zones.get z).power = .rampDown) ∧ (s.zones.get z).path = .fading)) :
    s.clockActed z opt = s.wrote z ((s.zones.get z).optioned s.speakers z opt)
      ((s.zones.get z).reportedChange ((s.zones.get z).optioned s.speakers z opt)) := by
  obtain ⟨path, -, power, -⟩ := optioned_path s.speakers z opt (s.zones.get z)
  unfold State.clockActed
  dsimp only
  rw [storeOptions_wrote]
  rcases h with same | ⟨running, fading⟩
  · rw [if_pos same]
  · have bound : (s.zones.get z).power.isBound = true := by rcases running with e | e <;> rw [e] <;> rfl
    rw [if_pos bound, rebindCause_rests (by rw [wrote_get]; exact .inr (.inr ⟨by rwa [power], by rwa [path]⟩)), ite_self]

theorem reportedChange_clockMode {r : Zone} {spk : Vector Speaker 12} {z : ZoneId} {opt : ZoneOptions}
    (new : r.clockMode ≠ opt.clockMode) : r.reportedChange (r.optioned spk z opt) = true := by
  rw [reportedChange_optioned]
  simp [bne_iff_ne.mpr new]

/-- An automatic write that changes what ZONE reports (R84, R86). -/
theorem autoZone_wrote {s : State} {z : ZoneId} {r : Zone} {b : Bool} {f : Zone → Zone}
    (reported : ∀ p, r.reportedChange { f r with lastChanged := p } = true) : ∃ p,
    (s.wrote z r b).autoZone z f = s.wrote z { f r with lastChanged := p } true := by
  unfold State.autoZone State.updZone
  rw [wrote_get, wrote_putZone]
  dsimp only
  split
  · exact ⟨.auto, by rw [reported, Bool.or_true]⟩
  · refine ⟨(f r).lastChanged, ?_⟩
    have same : r.reportedChange (f r) = true := reported (f r).lastChanged
    rw [same, Bool.or_true]

/-- A new clock mode in a zone that plays starts its fade (R68). -/
theorem clockActed_fades {s : State} {z : ZoneId} {opt : ZoneOptions} (new : (s.zones.get z).clockMode ≠ opt.clockMode)
    (running : (s.zones.get z).power = .on ∨ (s.zones.get z).power = .rampDown) (playing : (s.zones.get z).path = .playing)
    (heard : (s.zones.get z).qr ≠ none) : ∃ p, s.clockActed z opt =
      s.wrote z { (s.zones.get z).optioned s.speakers z opt with path := .fading, lastChanged := p } true := by
  obtain ⟨path, qr, power, -⟩ := optioned_path s.speakers z opt (s.zones.get z)
  have bound : (s.zones.get z).power.isBound = true ∧ (s.zones.get z).power ≠ .starting := by
    rcases running with e | e <;> rw [e] <;> decide
  unfold State.clockActed
  dsimp only
  rw [if_neg new, if_pos bound.1, storeOptions_wrote]
  generalize (s.zones.get z).optioned s.speakers z opt = x at path qr power ⊢
  rw [rebindCause_plays (by rw [wrote_get, power]; exact bound.1) (by rw [wrote_get, power]; exact bound.2)
    (by rw [wrote_get, path]; exact playing) (by rw [wrote_get, qr]; exact heard)]
  refine autoZone_wrote fun p => reportedChange_path (x := { x with path := .fading, lastChanged := p }) ?_
  rw [path, playing]
  exact nofun

/-- A zone's record in a clock mode that comes into effect without a binding (R78, R79, log 28). -/
def Zone.clocked (r : Zone) (m : ClockMode) : Zone :=
  { r with clockInEffect := m, clockState := if m = .follow then .holdover else .localClock, rate := m.localRate.getD r.rate }

/-- A new clock mode in a zone that is not bound, where no carrier restarts (R79). -/
theorem clockActed_stored {s : State} {z : ZoneId} {opt : ZoneOptions} (new : (s.zones.get z).clockMode ≠ opt.clockMode)
    (free : (s.zones.get z).power.isBound = false) : s.clockActed z opt =
      let t := s.wrote z (((s.zones.get z).optioned s.speakers z opt).clocked opt.clockMode) true
      if (opt.clockMode.localRate.getD (s.zones.get z).rate) = (s.zones.get z).rate then t else restartCarrier t z := by
  obtain ⟨-, -, -, -, -, -, rate, -⟩ := optioned_path s.speakers z opt (s.zones.get z)
  unfold State.clockActed
  dsimp only
  rw [if_neg new, if_neg (by rw [free]; decide), storeOptions_wrote, reportedChange_clockMode new]
  generalize (s.zones.get z).optioned s.speakers z opt = x at rate ⊢
  have clocked : (s.wrote z x true).updZone z (fun r => r.clocked opt.clockMode) = s.wrote z (x.clocked opt.clockMode) true := by
    rw [wrote_updZone, Bool.true_or]
  have after : (x.clocked opt.clockMode).rate = opt.clockMode.localRate.getD x.rate := rfl
  unfold storeClock
  dsimp only
  rw [wrote_get]
  refine (congrArg (fun t : State => if (t.zones.get z).rate = x.rate then t else restartCarrier t z) clocked).trans ?_
  rw [wrote_get, after, rate]

/-- A zone that binds for its new clock mode (R68). -/
theorem clockActed_binds {s : State} {z : ZoneId} {opt : ZoneOptions} (new : (s.zones.get z).clockMode ≠ opt.clockMode)
    (now : (s.zones.get z).bindsNow) : s.clockActed z opt =
      bindZone (s.updZone z (Zone.optioned s.speakers z opt)) z true := by
  obtain ⟨path, qr, power, -⟩ := optioned_path s.speakers z opt (s.zones.get z)
  unfold State.clockActed
  dsimp only
  rw [if_neg new, if_pos now.1, rebindCause_binds]
  rw [State.updZone_get_self, Zone.bindsNow, path, qr, power]
  exact now

/-! ## What no option changes -/

/-- What requests ask of a zone, with its power state: no binding and no carrier writes it. -/
def Zone.asked (r : Zone) : ZoneOptions × Option SrcId × Power × Int := (r.options, r.selected, r.power, r.qv)

theorem asked_of_sansContent {r x : Zone} (h : x.sansContent = r.sansContent) : x.asked = r.asked := (congrArg Zone.asked h :)

theorem autoZone_asked (s : State) (z : ZoneId) (f : Zone → Zone) :
    ((s.autoZone z f).zones.get z).asked = (f (s.zones.get z)).asked :=
  asked_of_sansContent (sansContent_of_sansArbiter (autoZone_zone_sansArbiter s z f))

theorem bindRecord_asked (s : State) (r : Zone) : (bindRecord s r).asked = r.asked := by
  cases h : (takeCopy s.sources r).link with
  | none => rw [bindRecord_unlinked h, bindClock_kept]; rfl
  | some l => rw [bindRecord_linked h, bindClock_kept]; rfl

theorem bindZone_asked (s : State) (z : ZoneId) (rebind : Bool) :
    ((bindZone s z rebind).zones.get z).asked = (s.zones.get z).asked := by
  have yielded (r : Zone) : (r.yielded rebind).asked = r.asked := by cases rebind <;> rfl
  rw [asked_of_sansContent (bindZone_sansContent s z rebind), bindingTaken_eq, autoZone_asked, bindRecord_asked, autoZone_asked,
    yielded]

theorem rebindCause_asked (s : State) (z : ZoneId) : ((rebindCause s z).zones.get z).asked = (s.zones.get z).asked := by
  rcases rebindCause_cases s z with e | ⟨-, e | e⟩
  · rw [e]
  · rw [e, bindZone_asked]
  · rw [e, autoZone_asked]
    rfl

theorem driven_asked {r x : Zone} (h : r.driven x) : x.asked = r.asked := by
  obtain ⟨m, p, rfl⟩ := h
  rfl

theorem storeClock_asked (s : State) (z : ZoneId) (m : ClockMode) :
    ((storeClock s z m).zones.get z).asked = (s.zones.get z).asked := by
  have restart (t : State) (old : Rate) (h : (t.zones.get z).asked = (s.zones.get z).asked) :
      ((if (t.zones.get z).rate = old then t else restartCarrier t z).zones.get z).asked = (s.zones.get z).asked := by
    split
    · exact h
    · exact (driven_asked (restartCarrier_zone t z)).trans h
  refine restart _ _ ?_
  rw [State.updZone_get_self]
  rfl

theorem optioned_asked (spk : Vector Speaker 12) (z : ZoneId) (opt : ZoneOptions) (r : Zone) :
    (r.optioned spk z opt).asked = (opt, r.selected, r.power, r.qv) := by
  rw [optioned_eq]
  rfl

theorem clockActed_asked (s : State) (z : ZoneId) (opt : ZoneOptions) : ((s.clockActed z opt).zones.get z).asked =
    (opt, (s.zones.get z).selected, (s.zones.get z).power, (s.zones.get z).qv) := by
  have stored : ((s.updZone z (Zone.optioned s.speakers z opt)).zones.get z).asked =
      (opt, (s.zones.get z).selected, (s.zones.get z).power, (s.zones.get z).qv) := by
    rw [State.updZone_get_self, optioned_asked]
  unfold State.clockActed
  dsimp only
  split
  · exact stored
  · split
    · exact (rebindCause_asked _ z).trans stored
    · exact (storeClock_asked _ z _).trans stored

theorem clockActed_frame (s : State) (z : ZoneId) (opt : ZoneOptions) : zoneFrameKept s (s.clockActed z opt) := by
  have stored := updZone_frame s z (Zone.optioned s.speakers z opt)
  have restart (t : State) (old : Rate) (h : zoneFrameKept s t) :
      zoneFrameKept s (if (t.zones.get z).rate = old then t else restartCarrier t z) := by
    split
    · exact h
    · exact h.trans (restartCarrier_frame t z)
  unfold State.clockActed
  dsimp only
  split
  · exact stored
  · split
    · exact stored.trans (rebindCause_frame _ z)
    · exact restart _ _ (stored.trans (updZone_frame _ z _))

/-- A zone's record as the options leave it, `u` being the state in which the clock has acted. -/
theorem setZoneOptions_record (s : State) (z : ZoneId) (opt : ZoneOptions) (o : Origin) :
    (setZoneOptions s z opt o).zones.get z = { ((s.clockActed z opt).zones.get z).counting
      (((s.clockActed z opt).zones.get z).recounted (s.clockActed z opt) (s.zones.get z).autoStandby) with lastChanged := o } := by
  rw [setZoneOptions_state]
  exact setAt_get_self _ _ _

theorem counting_asked (r : Zone) (c : Option Timer) (o : Origin) :
    Zone.asked { r.counting c with lastChanged := o } = r.asked := rfl

theorem setZoneOptions_asked (s : State) (z : ZoneId) (opt : ZoneOptions) (o : Origin) :
    ((setZoneOptions s z opt o).zones.get z).asked =
      (opt, (s.zones.get z).selected, (s.zones.get z).power, (s.zones.get z).qv) := by
  rw [setZoneOptions_record, counting_asked, clockActed_asked]

theorem setZoneOptions_frame (s : State) (z : ZoneId) (opt : ZoneOptions) (o : Origin) :
    zoneFrameKept s (setZoneOptions s z opt o) := by
  rw [setZoneOptions_state]
  exact clockActed_frame s z opt

/-! ## The countdown of a zone that has bound -/

theorem recounted_frame {s t : State} (frame : zoneFrameKept s t) (r : Zone) (old : Nat) :
    r.recounted t old = r.recounted s old := by
  obtain ⟨-, monitors, -, -, -, -, ms, -⟩ := frame
  unfold Zone.recounted Zone.fullCountdown Zone.quiet
  rw [monitors, ms]

/-- A countdown that already stands by the setting and the link stays. -/
theorem recounted_due {r : Zone} {u : State} {old : Nat}
    (due : r.countdown = if 0 < r.autoStandby ∧ r.quiet u then r.fullCountdown u else none) :
    r.recounted u old = r.countdown := by
  unfold Zone.recounted
  split
  · rfl
  · split
    next zero => rw [due, if_neg fun e => absurd zero (Nat.pos_iff_ne_zero.mp e.1)]
    next some_ =>
      split
      next starts => rw [due, if_pos ⟨Nat.pos_of_ne_zero some_, starts.2⟩]
      next => rfl

/-- Out of ON, only the setting and the countdown matter. -/
theorem recounted_off {r x : Zone} {u t : State} (old : Nat) (offR : r.power ≠ .on) (offX : x.power ≠ .on)
    (setting : x.autoStandby = r.autoStandby) (count : x.countdown = r.countdown) : x.recounted t old = r.recounted u old := by
  unfold Zone.recounted
  simp only [offR, offX, false_and, if_false, setting, count]

theorem justBound_counting {r : Zone} {s : State} {selected : Option SrcId} {rate : Rate} {c : Option Timer} (o : Origin)
    (h : r.justBound s selected rate) (same : r.power = .on → c = r.countdown) :
    Zone.justBound { r.counting c with lastChanged := o } s selected rate := by
  obtain ⟨⟨bound, input, trim, lip, mode, qr, ramp, refill, path, alloc, clock, count, mutes⟩, empty⟩ := h
  exact ⟨⟨bound, input, trim, lip, mode, qr, ramp, refill, path, alloc, clock, fun on => (same on).trans (count on), mutes⟩,
    empty⟩

theorem shadow_of_sansArbiter {r x : Zone} (h : x.sansArbiter = r.sansArbiter) : x.shadow = r.shadow := (congrArg Zone.shadow h :)

theorem enterPath_shadow (spk : Vector Speaker 12) (z : ZoneId) (v : Option DescValues) (r : Zone) :
    (r.enterPath spk z v).shadow = none := rfl

theorem bindingEntered_shadow (s : State) (z : ZoneId) : ((bindingEntered s z).zones.get z).shadow = none := by
  rw [bindingEntered_eq, shadow_of_sansArbiter (autoZone_zone_sansArbiter _ z _), enterPath_shadow]

theorem driven_shadow {r x : Zone} (h : r.driven x) : x.shadow = r.shadow := by
  obtain ⟨m, p, rfl⟩ := h
  rfl

theorem counted_shadow {x y : Zone} {c : Option Timer} (h : y = { x with countdown := c }) : y.shadow = x.shadow :=
  (congrArg Zone.shadow h :)

/-- A binding leaves no shadow set (R66, R89). -/
theorem bindZone_shadow (s : State) (z : ZoneId) (rebind : Bool) : ((bindZone s z rebind).zones.get z).shadow = none := by
  have carried := driven_shadow
    (bindCarrier_zone (primeDelays (bindingEntered (bindingPlaced s z rebind) z) z) z (s.zones.get z).rate)
  rw [primeDelays_zones, bindingEntered_shadow] at carried
  obtain ⟨c, counted, -⟩ := bindZone_counted s z rebind
  exact (counted_shadow counted).trans carried

/-! ## The request -/

theorem optionsRecord_eq {r : Zone} {opt : ZoneOptions} (h : r.options = opt) : optionsRecord r =
    enumByte surroundModes opt.mode ++ flagByte opt.night ++ enumByte clockModes opt.clockMode ++ u8 opt.rampInterval ++
      u8 opt.autoStandby := by
  subst h
  rfl

/-- LIMITED where one of two values applied is not the one asked for, by the model's test and in the statement's words. -/
theorem limited_pair_eq_okIf (a b c d : Nat) :
    (if (a != b || c != d) = true then Result.limited else Result.ok) = okIf (decide (a = b ∧ c = d)) := by
  by_cases e : a = b <;> by_cases f : c = d <;> simp [okIf, e, f]

theorem reqSetZoneOptions_eq {zb mb nb cb rb ab : Byte} {z : ZoneId} {opt : ZoneOptions} {x : Zone} (o : Origin) (s : State)
    (index : zb.toNat = z.1) (mode : surroundModes[mb.toNat]? = some opt.mode) (night : yesNo nb = some opt.night)
    (clock : clockModes[cb.toNat]? = some opt.clockMode) (ramp : opt.rampInterval = max 1 (min 64 rb.toNat))
    (auto : opt.autoStandby = min 120 ab.toNat) (options : x.options = opt) : reqSetZoneOptions o [zb, mb, nb, cb, rb, ab] s =
      { state := setZoneOptions s z opt o, data := optionsRecord x
        result := okIf (decide (max 1 (min 64 rb.toNat) = rb.toNat ∧ min 120 ab.toNat = ab.toNat)) } := by
  have rampIn : clampNat 1 64 rb.toNat = max 1 (min 64 rb.toNat) := clampNat_eq _ _ _ (by decide)
  have autoIn : clampNat 0 120 ab.toNat = min 120 ab.toNat := (clampNat_eq _ _ _ (by decide)).trans (Nat.zero_max _)
  obtain ⟨m, n, c, i, a⟩ := opt
  dsimp only at mode night clock ramp auto
  subst ramp auto
  rw [optionsRecord_eq options, ← limited_pair_eq_okIf, ← rampIn, ← autoIn]
  simp only [reqSetZoneOptions, indexOf_of_toNat index, enumOf, mode, night, clock]
  rfl

theorem quiet_iff_monitors (r : Zone) (s : State) :
    r.quiet s ↔ r.link.map (fun l => (s.monitors.get l).state) ≠ some .active := by
  unfold Zone.quiet
  cases r.link <;> simp

/-- The countdown by a new setting, in the statement's words (R82). -/
theorem recounted_optioned (s : State) (z : ZoneId) (opt : ZoneOptions) (r : Zone) :
    (r.optioned s.speakers z opt).recounted s r.autoStandby =
      if opt.autoStandby = r.autoStandby then r.countdown
      else if opt.autoStandby = 0 then none
      else if r.power = .on ∧ r.link.map (fun l => (s.monitors.get l).state) ≠ some .active then
        some { start := s.ms, len := opt.autoStandby * 60000 }
      else r.countdown := by
  have link := optioned_link s.speakers z opt r
  have record := optioned_eq s.speakers z opt r
  generalize r.optioned s.speakers z opt = x at link record ⊢
  have quiet : x.quiet s ↔ r.link.map (fun l => (s.monitors.get l).state) ≠ some .active := by
    rw [quiet_iff_monitors, link]
  have setting : x.autoStandby = opt.autoStandby := (congrArg Zone.autoStandby record :)
  have power : x.power = r.power := (congrArg Zone.power record :)
  have count : x.countdown = r.countdown := (congrArg Zone.countdown record :)
  unfold Zone.recounted Zone.fullCountdown
  simp only [quiet, setting, power, count, eq_comm (a := r.autoStandby)]

/-- A zone's record as the options alone leave it. -/
def Zone.optionsTaken (s : State) (z : ZoneId) (opt : ZoneOptions) (o : Origin) (r : Zone) : Zone :=
  { r with
    mode := opt.mode, night := opt.night, clockMode := opt.clockMode, rampInterval := opt.rampInterval
    autoStandby := opt.autoStandby, lastChanged := o
    shadow := if r.power.isBound = true ∧ opt.mode ≠ r.mode then
        r.vals.map (buildSet s.speakers z { r with mode := opt.mode }.effMode)
      else r.shadow
    rampCount := if r.power.isBound = true ∧ opt.rampInterval ≠ r.rampInterval then 0 else r.rampCount
    countdown := if opt.autoStandby = r.autoStandby then r.countdown
      else if opt.autoStandby = 0 then none
      else if r.power = .on ∧ r.link.map (fun l => (s.monitors.get l).state) ≠ some .active then
        some { start := s.ms, len := opt.autoStandby * 60000 }
      else r.countdown }

theorem optionsTaken_eq (s : State) (z : ZoneId) (opt : ZoneOptions) (o : Origin) (r : Zone) :
    { r.optioned s.speakers z opt with
      countdown := (r.optioned s.speakers z opt).recounted s r.autoStandby, lastChanged := o } = r.optionsTaken s z opt o := by
  unfold Zone.optionsTaken
  rw [recounted_optioned]
  simp only [optioned_eq, ne_comm (a := r.mode), ne_comm (a := r.rampInterval)]

theorem optionsTaken_options (s : State) (z : ZoneId) (opt : ZoneOptions) (o : Origin) (r : Zone) :
    (r.optionsTaken s z opt o).options = opt := rfl

/-- With the clock mode as it was, and in FADING, the options are all that is written. -/
theorem setZoneOptions_rests {s : State} {z : ZoneId} {opt : ZoneOptions} (o : Origin)
    (h : (s.zones.get z).clockMode = opt.clockMode ∨
      (((s.zones.get z).power = .on ∨ (s.zones.get z).power = .rampDown) ∧ (s.zones.get z).path = .fading)) :
    setZoneOptions s z opt o = s.wrote z ((s.zones.get z).optionsTaken s z opt o)
      (decide (opt.mode ≠ (s.zones.get z).mode ∨ opt.night ≠ (s.zones.get z).night ∨
        opt.clockMode ≠ (s.zones.get z).clockMode ∨ opt.rampInterval ≠ (s.zones.get z).rampInterval ∨
        opt.autoStandby ≠ (s.zones.get z).autoStandby ∨
        o ≠ (s.zones.get z).lastChanged)) := by
  obtain ⟨-, -, -, -, -, last, -⟩ := optioned_path s.speakers z opt (s.zones.get z)
  rw [setZoneOptions_wrote o (clockActed_rests h), last, reportedChange_optioned]
  refine congrArg₂ (s.wrote z) (optionsTaken_eq s z opt o (s.zones.get z)) ?_
  rw [Bool.eq_iff_iff, decide_eq_true_iff]
  simp only [Bool.or_eq_true, bne_iff_ne, or_assoc, ne_comm]

theorem setZoneOptions_fades {s : State} {z : ZoneId} {opt : ZoneOptions} (o : Origin)
    (new : (s.zones.get z).clockMode ≠ opt.clockMode)
    (running : (s.zones.get z).power = .on ∨ (s.zones.get z).power = .rampDown) (playing : (s.zones.get z).path = .playing)
    (heard : (s.zones.get z).qr ≠ none) :
    setZoneOptions s z opt o = s.wrote z { (s.zones.get z).optionsTaken s z opt o with path := .fading } true := by
  obtain ⟨p, acted⟩ := clockActed_fades new running playing heard
  rw [setZoneOptions_wrote o acted]
  exact congrArg (fun x : Zone => s.wrote z { x with path := .fading } true) (optionsTaken_eq s z opt o (s.zones.get z))

/-- A zone that is not bound, where no carrier restarts (R79, log 28). -/
theorem setZoneOptions_stored {s : State} {z : ZoneId} {opt : ZoneOptions} (o : Origin)
    (new : (s.zones.get z).clockMode ≠ opt.clockMode) (free : (s.zones.get z).power.isBound = false)
    (rests : opt.clockMode.localRate.getD (s.zones.get z).rate = (s.zones.get z).rate ∨ (s.zones.get z).driveNow = .off ∨
      (s.zones.get z).drive = .off) :
    setZoneOptions s z opt o = s.wrote z (((s.zones.get z).optionsTaken s z opt o).clocked opt.clockMode) true := by
  obtain ⟨-, -, -, -, -, -, -, drive, driveNow⟩ := optioned_path s.speakers z opt (s.zones.get z)
  have clocked (r : Zone) : (r.clocked opt.clockMode).drive = r.drive ∧ (r.clocked opt.clockMode).driveNow = r.driveNow :=
    ⟨rfl, rfl⟩
  have acted : s.clockActed z opt = s.wrote z (((s.zones.get z).optioned s.speakers z opt).clocked opt.clockMode) true := by
    rw [clockActed_stored new free]
    dsimp only
    split
    · rfl
    next differs =>
      unfold restartCarrier
      dsimp only
      rw [wrote_get, (clocked _).1, (clocked _).2, drive, driveNow, if_pos (rests.resolve_left differs)]
  rw [setZoneOptions_wrote o acted]
  exact congrArg (fun x : Zone => s.wrote z (x.clocked opt.clockMode) true) (optionsTaken_eq s z opt o (s.zones.get z))

/-- A carrier that runs on in a zone that is not bound restarts at a changed rate (R79, R124, log 28). -/
theorem setZoneOptions_restarted {s : State} {z : ZoneId} {opt : ZoneOptions} (o : Origin)
    (new : (s.zones.get z).clockMode ≠ opt.clockMode) (free : (s.zones.get z).power.isBound = false)
    (differs : opt.clockMode.localRate.getD (s.zones.get z).rate ≠ (s.zones.get z).rate)
    (runs : (s.zones.get z).driveNow ≠ .off) (handed : (s.zones.get z).drive ≠ .off) :
    (setZoneOptions s z opt o).zones.get z = { ((s.zones.get z).optionsTaken s z opt o).clocked opt.clockMode with
      driveNow := (s.zones.get z).drive, period := 0 } := by
  obtain ⟨-, -, -, -, -, -, -, drive, driveNow⟩ := optioned_path s.speakers z opt (s.zones.get z)
  have clocked (r : Zone) : (r.clocked opt.clockMode).drive = r.drive ∧ (r.clocked opt.clockMode).driveNow = r.driveNow :=
    ⟨rfl, rfl⟩
  have restarted : (s.clockActed z opt).zones.get z = { ((s.zones.get z).optioned s.speakers z opt).clocked opt.clockMode with
      driveNow := (s.zones.get z).drive, period := 0 } := by
    rw [clockActed_stored new free]
    dsimp only
    rw [if_neg differs]
    unfold restartCarrier
    dsimp only
    rw [wrote_get, (clocked _).1, (clocked _).2, drive, driveNow, if_neg (not_or.mpr ⟨runs, handed⟩), beginFrame_zones,
      State.updZone_get_self, wrote_get]
    rw [(clocked _).1, drive]
  rw [setZoneOptions_record, restarted, recounted_frame (clockActed_frame s z opt)]
  exact congrArg (fun x : Zone => { x.clocked opt.clockMode with driveNow := (s.zones.get z).drive, period := 0 })
    (optionsTaken_eq s z opt o (s.zones.get z))

theorem justBound_due {r : Zone} {s : State} {selected : Option SrcId} {rate : Rate} (h : r.justBound s selected rate)
    (on : r.power = .on) : r.countdown = if 0 < r.autoStandby ∧ r.quiet s then r.fullCountdown s else none := by
  obtain ⟨⟨-, -, -, -, -, -, -, -, -, -, -, count, -⟩, -⟩ := h
  exact count on

/-- What the options leave of a zone that binds for its new clock mode (R66, R68, R82). -/
theorem setZoneOptions_binds {s : State} {z : ZoneId} {opt : ZoneOptions} (o : Origin)
    (new : (s.zones.get z).clockMode ≠ opt.clockMode) (now : (s.zones.get z).bindsNow) :
    ((setZoneOptions s z opt o).zones.get z).justBound s (s.zones.get z).selected (s.zones.get z).rate ∧
      ((setZoneOptions s z opt o).zones.get z).shadow = none ∧
      ((s.zones.get z).power ≠ .on → ((setZoneOptions s z opt o).zones.get z).countdown =
        ((s.zones.get z).optionsTaken s z opt o).countdown) ∧
      ∀ k, ((setZoneOptions s z opt o).ports.get k).flags.get (Flag.zone z).index = true := by
  obtain ⟨-, -, power, selected, -, -, rate, -⟩ := optioned_path s.speakers z opt (s.zones.get z)
  have optionSetting : ((s.zones.get z).optioned s.speakers z opt).autoStandby = opt.autoStandby :=
    (options_eq (optioned_options s.speakers z opt (s.zones.get z))).2.2.2.2
  have acted := clockActed_binds new now
  have frame := clockActed_frame s z opt
  have setting := clockActed_setting s z opt
  have stored := State.updZone_get_self s z (Zone.optioned s.speakers z opt)
  have storedFrame := updZone_frame s z (Zone.optioned s.speakers z opt)
  generalize s.updZone z (Zone.optioned s.speakers z opt) = u at acted stored storedFrame
  obtain ⟨bound, powerKept, -⟩ := bindZone_justBound u z true
  have shadow := bindZone_shadow u z true
  have count := bindZone_countdown (s := u) (z := z) true
  have flag := bindZone_flag u z true
  rw [stored, selected, rate] at bound
  rw [stored, power] at powerKept
  rw [stored, power] at count
  have bound := justBound_frame storedFrame bound
  rw [← acted] at bound powerKept shadow count flag
  have offs (off : (s.zones.get z).power ≠ .on) := (recounted_off (u := s) (t := s) (s.zones.get z).autoStandby
    (power.trans_ne off) (powerKept.trans_ne off) (setting.trans optionSetting.symm) (count off)).trans
    (congrArg Zone.countdown (optionsTaken_eq s z opt o (s.zones.get z)) :)
  rw [setZoneOptions_state, recounted_frame frame]
  dsimp only
  rw [setAt_get_self]
  generalize s.clockActed z opt = t at bound shadow count flag setting offs ⊢
  refine ⟨justBound_counting o bound fun on => recounted_due (justBound_due bound on), shadow, offs, fun k => ?_⟩
  rw [Ports.raiseIf_flag, flag, Bool.true_or]

/-- A request whose owner has left a state: the answer stands in the slot, and the rest is as the owner left it (R192). -/
theorem serve_left {s u : State} {p : Port} {tag : Byte} {payload : List Byte} {owner : State → Reply} {r : Result}
    {data : List Byte} (ready : Ready s p) (le : payload.length ≤ 250)
    (owns : owner (s.taking p payload.length) = { state := u, result := r, data := data }) :
    (serve s p tag payload owner).zones = u.zones ∧
      (serve s p tag payload owner).slot p = some { tag := tag, result := r, data := data } ∧
      (∀ k, ((serve s p tag payload owner).ports.get k).flags = (u.ports.get k).flags) ∧
      (zoneFrameKept (s.taking p payload.length) u → zoneFrameKept s (serve s p tag payload owner)) := by
  rw [serve_eq ready le owns]
  refine ⟨rfl, ?_, fun k => updPort_flags u p k _, id⟩
  unfold State.slot State.updPort
  rw [State.putPort_ports, Ports.put_get_self]

theorem six_le {a b c d e f : Byte} : [a, b, c, d, e, f].length ≤ 250 := Nat.le_of_ble_eq_true rfl

theorem localRate_getD (clock : ClockMode) (r : Rate) : (match clock with
    | .local48 => Rate.r48
    | .local44 => .r44
    | .follow => r) = clock.localRate.getD r := by cases clock <;> rfl

/-- Settles O32, each power state and path by what a new clock mode does in it. -/
theorem setZoneOptionsEffect : Obligations.SetZoneOptionsEffect := by
  intro s p tag zb mb nb cb rb ab z mode night clock r w rate result ready index hmode hnight hclock hr hw hrate hresult
  let opt : ZoneOptions := { mode := mode, night := night, clockMode := clock, rampInterval := max 1 (min 64 rb.toNat)
                             autoStandby := min 120 ab.toNat }
  have written : w = r.optionsTaken s z opt (portOrigin p) := hw
  have rated : rate = clock.localRate.getD r.rate := hrate.trans (localRate_getD clock r.rate)
  subst hr hresult
  clear hw hrate
  subst written rated
  have owns (x : Zone) (h : x.options = opt) := reqSetZoneOptions_eq (portOrigin p)
    (s.taking p [zb, mb, nb, cb, rb, ab].length) index hmode hnight hclock rfl rfl h
  have options := optionsTaken_options s z opt (portOrigin p) (s.zones.get z)
  have unbound (free : (s.zones.get z).power = .standby ∨ (s.zones.get z).power = .drain) :
      (s.zones.get z).power.isBound = false := by rcases free with e | e <;> rw [e] <;> rfl
  have asked : ((setZoneOptions (s.taking p [zb, mb, nb, cb, rb, ab].length) z opt (portOrigin p)).zones.get z).asked =
    (opt, (s.zones.get z).selected, (s.zones.get z).power, (s.zones.get z).qv) := setZoneOptions_asked _ z opt _
  have last := congrArg Zone.lastChanged (setZoneOptions_record (s.taking p [zb, mb, nb, cb, rb, ab].length) z opt (portOrigin p))
  obtain ⟨zones, slot, flags, frame⟩ := serve_left (tag := tag) ready six_le (owns _ (congrArg Prod.fst asked))
  have frame := frame (setZoneOptions_frame _ z opt _)
  refine ⟨_, rfl, ?_, fun rests => ?_, fun new running playing heard => ?_, fun new which => ?_,
    fun new free x hx => ⟨?_, ?_⟩⟩
  · rw [zones]
    obtain ⟨mode, night, clockMode, ramp, auto⟩ := options_eq (congrArg Prod.fst asked)
    exact ⟨mode, night, clockMode, ramp, auto, last, (congrArg (fun a => a.2.1) asked :), (congrArg (fun a => a.2.2.1) asked :),
      (congrArg (fun a => a.2.2.2) asked :), slot, frame⟩
  · refine serve_wrote ready six_le ((owns _ options).trans ?_)
    rw [setZoneOptions_rests (s := s.taking p _) _ (rests.imp Eq.symm id)]
    rfl
  · refine serve_wrote (b := true) ready six_le ((owns _ options).trans ?_)
    rw [setZoneOptions_fades (s := s.taking p _) _ (Ne.symm new) running playing heard]
    rfl
  · obtain ⟨bound, shadow, off, flag⟩ := setZoneOptions_binds (s := s.taking p [zb, mb, nb, cb, rb, ab].length) (opt := opt)
      (portOrigin p) (Ne.symm new) (bindsNow_of which)
    obtain ⟨-, -, -, -, auto⟩ := options_eq (congrArg Prod.fst asked)
    have bound := justBound_frame (putPort_frame s p _) bound
    rw [zones]
    refine ⟨bound, shadow, fun on => ?_, off, fun k => by rw [flags]; exact flag k⟩
    rw [justBound_due bound ((congrArg (fun a => a.2.2.1) asked :).trans on)]
    unfold Zone.fullCountdown
    simp only [quiet_iff_monitors, auto, Nat.pos_iff_ne_zero]
    rfl
  · intro differs runs handed
    rw [zones, hx]
    exact setZoneOptions_restarted (s := s.taking p _) _ (Ne.symm new) (unbound free) differs
      runs handed
  · intro rests
    refine serve_wrote (b := true) ready six_le ((owns _ options).trans ?_)
    rw [hx, setZoneOptions_stored (s := s.taking p _) _ (Ne.symm new) (unbound free) rests]
    rfl

end Sys2Proof.Machine
end

section
/-! The channels of a band, and what a tuning request leaves (R159, R164, R174, R176, R182). -/

namespace Sys2Proof.Machine

/-! ## The grid of a band -/

/-- The channels of a band at a step that it may have: `m + 1` of them, a step apart from edge to edge (R159). -/
structure Grid (b : Band) (step m : Nat) : Prop where
  pos : 0 < step
  spread : 0 < m
  high : highEdge b step = lowEdge b step + step * m
  count : channelCount b step = m + 1

theorem grid_of_allowed {b : Band} {step : Nat} (h : stepAllowed b step = true) : ∃ m, Grid b step m := by
  cases b with
  | fm =>
    obtain rfl | rfl : step = 100 ∨ step = 50 := by simpa [stepAllowed] using h
    · exact ⟨205, by decide, by decide, by decide, by decide⟩
    · exact ⟨410, by decide, by decide, by decide, by decide⟩
  | am =>
    obtain rfl | rfl : step = 9 ∨ step = 10 := by simpa [stepAllowed] using h
    · exact ⟨122, by decide, by decide, by decide, by decide⟩
    · exact ⟨118, by decide, by decide, by decide, by decide⟩

/-- The channel of an index. -/
def chanAt (b : Band) (step k : Nat) : Nat := lowEdge b step + step * k

section
variable {b : Band} {step m : Nat}

theorem chanAt_inj (g : Grid b step m) {j k : Nat} : chanAt b step j = chanAt b step k ↔ j = k := by
  unfold chanAt
  rw [Nat.add_left_cancel_iff, Nat.mul_right_inj g.pos.ne']

theorem chanAt_lt (g : Grid b step m) {j k : Nat} : chanAt b step j < chanAt b step k ↔ j < k := by
  unfold chanAt
  rw [Nat.add_lt_add_iff_left, Nat.mul_lt_mul_left g.pos]

theorem chanAt_low (b : Band) (step : Nat) : chanAt b step 0 = lowEdge b step := rfl

theorem chanAt_high (g : Grid b step m) : chanAt b step m = highEdge b step := g.high.symm

theorem onGrid_iff (g : Grid b step m) {f : Nat} : onGrid b step f = true ↔ ∃ k ≤ m, f = chanAt b step k := by
  unfold onGrid chanAt
  rw [decide_eq_true_iff, g.high]
  constructor
  · rintro ⟨low, high, divides⟩
    have parts := Nat.div_add_mod (f - lowEdge b step) step
    refine ⟨(f - lowEdge b step) / step, ?_, by omega⟩
    exact Nat.le_of_mul_le_mul_left (by omega) g.pos
  · rintro ⟨k, le, rfl⟩
    have top := Nat.mul_le_mul_left step le
    exact ⟨by omega, by omega, by rw [Nat.add_sub_cancel_left, Nat.mul_mod_right]⟩

theorem onGrid_chanAt (g : Grid b step m) {k : Nat} (le : k ≤ m) : onGrid b step (chanAt b step k) = true :=
  (onGrid_iff g).mpr ⟨k, le, rfl⟩

/-! ### Rounding to the grid (R164) -/

theorem gridRound_chanAt (g : Grid b step m) (k : Nat) : gridRound b step (chanAt b step k) = chanAt b step k := by
  have half : (2 * (step * k) + step) / (2 * step) = k :=
    Nat.div_eq_of_lt_le (by nlinarith [g.pos]) (by nlinarith [g.pos])
  unfold gridRound chanAt
  rw [Nat.add_sub_cancel_left, half]

theorem gridRound_onGrid (g : Grid b step m) {f : Nat} (low : lowEdge b step ≤ f) (high : f ≤ highEdge b step) :
    onGrid b step (gridRound b step f) = true := by
  refine (onGrid_iff g).mpr ⟨_, ?_, rfl⟩
  rw [g.high] at high
  refine Nat.le_of_lt_succ ((Nat.div_lt_iff_lt_mul (by have := g.pos; omega)).mpr ?_)
  have top : f - lowEdge b step ≤ step * m := by omega
  nlinarith [g.pos]

theorem appliedFrequency_onGrid (g : Grid b step m) (f : Int) : onGrid b step (appliedFrequency b step f) = true := by
  have edges : (lowEdge b step : Int) ≤ highEdge b step := by rw [g.high]; push_cast; nlinarith
  obtain ⟨low, high⟩ := clampInt_range (lowEdge b step) (highEdge b step) f edges
  exact gridRound_onGrid g (by omega) (by omega)

theorem appliedFrequency_self (g : Grid b step m) {n : Nat} (on : onGrid b step n = true) :
    appliedFrequency b step (n : Int) = n := by
  have range : lowEdge b step ≤ n ∧ n ≤ highEdge b step := by
    unfold onGrid at on
    have all := of_decide_eq_true on
    exact ⟨all.1, all.2.1⟩
  obtain ⟨k, -, rfl⟩ := (onGrid_iff g).mp on
  unfold appliedFrequency
  rw [clampInt_self (by exact_mod_cast range.1) (by exact_mod_cast range.2), Int.toNat_natCast, gridRound_chanAt g]

end

/-! ## A record written in a state other than LOCKED -/

/-- A zone's record once the tuner has left LOCKED (R72, R84). -/
def Zone.untuned (r : Zone) : Zone :=
  if r.link = some 8 then
    { r with
      mutes := { r.mutes with tuning := true }
      lastChanged := if r.mutes.tuning = true then r.lastChanged else .auto }
  else r

theorem auditedChange_tuning (r : Zone) :
    r.auditedChange { r with mutes := { r.mutes with tuning := true } } = !r.mutes.tuning := by
  have same : (r.mutes != { r.mutes with tuning := true }) = !r.mutes.tuning := by
    rw [Bool.eq_iff_iff, bne_iff_ne, Bool.not_eq_true', ← Bool.not_eq_true]
    exact not_congr ⟨fun e => (congrArg Mutes.tuning e :), fun e => by rw [← e]⟩
  simp [Zone.auditedChange, same]

theorem zoneOnTuner_record (s : State) (z : ZoneId) : (zoneOnTuner false s z).zones.get z = (s.zones.get z).untuned := by
  unfold zoneOnTuner Zone.untuned
  split
  · rw [State.autoZone_get_self]
    dsimp only
    rw [Bool.not_false, auditedChange_tuning]
    cases (s.zones.get z).mutes.tuning <;> rfl
  · rfl

theorem zoneOnTuner_other (locked : Bool) (s : State) {z y : ZoneId} (h : y ≠ z) :
    (zoneOnTuner locked s y).zones.get z = s.zones.get z := by
  unfold zoneOnTuner
  split
  · exact State.autoZone_get_of_ne s _ h
  · rfl

/-- An announcement of the tuner sets no flag but ZONE (R86). -/
theorem zoneOnTuner_flag (locked : Bool) (s : State) (z : ZoneId) (p : Port) {i : Fin 26}
    (other : ∀ y, (Flag.zone y).index ≠ i) :
    ((zoneOnTuner locked s z).ports.get p).flags.get i = (s.ports.get p).flags.get i := by
  unfold zoneOnTuner
  split
  · refine (Ports.raiseIf_flag ..).trans ?_
    rw [decide_eq_false (other z), Bool.and_false, Bool.or_false]
  · rfl

theorem zoneOnTuner_field {α : Type} (g : State → α) (zone : ∀ s z f, g (State.autoZone s z f) = g s) (locked : Bool)
    (s : State) (z : ZoneId) : g (zoneOnTuner locked s z) = g s := by
  unfold zoneOnTuner
  split
  · exact zone s z _
  · rfl

/-- The announcement of a departure from LOCKED to the zones (R176). -/
def State.announceUnlock (s : State) : State := s.forEach zoneIds (zoneOnTuner false)

theorem announceUnlock_field {α : Type} (g : State → α) (zone : ∀ s z f, g (State.autoZone s z f) = g s) (s : State) :
    g s.announceUnlock = g s := State.forEach_field g _ (zoneOnTuner_field g zone false) zoneIds s

theorem announceUnlock_zone (s : State) (z : ZoneId) : s.announceUnlock.zones.get z = (s.zones.get z).untuned := by
  have all : ∀ z : ZoneId, z ∈ zoneIds := by decide
  exact (forEach_turn (g := fun t : State => t.zones.get z) (fun t => zoneOnTuner_record t z)
    (fun t y h => zoneOnTuner_other false t h) (by decide) s).trans (if_pos (all z))

theorem announceUnlock_flag (s : State) (p : Port) {i : Fin 26} (other : ∀ y, (Flag.zone y).index ≠ i) :
    (s.announceUnlock.ports.get p).flags.get i = (s.ports.get p).flags.get i :=
  State.forEach_field (fun t : State => (t.ports.get p).flags.get i) _
    (fun t z => zoneOnTuner_flag false t z p other) zoneIds s

theorem setTuner_off {s : State} {x : Tuner} (off : x.state ≠ .locked) : setTuner s x =
    if s.tuner.state = .locked then (s.putTuner x).announceUnlock else s.putTuner x := by
  unfold setTuner State.announceUnlock
  dsimp only
  rw [decide_eq_false off]
  by_cases locked : s.tuner.state = .locked
  · rw [if_pos locked, decide_eq_true locked, if_neg (by decide)]
  · rw [if_neg locked, decide_eq_false locked, if_pos rfl]

theorem putTuner_lock_flag (s : State) (x : Tuner) (p : Port) : ((s.putTuner x).ports.get p).flags.get Flag.tunerLock.index =
    ((s.ports.get p).flags.get Flag.tunerLock.index || decide (x.state ≠ s.tuner.state ∨ x.band ≠ s.tuner.band)) := by
  have change : s.tuner.lockChange x = decide (x.state ≠ s.tuner.state ∨ x.band ≠ s.tuner.band) := by
    rw [Bool.eq_iff_iff, decide_eq_true_iff, ne_comm, ne_comm (a := x.band)]
    simp [Tuner.lockChange]
  rw [State.putTuner_ports, Ports.raiseIf_flag, Ports.raiseIf_flag, change,
    decide_eq_false (show Flag.tunerDone.index ≠ Flag.tunerLock.index by decide), decide_eq_true rfl, Bool.and_true,
    Bool.and_false, Bool.or_false]

theorem putTuner_done_flag (s : State) (x : Tuner) (p : Port) : ((s.putTuner x).ports.get p).flags.get Flag.tunerDone.index =
    ((s.ports.get p).flags.get Flag.tunerDone.index || s.tuner.nextNumber != x.nextNumber) := by
  rw [State.putTuner_ports, Ports.raiseIf_flag, Ports.raiseIf_flag,
    decide_eq_false (show Flag.tunerLock.index ≠ Flag.tunerDone.index by decide), decide_eq_true rfl, Bool.and_true,
    Bool.and_false, Bool.or_false]

/-- A tuning request's write of the tuner's record, apart from the zones and the flags it sets. -/
theorem setTuner_off_field {α : Type} {s : State} {x : Tuner} (off : x.state ≠ .locked) (g : State → α)
    (zone : ∀ s z f, g (State.autoZone s z f) = g s) : g (setTuner s x) = g (s.putTuner x) := by
  rw [setTuner_off off]
  split
  · exact announceUnlock_field g zone _
  · rfl

/-- The zones and the flags once a record out of LOCKED is written (R72, R176, R182). -/
theorem setTuner_unlocks {s : State} {x : Tuner} (off : x.state ≠ .locked)
    (done : (s.tuner.nextNumber != x.nextNumber) = s.tuner.op.isSome) : tunerUnlocks s (setTuner s x) := by
  have tuner : (setTuner s x).tuner = x := setTuner_off_field off State.tuner fun _ _ _ => rfl
  have flag (p : Port) {i : Fin 26} (other : ∀ y, (Flag.zone y).index ≠ i) :
      ((setTuner s x).ports.get p).flags.get i = ((s.putTuner x).ports.get p).flags.get i := by
    rw [setTuner_off off]
    split
    · exact announceUnlock_flag _ p other
    · rfl
  refine ⟨fun z => ?_, fun p => ⟨?_, ?_⟩⟩
  · rw [setTuner_off off]
    by_cases locked : s.tuner.state = .locked
    · rw [if_pos locked, announceUnlock_zone]
      simp only [locked, true_and]
      rfl
    · rw [if_neg locked, if_neg fun e => locked e.1]
      rfl
  · rw [flag p (by decide), putTuner_lock_flag, tuner]
  · rw [flag p (by decide), putTuner_done_flag, done]

/-! ## Supersession -/

/-- What supersession leaves of the record: the operation in flight is completed with ABORTED, and its work discarded (R174). -/
structure Tuner.Superseded (t x : Tuner) : Prop where
  kept : ∃ cs n st ph, x = { t with completions := cs, nextNumber := n, op := none, start := st, phase := ph, gate := .idle
                                    readings := [], afcTimer := none }
  done : (t.nextNumber != x.nextNumber) = t.op.isSome
  none : t.op = none → x.completions = t.completions
  aborted : ∀ op o, t.op = some (op, o) → x.completions.head? = some
    { number := t.nextNumber, result := .aborted, op := op, origin := o, band := t.band, frequency := t.target }

theorem byte_succ_ne (n : Byte) : n ≠ n + 1 := by bv_omega

theorem Tuner.superseded (t : Tuner) : t.Superseded t.supersede := by
  cases h : t.op with
  | none =>
    have left : t.complete .aborted = t := by unfold Tuner.complete; rw [h]
    unfold Tuner.supersede
    rw [left]
    refine ⟨⟨t.completions, t.nextNumber, t.start, t.phase, ?_⟩, ?_, fun _ => rfl, fun op o e => nomatch h.symm.trans e⟩
    · rw [← h]
    · rw [h]
      exact bne_self_eq_false t.nextNumber
  | some pair =>
    obtain ⟨op, o⟩ := pair
    unfold Tuner.supersede Tuner.complete
    rw [h]
    refine ⟨⟨_, _, _, _, rfl⟩, ?_, fun e => (nomatch h.symm.trans e), fun op' o' e => ?_⟩
    · rw [h]
      exact bne_iff_ne.mpr (byte_succ_ne t.nextNumber)
    · obtain ⟨rfl, rfl⟩ := Prod.mk.inj (Option.some.inj (h.symm.trans e))
      rfl

/-! ## A tuning request -/

theorem taking_flags (s : State) (p k : Port) (n : Nat) : ((s.taking p n).ports.get k).flags = (s.ports.get k).flags := by
  cases p <;> cases k <;> rfl

theorem tunerUnlocks_answered {s u : State} {p : Port} {n : Nat} (r : Option Response) (h : tunerUnlocks (s.taking p n) u) :
    tunerUnlocks s (u.updPort p fun x => { x with slot := r }) := by
  obtain ⟨zones, flags⟩ := h
  refine ⟨zones, fun k => ?_⟩
  have flags := flags k
  rw [taking_flags] at flags
  rw [updPort_flags]
  exact flags

/-- A request that writes the tuner's record and leaves it in a state other than LOCKED. -/
theorem serve_tuned {s : State} {p : Port} {tag : Byte} {payload : List Byte} {owner : State → Reply} {r : Result}
    {data : List Byte} {x : Tuner} (ready : Ready s p) (le : payload.length ≤ 250) (off : x.state ≠ .locked)
    (done : (s.tuner.nextNumber != x.nextNumber) = s.tuner.op.isSome)
    (owns : owner (s.taking p payload.length) = { state := setTuner (s.taking p payload.length) x, result := r, data := data }) :
    ∃ t, serve s p tag payload owner = t ∧ t.tuner = x ∧ t.slot p = some { tag := tag, result := r, data := data } ∧
      t.links = s.links ∧ t.sources = s.sources ∧ t.channels = s.channels ∧ tunerUnlocks s t := by
  have field {α : Type} (g : State → α) (zone : ∀ s z f, g (State.autoZone s z f) = g s) :=
    setTuner_off_field (s := s.taking p payload.length) off g zone
  refine ⟨_, serve_eq ready le owns, ?_, ?_, ?_, ?_, ?_, tunerUnlocks_answered _ (setTuner_unlocks off done)⟩
  · exact field State.tuner fun _ _ _ => rfl
  · unfold State.slot State.updPort
    rw [State.putPort_ports, Ports.put_get_self]
  · exact field State.links fun _ _ _ => rfl
  · exact field State.sources fun _ _ _ => rfl
  · exact field State.channels fun _ _ _ => rfl

theorem tuneTo_cal (t : Tuner) (b : Band) (f : Nat) (op : TunerOp) (o : Origin) :
    (t.tuneTo b f op o).dac = (coarse (t.cal b) f).getD t.dac ∧ (t.tuneTo b f op o).presets = t.presets := by
  obtain ⟨⟨cs, n, st, ph, kept⟩, -⟩ := t.superseded
  unfold Tuner.tuneTo
  rw [kept]
  cases b <;> exact ⟨rfl, rfl⟩

theorem tuneTo_state (t : Tuner) (b : Band) (f : Nat) (op : TunerOp) (o : Origin) : (t.tuneTo b f op o).state = .acquiring := rfl

theorem tuneTo_completions (t : Tuner) (b : Band) (f : Nat) (op : TunerOp) (o : Origin) :
    (t.tuneTo b f op o).completions = t.supersede.completions := rfl

theorem tuneTo_nextNumber (t : Tuner) (b : Band) (f : Nat) (op : TunerOp) (o : Origin) :
    (t.tuneTo b f op o).nextNumber = t.supersede.nextNumber := rfl

theorem tuneRequest_eq {s : State} {b : Band} (f : Nat) (op : TunerOp) (o : Origin) (table : s.tuner.cal b ≠ []) :
    tuneRequest s b f op o =
      { state := setTuner s (s.tuner.tuneTo b (appliedFrequency b (s.tuner.record b).step f) op o)
        result := if appliedFrequency b (s.tuner.record b).step f = f then .accepted else .limited
        data := u24 (appliedFrequency b (s.tuner.record b).step f) } := by
  unfold tuneRequest
  rw [if_neg (by rw [List.isEmpty_iff]; exact table)]

theorem reqTune_eq {bb f2 f1 f0 : Byte} {b : Band} (o : Origin) (s : State) (named : bands[bb.toNat]? = some b) :
    reqTune o [bb, f2, f1, f0] s = tuneRequest s b ((f2.toNat * 256 + f1.toNat) * 256 + f0.toNat) .tune o := by
  simp only [reqTune, enumOf, named]
  rfl

theorem reqRecallPreset_eq {ib : Byte} {e : Preset} (o : Origin) {s : State} (entry : s.tuner.presets[ib.toNat]? = some e) :
    reqRecallPreset o [ib] s = tuneRequest s e.band e.frequency .recall o := by simp only [reqRecallPreset, entry]

/-- The BAND output (R163). -/
theorem band_level (b : Band) : b.level = true ↔ b = .am := by cases b <;> decide

theorem four_le {a b c d : Byte} : [a, b, c, d].length ≤ 250 := Nat.le_of_ble_eq_true rfl

/-- A request that tunes: the record it leaves, its answer and what it sets (R164). -/
theorem serve_tunes {s : State} {p : Port} {tag : Byte} {payload : List Byte} {owner : State → Reply} {b : Band} {f : Nat}
    {op : TunerOp} {o : Origin} (ready : Ready s p) (le : payload.length ≤ 250) (table : s.tuner.cal b ≠ [])
    (owns : owner (s.taking p payload.length) = tuneRequest (s.taking p payload.length) b f op o) :
    ∃ t, serve s p tag payload owner = t ∧
      t.tuner = s.tuner.tuneTo b (appliedFrequency b (s.tuner.record b).step f) op o ∧
      t.slot p = some { tag := tag, data := u24 (appliedFrequency b (s.tuner.record b).step f), result :=
        if appliedFrequency b (s.tuner.record b).step f = f then .accepted else .limited } ∧
      t.links = s.links ∧ t.sources = s.sources ∧ t.channels = s.channels ∧ tunerUnlocks s t := by
  refine serve_tuned ready le ?_ ?_ (owns.trans (tuneRequest_eq (s := s.taking p payload.length) f op o table))
  · rw [tuneTo_state]
    decide
  · rw [tuneTo_nextNumber]
    exact s.tuner.superseded.done

/-- Settles O42: the grid for the frequency applied, and one write of the record for what a request leaves. -/
theorem tuneEffect : Obligations.TuneEffect := by
  refine ⟨fun b step f allowed => ?_, fun s p tag bb f2 f1 f0 b f ready named table value => ?_,
    fun s p tag ib e f ready entry table value => ?_, fun s p tag bb f2 f1 f0 b ready named empty => ?_⟩
  · obtain ⟨m, grid⟩ := grid_of_allowed allowed
    refine ⟨appliedFrequency_onGrid grid f, fun n same on => ?_⟩
    rw [same, appliedFrequency_self grid on]
  · subst value
    obtain ⟨-, -, none, aborted⟩ := s.tuner.superseded
    obtain ⟨t, step, tuner, slot, links, sources, channels, unlocks⟩ := serve_tunes (tag := tag) ready four_le table
      (reqTune_eq (portOrigin p) _ named)
    obtain ⟨dac, presets⟩ := tuneTo_cal s.tuner b (appliedFrequency b (s.tuner.record b).step
      ((f2.toNat * 256 + f1.toNat) * 256 + f0.toNat : Nat)) .tune (portOrigin p)
    refine ⟨t, congrArg Host.Outcome.next step, ?_⟩
    unfold State.outputs
    rw [tuner, tuneTo_completions]
    refine ⟨rfl, rfl, rfl, rfl, rfl, rfl, ?_, rfl, rfl, rfl, rfl, fun d found => ?_, aborted, none, slot, presets, links,
      sources, channels, unlocks⟩
    · exact band_level b
    · exact dac.trans (by rw [found]; rfl)
  · subst value
    obtain ⟨t, step, tuner, slot, -, -, -, unlocks⟩ := serve_tunes (tag := tag) ready one_le table
      (reqRecallPreset_eq (portOrigin p) (s := s.taking p _) entry)
    obtain ⟨-, presets⟩ := tuneTo_cal s.tuner e.band (appliedFrequency e.band (s.tuner.record e.band).step e.frequency) .recall
      (portOrigin p)
    refine ⟨t, congrArg Host.Outcome.next step, ?_⟩
    rw [tuner]
    exact ⟨rfl, rfl, rfl, rfl, rfl, presets, unlocks, slot⟩
  · refine congrArg Host.Outcome.next (serve_unchanged ready four_le ((reqTune_eq _ _ named).trans ?_))
    exact if_pos (List.isEmpty_iff.mpr empty)

end Sys2Proof.Machine
end

section
/-! The channels a search meets, and what SEEK and SCAN leave (R172, R173). -/

namespace Sys2Proof.Machine

/-! ## The channels beyond a frequency -/

section
variable {b : Band} {step m f : Nat}

theorem chanAt_le (g : Grid b step m) {j k : Nat} : chanAt b step j ≤ chanAt b step k ↔ j ≤ k := by
  rw [← Nat.not_lt, chanAt_lt g, Nat.not_lt]

theorem edges_lt (g : Grid b step m) : lowEdge b step < highEdge b step := by
  rw [← chanAt_low, ← chanAt_high g, chanAt_lt g]
  exact g.spread

/-- Where a frequency lies among the channels. -/
theorem chanAt_div (g : Grid b step m) (low : lowEdge b step ≤ f) : chanAt b step ((f - lowEdge b step) / step) ≤ f ∧
    f < chanAt b step ((f - lowEdge b step) / step + 1) := by
  have parts := Nat.div_add_mod (f - lowEdge b step) step
  have rest := Nat.mod_lt (f - lowEdge b step) g.pos
  unfold chanAt
  rw [Nat.mul_add]
  omega

theorem channelAbove_below (g : Grid b step m) (h : f < lowEdge b step) : channelAbove b step f = chanAt b step 0 := by
  unfold channelAbove
  dsimp only
  rw [if_pos h, if_pos (edges_lt g).le]
  rfl

theorem channelAbove_inside (g : Grid b step m) (low : lowEdge b step ≤ f) (high : f < highEdge b step) :
    (f - lowEdge b step) / step + 1 ≤ m ∧ channelAbove b step f = chanAt b step ((f - lowEdge b step) / step + 1) := by
  have inside : (f - lowEdge b step) / step < m := by
    rw [← chanAt_lt g, chanAt_high g]
    exact (chanAt_div g low).1.trans_lt high
  refine ⟨inside, ?_⟩
  unfold channelAbove
  dsimp only
  rw [if_neg (Nat.not_lt.mpr low), if_pos]
  · rfl
  · rw [← chanAt_high g]
    exact (chanAt_le g).mpr inside

theorem channelAbove_wraps (g : Grid b step m) (h : highEdge b step ≤ f) : channelAbove b step f = chanAt b step 0 := by
  have low : lowEdge b step ≤ f := (edges_lt g).le.trans h
  have next : lowEdge b step + step * ((f - lowEdge b step) / step + 1) = chanAt b step ((f - lowEdge b step) / step + 1) := rfl
  unfold channelAbove
  dsimp only
  rw [if_neg (Nat.not_lt.mpr low), next, if_neg (Nat.not_le.mpr (h.trans_lt (chanAt_div g low).2))]
  rfl

theorem channelBelow_wraps (g : Grid b step m) (h : f ≤ lowEdge b step ∨ highEdge b step < f) :
    channelBelow b step f = chanAt b step m := (if_pos h).trans g.high

theorem channelBelow_inside (low : lowEdge b step < f) (high : f ≤ highEdge b step) :
    channelBelow b step f = chanAt b step ((f - 1 - lowEdge b step) / step) := by
  unfold channelBelow
  rw [if_neg (not_or.mpr ⟨Nat.not_le.mpr low, Nat.not_lt.mpr high⟩), Nat.sub_right_comm]
  rfl

/-- Below the high edge there is a channel above, and it is the nearest (R172). -/
theorem channelAbove_nearest (g : Grid b step m) (h : f < highEdge b step) :
    onGrid b step (channelAbove b step f) = true ∧ f < channelAbove b step f ∧
      ∀ x, onGrid b step x = true → f < x → channelAbove b step f ≤ x := by
  by_cases low : f < lowEdge b step
  · rw [channelAbove_below g low]
    refine ⟨onGrid_chanAt g (Nat.zero_le m), low, fun x on _ => ?_⟩
    obtain ⟨j, -, rfl⟩ := (onGrid_iff g).mp on
    exact (chanAt_le g).mpr (Nat.zero_le j)
  · obtain ⟨inside, is⟩ := channelAbove_inside g (Nat.not_lt.mp low) h
    obtain ⟨reached, beyond⟩ := chanAt_div g (Nat.not_lt.mp low)
    rw [is]
    refine ⟨onGrid_chanAt g inside, beyond, fun x on above => ?_⟩
    obtain ⟨j, -, rfl⟩ := (onGrid_iff g).mp on
    exact (chanAt_le g).mpr ((chanAt_lt g).mp (reached.trans_lt above))

/-- Above the low edge there is a channel below, and it is the nearest (R172). -/
theorem channelBelow_nearest (g : Grid b step m) (h : lowEdge b step < f) :
    onGrid b step (channelBelow b step f) = true ∧ channelBelow b step f < f ∧
      ∀ x, onGrid b step x = true → x < f → x ≤ channelBelow b step f := by
  by_cases high : highEdge b step < f
  · rw [channelBelow_wraps g (.inr high)]
    refine ⟨onGrid_chanAt g le_rfl, by rwa [chanAt_high g], fun x on _ => ?_⟩
    obtain ⟨j, inside, rfl⟩ := (onGrid_iff g).mp on
    exact (chanAt_le g).mpr inside
  · obtain ⟨reached, beyond⟩ := chanAt_div g (Nat.le_sub_one_of_lt h)
    rw [channelBelow_inside h (Nat.not_lt.mp high)]
    refine ⟨onGrid_chanAt g ?_, by omega, fun x on below => ?_⟩
    · rw [← chanAt_le g, chanAt_high g]
      omega
    · obtain ⟨j, -, rfl⟩ := (onGrid_iff g).mp on
      have before : chanAt b step j < chanAt b step ((f - 1 - lowEdge b step) / step + 1) := by omega
      exact (chanAt_le g).mpr (Nat.le_of_lt_succ ((chanAt_lt g).mp before))

/-! ## Around the band -/

theorem chanAt_index (g : Grid b step m) (k : Nat) : (chanAt b step k - lowEdge b step) / step = k := by
  unfold chanAt
  rw [Nat.add_sub_cancel_left, Nat.mul_div_cancel_left k g.pos]

/-- The channel above a channel, around the band (R172). -/
theorem channelAbove_chanAt (g : Grid b step m) {k : Nat} (le : k ≤ m) :
    channelAbove b step (chanAt b step k) = chanAt b step ((k + 1) % (m + 1)) := by
  rcases le.lt_or_eq with inside | rfl
  · have high : chanAt b step k < highEdge b step := by rwa [← chanAt_high g, chanAt_lt g]
    have low : lowEdge b step ≤ chanAt b step k := Nat.le_add_right _ _
    rw [(channelAbove_inside g low high).2, chanAt_index g, Nat.mod_eq_of_lt (by omega)]
  · rw [channelAbove_wraps g (chanAt_high g).ge, Nat.mod_self]

/-- The channel below a channel, around the band (R172). -/
theorem channelBelow_chanAt (g : Grid b step m) {k : Nat} (le : k ≤ m) :
    channelBelow b step (chanAt b step k) = chanAt b step ((k + m) % (m + 1)) := by
  cases k with
  | zero => rw [channelBelow_wraps (f := chanAt b step 0) g (.inl le_rfl), Nat.zero_add, Nat.mod_eq_of_lt (by omega)]
  | succ k =>
    have low : lowEdge b step < chanAt b step (k + 1) := by
      rw [← chanAt_low, chanAt_lt g]
      omega
    have high : chanAt b step (k + 1) ≤ highEdge b step := by rwa [← chanAt_high g, chanAt_le g]
    have nearest := channelBelow_nearest g low
    rw [channelBelow_inside low high] at nearest ⊢
    obtain ⟨-, below, most⟩ := nearest
    have least := most (chanAt b step k) (onGrid_chanAt g (by omega)) ((chanAt_lt g).mpr (Nat.lt_succ_self k))
    have index := Nat.le_antisymm (Nat.le_of_lt_succ ((chanAt_lt g).mp below)) ((chanAt_le g).mp least)
    rw [index, show k + 1 + m = k + (m + 1) by omega, Nat.add_mod_right, Nat.mod_eq_of_lt (by omega)]

/-- The channels met by steps of `a` around a band of `m + 1` channels: the first `m + 1` of them differ where `a` and `m + 1`
have no common divisor. -/
theorem cycle_index_ne {a k i j : Nat} (coprime : Nat.Coprime (m + 1) a) (lt : i < j) (le : j ≤ m) :
    (k + i * a) % (m + 1) ≠ (k + j * a) % (m + 1) := by
  intro same
  have turns : i * a ≡ j * a [MOD m + 1] := Nat.ModEq.add_left_cancel' k same
  have equal : i ≡ j [MOD m + 1] := turns.cancel_right_of_coprime coprime
  exact lt.ne (equal.eq_of_lt_of_lt (by omega) (by omega))

/-- A search from a channel on, whose every step takes the index on by `a` around the band. -/
theorem cycle_chanAt {a k : Nat} {next : Nat → Nat} {s : Nat → Nat}
    (turn : ∀ k ≤ m, next (chanAt b step k) = chanAt b step ((k + a) % (m + 1))) (start : s 0 = chanAt b step (k % (m + 1)))
    (steps : ∀ j, s (j + 1) = next (s j)) (j : Nat) : s j = chanAt b step ((k + j * a) % (m + 1)) := by
  induction j with
  | zero => simpa using start
  | succ j ih =>
    rw [steps, ih, turn _ (Nat.le_of_lt_succ (Nat.mod_lt _ (Nat.succ_pos m))), Nat.mod_add_mod, Nat.add_assoc, Nat.succ_mul]

/-- Steps of a search meet every channel but the start once, in as many steps as there are such channels (R172). -/
theorem search_meets {a n : Nat} {next : Nat → Nat} {s : Nat → Nat} (g : Grid b step m) (coprime : Nat.Coprime (m + 1) a)
    (turn : ∀ k ≤ m, next (chanAt b step k) = chanAt b step ((k + a) % (m + 1)))
    (lands : onGrid b step (next f) = true) (start : s 0 = f) (steps : ∀ j, s (j + 1) = next (s j))
    (tries : n = channelCount b step - (if onGrid b step f then 1 else 0)) :
    (∀ j, 1 ≤ j → j ≤ n → onGrid b step (s j) = true) ∧ ∀ i j, i < j → j ≤ n → s i ≠ s j := by
  have bounded (i : Nat) : i % (m + 1) ≤ m := Nat.le_of_lt_succ (Nat.mod_lt i (Nat.succ_pos m))
  rw [g.count] at tries
  by_cases on : onGrid b step f = true
  · obtain ⟨k, le, at_⟩ := (onGrid_iff g).mp on
    have all := cycle_chanAt turn (start.trans (at_.trans (by rw [Nat.mod_eq_of_lt (Nat.lt_succ_of_le le)]))) steps
    rw [if_pos on, Nat.add_sub_cancel] at tries
    subst tries
    refine ⟨fun j _ _ => by rw [all]; exact onGrid_chanAt g (bounded _), fun i j lt le same => ?_⟩
    rw [all, all, chanAt_inj g] at same
    exact cycle_index_ne coprime lt le same
  · obtain ⟨k, le, at_⟩ := (onGrid_iff g).mp lands
    have first : s (0 + 1) = chanAt b step (k % (m + 1)) := by
      rw [steps, start, at_, Nat.mod_eq_of_lt (Nat.lt_succ_of_le le)]
    have all := cycle_chanAt (s := fun j => s (j + 1)) turn first fun j => steps (j + 1)
    have lands (j : Nat) (pos : 1 ≤ j) : onGrid b step (s j) = true := by
      obtain ⟨j, rfl⟩ := Nat.exists_eq_add_of_le' pos
      rw [all j]
      exact onGrid_chanAt g (bounded _)
    rw [if_neg on, Nat.sub_zero] at tries
    subst tries
    refine ⟨fun j pos _ => lands j pos, fun i j lt le same => ?_⟩
    obtain ⟨j, rfl⟩ := Nat.exists_eq_add_of_le' (Nat.one_le_of_lt lt)
    cases i with
    | zero =>
      rw [start] at same
      exact on (by rw [same]; exact lands _ (Nat.le_add_left 1 j))
    | succ i =>
      have same := (all i).symm.trans (same.trans (all j))
      rw [chanAt_inj g] at same
      exact cycle_index_ne coprime (by omega) (by omega) same

theorem channelAbove_lands (g : Grid b step m) (f : Nat) : onGrid b step (channelAbove b step f) = true ∧
    channelAbove b step f ≠ f := by
  by_cases high : f < highEdge b step
  · obtain ⟨on, above, -⟩ := channelAbove_nearest g high
    exact ⟨on, above.ne'⟩
  · rw [channelAbove_wraps g (Nat.not_lt.mp high)]
    exact ⟨onGrid_chanAt g (Nat.zero_le m), ((edges_lt g).trans_le (Nat.not_lt.mp high)).ne⟩

theorem channelBelow_lands (g : Grid b step m) (f : Nat) : onGrid b step (channelBelow b step f) = true ∧
    channelBelow b step f ≠ f := by
  by_cases low : lowEdge b step < f
  · obtain ⟨on, below, -⟩ := channelBelow_nearest g low
    exact ⟨on, below.ne⟩
  · rw [channelBelow_wraps g (.inl (Nat.not_lt.mp low)), chanAt_high g]
    exact ⟨chanAt_high g ▸ onGrid_chanAt g le_rfl, ((Nat.not_lt.mp low).trans_lt (edges_lt g)).ne'⟩

end

/-! ## A search begins -/

/-- What a search leaves of the record at its start: its operation, its start frequency and its direction (R172, R173). -/
structure Tuner.Searching (t x : Tuner) (op : TunerOp) (state : TunerState) (up : Bool) (o : Origin) : Prop where
  state : x.state = state
  op : x.op = some (op, o)
  start : x.start = some (t.band, t.target)
  band : x.band = t.band
  iterations : x.iterations = 0
  gate : x.gate = .transfer
  origin : x.lastChanged = o
  up : x.searchUp = up
  presets : x.presets = t.presets
  done : (t.nextNumber != x.nextNumber) = t.op.isSome

theorem channels_left {b : Band} {step : Nat} (allowed : stepAllowed b step = true) (f : Nat) :
    channelCount b step - (if onGrid b step f then 1 else 0) ≠ 0 := by
  obtain ⟨m, g⟩ := grid_of_allowed allowed
  have many := g.spread
  rw [g.count]
  split <;> omega

theorem beginSeek_searching (t : Tuner) (up : Bool) (o : Origin) (allowed : stepAllowed t.band (t.record t.band).step = true) :
    t.Searching (t.beginSeek up o) .seek .seeking up o ∧ (t.beginSeek up o).phase = some .acquire ∧
      (t.beginSeek up o).target = (if up then channelAbove t.band (t.record t.band).step t.target
        else channelBelow t.band (t.record t.band).step t.target) ∧
      (t.beginSeek up o).triesLeft = channelCount t.band (t.record t.band).step -
        (if onGrid t.band (t.record t.band).step t.target then 1 else 0) - 1 := by
  obtain ⟨⟨cs, n, st, ph, kept⟩, done, -⟩ := t.superseded
  unfold Tuner.beginSeek Tuner.advance
  dsimp only
  rw [if_neg (channels_left allowed t.target)]
  rw [kept] at done ⊢
  exact ⟨⟨rfl, rfl, rfl, rfl, rfl, rfl, rfl, rfl, rfl, done⟩, rfl, rfl, rfl⟩

theorem beginScan_searching (t : Tuner) (o : Origin) (room : t.presets.length < 40) :
    t.Searching (t.beginScan o) .scan .scanning true o ∧ (t.beginScan o).phase = some .acquire ∧
      (t.beginScan o).target = lowEdge t.band (t.record t.band).step ∧
      (t.beginScan o).triesLeft = channelCount t.band (t.record t.band).step - 1 := by
  obtain ⟨⟨cs, n, st, ph, kept⟩, done, -⟩ := t.superseded
  unfold Tuner.beginScan
  dsimp only
  rw [if_neg (Nat.not_le.mpr room)]
  rw [kept] at done ⊢
  exact ⟨⟨rfl, rfl, rfl, rfl, rfl, rfl, rfl, rfl, rfl, done⟩, rfl, rfl, rfl⟩

theorem beginScan_returns (t : Tuner) (o : Origin) (full : 40 ≤ t.presets.length) :
    t.Searching (t.beginScan o) .scan .scanning true o ∧ (t.beginScan o).phase = some .return ∧
      (t.beginScan o).target = t.target ∧ (t.beginScan o).triesLeft = 0 := by
  obtain ⟨⟨cs, n, st, ph, kept⟩, done, -⟩ := t.superseded
  unfold Tuner.beginScan
  dsimp only
  rw [if_pos full]
  rw [kept] at done ⊢
  exact ⟨⟨rfl, rfl, rfl, rfl, rfl, rfl, rfl, rfl, rfl, done⟩, rfl, rfl, rfl⟩

/-! ## The requests -/

theorem direction_code (up : Bool) : enumOf [true, false] (if up then 0 else 1 : Byte) = some up := by cases up <;> rfl

theorem direction_named {db : Byte} (h : db.toNat < 2) : ∃ up, enumOf [true, false] db = some up := by
  unfold enumOf
  obtain e | e : db.toNat = 0 ∨ db.toNat = 1 := by omega
  · exact ⟨true, by rw [e]; rfl⟩
  · exact ⟨false, by rw [e]; rfl⟩

theorem reqSeek_eq {db : Byte} {up : Bool} (o : Origin) {s : State} (named : enumOf [true, false] db = some up)
    (running : s.tuner.state ≠ .off) : reqSeek o [db] s =
      { state := setTuner s (s.tuner.beginSeek up o), result := .accepted, data := [] } := by
  simp only [reqSeek, named]
  exact if_neg running

theorem reqScan_eq (o : Origin) {s : State} (running : s.tuner.state ≠ .off) : reqScan o [] s =
    { state := setTuner s (s.tuner.beginScan o), result := .accepted, data := [] } := if_neg running

/-- Settles O43: the channels around the band, and the record with which a search begins. -/
theorem searchEffect : Obligations.SearchEffect := by
  refine ⟨fun b step f allowed => ?_, fun s p tag db up ready code running allowed => ?_, fun s p tag ready running room => ?_,
    fun s p tag ready running full => ?_, fun s p tag db ready code off => ⟨?_, ?_⟩⟩
  · obtain ⟨m, g⟩ := grid_of_allowed allowed
    refine ⟨⟨channelAbove_wraps g, channelAbove_nearest g⟩,
      ⟨fun low => (channelBelow_wraps g (.inl low)).trans (chanAt_high g), channelBelow_nearest g⟩, ?_,
      fun s n start tries steps => ?_⟩
    · rw [onGrid_iff g, g.count]
      simp only [chanAt, Nat.lt_succ_iff, Nat.mul_comm step]
    · rcases steps with above | below
      · exact search_meets g (Nat.coprime_one_right _) (fun k le => channelAbove_chanAt g le) (channelAbove_lands g f).1 start
          above tries
      · exact search_meets g (by simp) (fun k le => channelBelow_chanAt g le) (channelBelow_lands g f).1 start below tries
  · obtain ⟨search, phase, target, tries⟩ := beginSeek_searching s.tuner up (portOrigin p) allowed
    obtain ⟨t, step, tuner, slot, links, -, channels, unlocks⟩ := serve_tuned (tag := tag) ready one_le
      (by rw [search.state]; decide) search.done
      (reqSeek_eq (portOrigin p) (s := s.taking p _) (code ▸ direction_code up) running)
    obtain ⟨m, g⟩ := grid_of_allowed allowed
    have lands : onGrid s.tuner.band (s.tuner.record s.tuner.band).step (s.tuner.beginSeek up (portOrigin p)).target = true ∧
        (s.tuner.beginSeek up (portOrigin p)).target ≠ s.tuner.target := by
      rw [target]
      cases up
      · exact channelBelow_lands g _
      · exact channelAbove_lands g _
    refine ⟨t, congrArg Host.Outcome.next step, slot, ?_⟩
    rw [tuner]
    exact ⟨search.state, phase, search.op, search.start, search.band, search.iterations, search.gate, search.origin, target,
      lands.1, lands.2, search.up, tries, search.presets, links, channels, unlocks⟩
  · obtain ⟨search, phase, target, tries⟩ := beginScan_searching s.tuner (portOrigin p) room
    obtain ⟨t, step, tuner, slot, -, -, -, unlocks⟩ := serve_tuned (tag := tag) (payload := []) ready (Nat.zero_le _)
      (by rw [search.state]; decide) search.done (reqScan_eq (portOrigin p) (s := s.taking p _) running)
    refine ⟨t, congrArg Host.Outcome.next step, slot, ?_⟩
    rw [tuner]
    exact ⟨search.state, phase, search.op, search.start, target, search.iterations, search.up, search.band, tries,
      search.presets, unlocks⟩
  · obtain ⟨search, phase, target, tries⟩ := beginScan_returns s.tuner (portOrigin p) full
    obtain ⟨t, step, tuner, slot, -, -, -, unlocks⟩ := serve_tuned (tag := tag) (payload := []) ready (Nat.zero_le _)
      (by rw [search.state]; decide) search.done (reqScan_eq (portOrigin p) (s := s.taking p _) running)
    refine ⟨t, congrArg Host.Outcome.next step, slot, ?_⟩
    rw [tuner]
    exact ⟨search.state, phase, target, search.band, search.op, search.start, tries, search.presets, unlocks⟩
  · obtain ⟨up, named⟩ := direction_named code
    refine congrArg Host.Outcome.next (serve_unchanged ready one_le ?_)
    simp only [reqSeek, named]
    exact if_pos off
  · exact congrArg Host.Outcome.next (serve_unchanged ready (Nat.zero_le _) (if_pos off))

end Sys2Proof.Machine
end

section
/-! What a zone's operations do on other ports: they write the flags of both copies alone (R199). -/

namespace Sys2Proof.Machine

/-- The state on other ports, which hold the flags of its own. -/
def State.onPorts (s : State) (P : Ports) : State :=
  { s with ports := { cpa := { P.cpa with flags := s.ports.cpa.flags }, cpb := { P.cpb with flags := s.ports.cpb.flags } } }

section
variable (P : Ports) (s : State)

theorem raiseIf_onPorts (b : Bool) (f : Flag) : (s.onPorts P).ports.raiseIf b f =
    (State.onPorts { s with ports := s.ports.raiseIf b f } P).ports := by cases b <;> rfl

theorem raise_onPorts (f : Flag) : (s.onPorts P).raise f = (s.raise f).onPorts P := rfl

theorem putZone_onPorts (z : ZoneId) (r : Zone) : (s.onPorts P).putZone z r = (s.putZone z r).onPorts P := by
  unfold State.putZone
  rw [raiseIf_onPorts]
  rfl

theorem updZone_onPorts (z : ZoneId) (f : Zone → Zone) : (s.onPorts P).updZone z f = (s.updZone z f).onPorts P :=
  putZone_onPorts P s z _

theorem autoZone_onPorts (z : ZoneId) (f : Zone → Zone) : (s.onPorts P).autoZone z f = (s.autoZone z f).onPorts P :=
  putZone_onPorts P s z _

theorem updUnit_onPorts (u : UnitId) (f : DecodeUnit → DecodeUnit) : (s.onPorts P).updUnit u f = (s.updUnit u f).onPorts P := by
  unfold State.updUnit State.putUnit
  rw [raiseIf_onPorts]
  rfl

theorem updPair_onPorts (q : PairId) (f : Pair → Pair) : (s.onPorts P).updPair q f = (s.updPair q f).onPorts P := by
  unfold State.updPair State.putPair
  rw [raiseIf_onPorts]
  rfl

theorem updChannel_onPorts (c : Chan) (f : Channel → Channel) : (s.onPorts P).updChannel c f = (s.updChannel c f).onPorts P := rfl

variable {P}

theorem forEach_onPorts {α : Type} {op : State → α → State} (h : ∀ s x, op (s.onPorts P) x = (op s x).onPorts P)
    (xs : List α) (s : State) : (s.onPorts P).forEach xs op = (s.forEach xs op).onPorts P := by
  induction xs generalizing s with
  | nil => rfl
  | cons x xs ih => rw [State.forEach_cons, State.forEach_cons, h, ih]

variable (P)

/-! ## The arbiter -/

theorem raiseAttached_onPorts (pos : DecodePos) : raiseAttached (s.onPorts P) pos = (raiseAttached s pos).onPorts P := by
  cases pos <;> rfl

theorem setDecode_onPorts (z : ZoneId) (pos : DecodePos) : setDecode (s.onPorts P) z pos = (setDecode s z pos).onPorts P := by
  unfold setDecode
  refine (congrArg (fun t : State => if (s.zones.get z).decode = pos then t else
    raiseAttached (raiseAttached t (s.zones.get z).decode) pos) (autoZone_onPorts P s z _)).trans ?_
  dsimp only
  rw [raiseAttached_onPorts, raiseAttached_onPorts]
  exact (apply_ite (fun t : State => t.onPorts P) _ _ _).symm

theorem bindUnit_onPorts (u : UnitId) (l : LinkId) : bindUnit (s.onPorts P) u l = (bindUnit s u l).onPorts P := by
  have written (f : DecodeUnit → DecodeUnit) (n : Nat) : { (s.onPorts P).updUnit u f with fresh := n } =
      State.onPorts { s.updUnit u f with fresh := n } P := by
    rw [updUnit_onPorts]
    rfl
  exact written _ _

theorem grantUnit_onPorts (u : UnitId) : grantUnit (s.onPorts P) u = (grantUnit s u).onPorts P := by
  have bound (w : List ZoneId) (l : LinkId) : bindUnit ((s.onPorts P).putWaitList w) u l =
      (bindUnit (s.putWaitList w) u l).onPorts P := bindUnit_onPorts P (s.putWaitList w) u l
  have wait : (s.onPorts P).waitList = s.waitList := rfl
  have zones : (s.onPorts P).zones = s.zones := rfl
  unfold grantUnit
  rw [wait, zones]
  dsimp only
  split
  · rfl
  · split
    · rfl
    · rw [bound, forEach_onPorts fun t y => setDecode_onPorts P t y _]

theorem freeIfEmpty_onPorts (u : UnitId) : freeIfEmpty (s.onPorts P) u = (freeIfEmpty s u).onPorts P := by
  have clear : clearUnit (s.onPorts P) u = (clearUnit s u).onPorts P := updUnit_onPorts P s u _
  have attached : attachedZones (s.onPorts P) u = attachedZones s u := rfl
  unfold freeIfEmpty
  rw [attached, clear, grantUnit_onPorts]
  exact (apply_ite (fun t : State => t.onPorts P) _ _ _).symm

theorem releaseDecode_onPorts (z : ZoneId) : releaseDecode (s.onPorts P) z = (releaseDecode s z).onPorts P := by
  have zones : (s.onPorts P).zones = s.zones := rfl
  unfold releaseDecode
  rw [zones]
  split
  · rfl
  · exact setDecode_onPorts P (s.putWaitList _) z .none
  · rw [setDecode_onPorts, freeIfEmpty_onPorts]

theorem placeDecode_onPorts (z : ZoneId) (l : LinkId) : placeDecode (s.onPorts P) z l = (placeDecode s z l).onPorts P := by
  have serving : servingUnit (s.onPorts P) l = servingUnit s l := rfl
  have free : lowestFree (s.onPorts P) = lowestFree s := rfl
  unfold placeDecode
  rw [serving, free]
  split
  · exact setDecode_onPorts P s z _
  · split
    · rw [bindUnit_onPorts, setDecode_onPorts]
    · exact setDecode_onPorts P (s.putWaitList _) z .waiting

theorem rebindDecode_onPorts (z : ZoneId) (old new : Option LinkId) :
    rebindDecode (s.onPorts P) z old new = (rebindDecode s z old new).onPorts P := by
  have needs (l : LinkId) : linkNeedsDecode (s.onPorts P) l = linkNeedsDecode s l := rfl
  have zones : (s.onPorts P).zones = s.zones := rfl
  unfold rebindDecode
  split
  · exact releaseDecode_onPorts P s z
  · rw [needs, zones]
    split
    · split
      · exact setDecode_onPorts P s z _
      · rw [releaseDecode_onPorts, placeDecode_onPorts]
    · exact releaseDecode_onPorts P s z

/-! ## The carrier -/

theorem presentChannel_onPorts (z : ZoneId) (c : Chan) : presentChannel z (s.onPorts P) c = (presentChannel z s c).onPorts P := by
  have speakers : (s.onPorts P).speakers = s.speakers := rfl
  have channels : (s.onPorts P).channels = s.channels := rfl
  have duty : dutyFor (s.onPorts P) c = dutyFor s c := rfl
  unfold presentChannel
  rw [speakers, channels, duty]
  split
  · split <;> rfl
  · split <;> rfl

theorem beginFrame_onPorts (z : ZoneId) (m : DriveMode) : beginFrame (s.onPorts P) z m = (beginFrame s z m).onPorts P := by
  have pair (t : State) (q : PairId) : beginPairPeriod z (t.onPorts P) q = (beginPairPeriod z t q).onPorts P := by
    unfold beginPairPeriod
    rw [updPair_onPorts]
    exact (apply_ite (fun t : State => t.onPorts P) _ _ _).symm
  unfold beginFrame beginPeriod
  rw [updZone_onPorts, forEach_onPorts fun t c => presentChannel_onPorts P t z c, forEach_onPorts pair]

theorem restartCarrier_onPorts (z : ZoneId) : restartCarrier (s.onPorts P) z = (restartCarrier s z).onPorts P := by
  unfold restartCarrier
  dsimp only
  rw [beginFrame_onPorts]
  exact (apply_ite (fun t : State => t.onPorts P) _ _ _).symm

theorem zeroDuties_onPorts (z : ZoneId) : zeroDuties (s.onPorts P) z = (zeroDuties s z).onPorts P :=
  forEach_onPorts (fun t c => updChannel_onPorts P t c _) _ s

theorem bindCarrier_onPorts (z : ZoneId) (old : Rate) : bindCarrier (s.onPorts P) z old = (bindCarrier s z old).onPorts P := by
  have zones : (s.onPorts P).zones = s.zones := rfl
  unfold bindCarrier
  rw [zones, zeroDuties_onPorts, restartCarrier_onPorts]
  split
  · split <;> rfl
  · rfl

/-! ## Bindings -/

theorem startCountdown_onPorts (z : ZoneId) : startCountdown (s.onPorts P) z = (startCountdown s z).onPorts P :=
  updZone_onPorts P s z _

theorem bindCountdown_onPorts (z : ZoneId) : bindCountdown (s.onPorts P) z = (bindCountdown s z).onPorts P := by
  unfold bindCountdown
  rw [updZone_onPorts, startCountdown_onPorts]

theorem allocateZone_onPorts (z : ZoneId) : allocateZone (s.onPorts P) z = (allocateZone s z).onPorts P := by
  have asked : (s.onPorts P).allocation z = s.allocation z := rfl
  rw [allocateZone_eq, allocateZone_eq, asked, updZone_onPorts, raise_onPorts]
  exact (apply_ite (fun t : State => t.onPorts P) _ _ _).symm

theorem primeDelays_onPorts (z : ZoneId) : primeDelays (s.onPorts P) z = (primeDelays s z).onPorts P :=
  forEach_onPorts (op := primeChannel _ _) (fun t c => by unfold primeChannel; exact updChannel_onPorts P t c _) _ s

theorem bindingEntered_onPorts (z : ZoneId) : bindingEntered (s.onPorts P) z = (bindingEntered s z).onPorts P := by
  have entered (t : State) : (t.onPorts P).autoZone z (fun r =>
        r.enterPath (t.onPorts P).speakers z (bindVals (t.onPorts P) r)) =
      (t.autoZone z fun r => r.enterPath t.speakers z (bindVals t r)).onPorts P := autoZone_onPorts P t z _
  rw [bindingEntered_eq, bindingEntered_eq, allocateZone_onPorts, entered]

theorem bindingTaken_onPorts (z : ZoneId) (rebind : Bool) :
    bindingTaken (s.onPorts P) z rebind = (bindingTaken s z rebind).onPorts P := by
  rw [bindingTaken_eq, bindingTaken_eq, autoZone_onPorts]
  exact autoZone_onPorts P _ z _

theorem bindingPlaced_onPorts (z : ZoneId) (rebind : Bool) :
    bindingPlaced (s.onPorts P) z rebind = (bindingPlaced s z rebind).onPorts P := by
  unfold bindingPlaced
  rw [bindingTaken_onPorts]
  exact rebindDecode_onPorts P _ z _ _

theorem bindZone_onPorts (z : ZoneId) (rebind : Bool) : bindZone (s.onPorts P) z rebind = (bindZone s z rebind).onPorts P := by
  have zones : (s.onPorts P).zones = s.zones := rfl
  rw [bindZone_eq, bindZone_eq, bindingPlaced_onPorts, bindingEntered_onPorts, primeDelays_onPorts, zones, bindCarrier_onPorts,
    bindCountdown_onPorts, raise_onPorts]

theorem rebindCause_onPorts (z : ZoneId) : rebindCause (s.onPorts P) z = (rebindCause s z).onPorts P := by
  have zones : (s.onPorts P).zones = s.zones := rfl
  unfold rebindCause
  dsimp only
  rw [zones, bindZone_onPorts, autoZone_onPorts]
  have fades := (apply_ite (fun t : State => t.onPorts P) ((s.zones.get z).qr = none) (bindZone s z true)
    (s.autoZone z fun r => { r with path := .fading })).symm
  split
  · rfl
  · rfl
  · rfl
  · exact fades
  · exact fades
  · rfl
  · rfl
  · rfl

end

/-! ## A selection with another origin -/

/-- A selection before its origin is recorded (R69). -/
def State.selecting (s : State) (z : ZoneId) (src : Option SrcId) : State :=
  rebindCause ((endTone s z).updZone z fun r => { r with selected := src }) z

theorem selectSource_selecting (s : State) (z : ZoneId) (src : Option SrcId) (o : Origin) :
    selectSource s z src o = (s.selecting z src).zoneOrigin z o := rfl

theorem selecting_onPorts (P : Ports) (s : State) (z : ZoneId) (src : Option SrcId) :
    (s.onPorts P).selecting z src = (s.selecting z src).onPorts P := by
  have ended : endTone (s.onPorts P) z = (endTone s z).onPorts P := updZone_onPorts P s z _
  unfold State.selecting
  rw [ended, updZone_onPorts, rebindCause_onPorts]

theorem rebindCause_flag {s : State} {z : ZoneId} {k : Port}
    (h : (s.ports.get k).flags.get (Flag.zone z).index = true) :
    ((rebindCause s z).ports.get k).flags.get (Flag.zone z).index = true := by
  rcases rebindCause_cases s z with e | ⟨-, e | e⟩
  · rwa [e]
  · rw [e]
    exact bindZone_flag s z true k
  · rw [e]
    exact (Ports.raiseIf_flag ..).trans (by rw [h, Bool.true_or])

/-- A new selection sets the ZONE flag, whatever else follows (R86). -/
theorem selecting_flag {s : State} {z : ZoneId} {src : Option SrcId} (new : (s.zones.get z).selected ≠ src) (k : Port) :
    ((s.selecting z src).ports.get k).flags.get (Flag.zone z).index = true := by
  obtain ⟨-, t, m, record⟩ := endTone_record s z
  have changes : ((endTone s z).zones.get z).reportedChange { (endTone s z).zones.get z with selected := src } = true := by
    rw [reportedChange_selected, record]
    exact bne_iff_ne.mpr new
  refine rebindCause_flag ((Ports.raiseIf_flag ..).trans ?_)
  rw [changes, decide_eq_true rfl, Bool.and_self, Bool.or_true]

/-- A flag that stands is set again with no effect. -/
theorem raise_standing {ps : Ports} {f : Flag} (h : ∀ k, (ps.get k).flags.get f.index = true) : ps.raise f = ps := by
  have port (r : PortState) (set : r.flags.get f.index = true) : r.raise f = r := by
    unfold PortState.raise
    rw [← set, setAt_self]
  exact congrArg₂ Ports.mk (port ps.cpa (h .cpa)) (port ps.cpb (h .cpb))

/-- A new selection, as the state before its origin is recorded with the origin written. -/
theorem selectSource_origin {s : State} {z : ZoneId} {src : Option SrcId} (o : Origin) (new : (s.zones.get z).selected ≠ src) :
    selectSource s z src o = { s.selecting z src with
      zones := setAt (s.selecting z src).zones z { (s.selecting z src).zones.get z with lastChanged := o } } := by
  have standing := raise_standing (selecting_flag new)
  have raised (b : Bool) : (s.selecting z src).ports.raiseIf b (.zone z) = (s.selecting z src).ports := by
    cases b
    · rfl
    · exact standing
  rw [selectSource_selecting, zoneOrigin_state, raised]

/-! ## A detent and its owner -/

/-- The step count of a detent in the statement's words (R187). -/
theorem stepCount_eq (now : Millis) (last : Option (Millis × Bool)) (clockwise : Bool) :
    (stepCount now last clockwise : Int) =
      match last with
      | some (t, d) => if d = clockwise ∧ (now - t).toNat < 40 then 4 else 1
      | none => 1 := by
  rcases last with - | ⟨t, d⟩
  · rfl
  · exact apply_ite Nat.cast _ 4 1

/-- A detent hands its signed step count to the owner that the binding names (R187, R189). -/
theorem detent_hands {s u : State} {e : EncId} {clockwise : Bool} {n : Int}
    (count : n = (if clockwise then 1 else -1) *
      (match (s.encoders.get e).lastDetent with
        | some (t, d) => if d = clockwise ∧ (s.ms - t).toNat < 40 then 4 else 1
        | none => 1))
    (taken : u = { s with encoders := setAt s.encoders e { s.encoders.get e with
      quarters := 0, lastDetent := some (s.ms, clockwise) } }) :
    exec (.detent e clockwise) s = .next (handSteps u (s.encoders.get e).binding n) := by
  have signed : (if clockwise then (stepCount s.ms (s.encoders.get e).lastDetent clockwise : Int)
      else -(stepCount s.ms (s.encoders.get e).lastDetent clockwise : Int)) = n := by
    rw [count, stepCount_eq]
    cases clockwise
    · exact (neg_one_mul _).symm
    · exact (one_mul _).symm
  subst taken
  rw [← signed]
  rfl

/-- A PANEL volume step of a zone as a whole state (R77). -/
theorem panelVolume_state {s : State} {z : ZoneId} {n q : Int} (value : q = max (-160) (min 24 ((s.zones.get z).qv + n))) :
    panelVolume s z n = { s with
      zones := setAt s.zones z { s.zones.get z with qv := q, lastChanged := .panel }
      ports := (s.ports.raise (.zone z)).raiseIf (q != (s.zones.get z).qv + n) .limited } := by
  have applied : clampInt (-160) 24 ((s.zones.get z).qv + n) = q := (clampInt_eq _ _ _ (by decide)).trans value.symm
  unfold panelVolume setVolume
  dsimp only
  rw [applied, updZone_origin_state]
  by_cases same : q = (s.zones.get z).qv + n
  · rw [if_pos same, ← same, bne_self_eq_false, Ports.raiseIf_false]
    exact congrArg (fun ports => ({ s with zones := _, ports := ports } : State)) (Ports.raise_raiseIf ..)
  · rw [if_neg same, bne_iff_ne.mpr same, Ports.raiseIf_true]
    exact congrArg (fun ports => ({ s with zones := _, ports := Ports.raise .limited ports } : State)) (Ports.raise_raiseIf ..)

theorem panelSource_rests {s : State} {n : Int} (h : (s.zones.get 0).power ≠ .on ∨
    stepEntry s.sources (s.zones.get 0).selected n = none ∨
    stepEntry s.sources (s.zones.get 0).selected n = (s.zones.get 0).selected) : panelSource s n = s := by
  unfold panelSource
  dsimp only
  split
  next on =>
    rcases h with off | none | same
    · exact absurd on off
    · rw [none]
    · rw [same]
      split
      · rfl
      next i e => rw [if_pos e]
  next => rfl

theorem panelSource_selects {s : State} {n : Int} {j : SrcId} (on : (s.zones.get 0).power = .on)
    (found : stepEntry s.sources (s.zones.get 0).selected n = some j) (new : (s.zones.get 0).selected ≠ some j) :
    panelSource s n = selectSource s 0 (some j) .panel := by
  unfold panelSource
  dsimp only
  rw [if_pos on, found]
  exact if_neg new

/-! ## The entries that SOURCE steps meet -/

/-- An element that no element of a list comes before is its first. -/
theorem head?_eq_of_first {α : Type} {r : α → α → Prop} {l : List α} {j : α} (ordered : l.Pairwise r) (mem : j ∈ l)
    (first : ∀ k ∈ l, ¬ r k j) : l.head? = some j := by
  cases l with
  | nil => exact absurd mem List.not_mem_nil
  | cons a l =>
    rcases List.mem_cons.mp mem with rfl | later
    · rfl
    · exact absurd ((List.pairwise_cons.mp ordered).1 j later) (first a List.mem_cons_self)

/-- A list in ascending order falls into the elements up to a threshold and those beyond it. -/
theorem filter_split {α : Type} {r : α → α → Prop} {l : List α} (ordered : l.Pairwise r) {p q : α → Bool}
    (down : ∀ a b, r a b → p b = true → p a = true) (rest : ∀ a, q a = !p a) : l = l.filter p ++ l.filter q := by
  obtain rfl : q = fun a => !p a := funext rest
  induction l with
  | nil => rfl
  | cons a l ih =>
    obtain ⟨before, ordered⟩ := List.pairwise_cons.mp ordered
    cases h : p a with
    | true => simpa [h] using ih ordered
    | false =>
      have none : l.filter p = [] := List.filter_eq_nil_iff.mpr fun b mem e => by
        rw [down a b (before b mem) e] at h
        exact Bool.noConfusion h
      have all := ih ordered
      rw [none, List.nil_append] at all
      simpa [h, none] using all

/-- The element after `x` in a rotation of a list is the first of the rotation that ends in `x`. -/
theorem cycle_next {α : Type} {C O A B : List α} {after : α → List α} (whole : C = A ++ B) (rotated : O = B ++ A)
    (cut : ∀ pre x post, C = pre ++ x :: post → after x = post ++ (pre ++ [x])) {m : Nat} (pos : 1 ≤ m) {x : α}
    (at_ : O[(m - 1) % O.length]? = some x) : O[m % O.length]? = (after x).head? := by
  obtain ⟨inside, rfl⟩ := List.getElem?_eq_some_iff.mp at_
  generalize hj : (m - 1) % O.length = j at inside
  have index : m % O.length = (j + 1) % O.length := by
    rw [← hj, Nat.mod_add_mod, Nat.sub_add_cancel pos]
  have parts : O = O.take j ++ O[j] :: O.drop (j + 1) := by rw [List.cons_getElem_drop_succ, List.take_append_drop]
  have ends : after O[j] = O.drop (j + 1) ++ (O.take j ++ [O[j]]) := by
    generalize O[j] = x at parts ⊢
    generalize O.take j = P at parts ⊢
    generalize O.drop (j + 1) = Q at parts ⊢
    rw [rotated] at parts
    rcases List.append_eq_append_iff.mp parts with ⟨D, hP, hA⟩ | ⟨D, hB, hQ⟩
    · rw [cut D x (Q ++ B) (by rw [whole, hA]; simp), hP]
      simp
    · cases D with
      | nil =>
        rw [List.nil_append] at hQ
        rw [cut [] x (Q ++ B) (by rw [whole, ← hQ]; simp), hB]
        simp
      | cons d D =>
        obtain ⟨rfl, rfl⟩ := List.cons.inj hQ
        rw [cut (A ++ P) x D (by rw [whole, hB]; simp)]
        simp
  rw [index, ends]
  by_cases last : j + 1 = O.length
  · rw [last, Nat.mod_self, List.drop_length, List.nil_append, ← List.head?_eq_getElem?]
    conv_lhs => rw [parts, last, List.drop_length]
  · have next : j + 1 < O.length := by omega
    rw [Nat.mod_eq_of_lt next, List.head?_append, List.head?_drop, List.getElem?_eq_getElem next]
    rfl

section
variable (src : Vector SourceEntry 16)

theorem candidates_ordered : (candidates src).Pairwise (· < ·) := by
  have all : srcIds.Pairwise (· < ·) := by decide
  exact all.filter _

theorem mem_candidates {j : SrcId} : j ∈ candidates src ↔ (src.get j).input.isSome = true := by
  have all : ∀ j : SrcId, j ∈ srcIds := by decide
  simp [candidates, all]

theorem candidates_nil : candidates src = [] ↔ ∀ k, (src.get k).input = none := by
  rw [List.eq_nil_iff_forall_not_mem]
  simp only [mem_candidates, Option.not_isSome_iff_eq_none]

theorem splitAbove (i : SrcId) : candidates src =
    (candidates src).filter (fun c => decide (c.1 ≤ i.1)) ++ (candidates src).filter fun c => decide (i.1 < c.1) :=
  filter_split (candidates_ordered src) (fun a b lt le => decide_eq_true ((Fin.lt_def.mp lt).le.trans (of_decide_eq_true le)))
    fun _ => by rw [← decide_not]; exact decide_eq_decide.mpr Nat.not_le.symm

theorem splitBelow (i : SrcId) : candidates src =
    (candidates src).filter (fun c => decide (c.1 < i.1)) ++ (candidates src).filter fun c => decide (i.1 ≤ c.1) :=
  filter_split (candidates_ordered src) (fun a b lt le => decide_eq_true ((Fin.lt_def.mp lt).trans (of_decide_eq_true le)))
    fun _ => by rw [← decide_not]; exact decide_eq_decide.mpr Nat.not_lt.symm

/-- The order of an upward count is the table turned round. -/
theorem upwardFrom_rotated (sel : Option SrcId) :
    ∃ A B, candidates src = A ++ B ∧ upwardFrom (candidates src) sel = B ++ A := by
  cases sel with
  | none => exact ⟨[], candidates src, rfl, (List.append_nil _).symm⟩
  | some i => exact ⟨_, _, splitAbove src i, rfl⟩

theorem downwardFrom_rotated (sel : Option SrcId) :
    ∃ A B, (candidates src).reverse = A ++ B ∧ downwardFrom (candidates src) sel = B ++ A := by
  cases sel with
  | none => exact ⟨[], (candidates src).reverse, rfl, (List.append_nil _).symm⟩
  | some i => exact ⟨_, _, (congrArg List.reverse (splitBelow src i)).trans List.reverse_append, rfl⟩

variable {src}

/-- The candidates before and after one of them. -/
theorem candidates_around {pre post : List SrcId} {x : SrcId} (h : candidates src = pre ++ x :: post) :
    (∀ a ∈ pre, a.1 < x.1) ∧ ∀ b ∈ post, x.1 < b.1 := by
  have ordered := candidates_ordered src
  rw [h] at ordered
  obtain ⟨-, after, before⟩ := List.pairwise_append.mp ordered
  exact ⟨fun a mem => before a mem x List.mem_cons_self, fun b mem => (List.pairwise_cons.mp after).1 b mem⟩

theorem upwardFrom_cut {pre post : List SrcId} {x : SrcId} (h : candidates src = pre ++ x :: post) :
    upwardFrom (candidates src) (some x) = post ++ (pre ++ [x]) := by
  obtain ⟨before, after⟩ := candidates_around h
  have above : (pre ++ x :: post).filter (fun c => decide (x.1 < c.1)) = post := by
    rw [List.filter_append, List.filter_eq_nil_iff.mpr fun a mem => by simpa using (before a mem).le,
      List.filter_cons_of_neg (by simp), List.filter_eq_self.mpr fun b mem => decide_eq_true (after b mem), List.nil_append]
  have upTo : (pre ++ x :: post).filter (fun c => decide (c.1 ≤ x.1)) = pre ++ [x] := by
    rw [List.filter_append, List.filter_eq_self.mpr fun a mem => decide_eq_true (before a mem).le,
      List.filter_cons_of_pos (by simp), List.filter_eq_nil_iff.mpr fun b mem => by simpa using after b mem]
  unfold upwardFrom
  dsimp only
  rw [h, above, upTo]

theorem downwardFrom_cut {pre post : List SrcId} {x : SrcId} (h : (candidates src).reverse = pre ++ x :: post) :
    downwardFrom (candidates src) (some x) = post ++ (pre ++ [x]) := by
  have forward : candidates src = post.reverse ++ x :: pre.reverse := by
    rw [← List.reverse_reverse (candidates src), h]
    simp
  obtain ⟨before, after⟩ := candidates_around forward
  have below : (post.reverse ++ x :: pre.reverse).filter (fun c => decide (c.1 < x.1)) = post.reverse := by
    rw [List.filter_append, List.filter_eq_self.mpr fun a mem => decide_eq_true (before a mem),
      List.filter_cons_of_neg (by simp), List.filter_eq_nil_iff.mpr fun b mem => by simpa using (after b mem).le,
      List.append_nil]
  have from_ : (post.reverse ++ x :: pre.reverse).filter (fun c => decide (x.1 ≤ c.1)) = x :: pre.reverse := by
    rw [List.filter_append, List.filter_eq_nil_iff.mpr fun a mem => by simpa using before a mem,
      List.filter_cons_of_pos (by simp), List.filter_eq_self.mpr fun b mem => decide_eq_true (after b mem).le, List.nil_append]
  unfold downwardFrom
  dsimp only
  rw [forward, below, from_]
  simp

variable (src)

theorem stepEntry_up (sel : Option SrcId) {m : Nat} (pos : 1 ≤ m) : stepEntry src sel m =
    (upwardFrom (candidates src) sel)[(m - 1) % (upwardFrom (candidates src) sel).length]? := by
  unfold stepEntry
  dsimp only
  rw [if_pos (by omega), Int.natAbs_natCast]

theorem stepEntry_down (sel : Option SrcId) (m : Nat) : stepEntry src sel (-m) =
    (downwardFrom (candidates src) sel)[(m - 1) % (downwardFrom (candidates src) sel).length]? := by
  unfold stepEntry
  dsimp only
  rw [if_neg (by omega), Int.natAbs_neg, Int.natAbs_natCast]

theorem stepEntry_one (sel : Option SrcId) : stepEntry src sel 1 = (upwardFrom (candidates src) sel).head? := by
  rw [List.head?_eq_getElem?]
  exact (stepEntry_up src sel le_rfl).trans (by rw [Nat.sub_self, Nat.zero_mod])

theorem stepEntry_negOne (sel : Option SrcId) : stepEntry src sel (-1) = (downwardFrom (candidates src) sel).head? := by
  rw [List.head?_eq_getElem?]
  exact (stepEntry_down src sel 1).trans (by rw [Nat.sub_self, Nat.zero_mod])

/-- A SOURCE step reaches no entry exactly when the table has no candidate (R190). -/
theorem stepEntry_none (sel : Option SrcId) (n : Int) : stepEntry src sel n = none ↔ ∀ k, (src.get k).input = none := by
  have empty {O C A B : List SrcId} (whole : C = A ++ B) (rotated : O = B ++ A) (i : Nat) :
      O[i % O.length]? = none ↔ C = [] := by
    rw [List.getElem?_eq_none_iff]
    constructor
    · intro le
      have none : O.length = 0 := by
        by_contra some_
        exact absurd (Nat.mod_lt i (Nat.pos_of_ne_zero some_)) (Nat.not_lt.mpr le)
      obtain ⟨rfl, rfl⟩ := List.append_eq_nil_iff.mp (rotated.symm.trans (List.eq_nil_of_length_eq_zero none))
      exact whole
    · intro none
      obtain ⟨rfl, rfl⟩ := List.append_eq_nil_iff.mp (whole.symm.trans none)
      rw [rotated]
      exact Nat.zero_le _
  rw [← candidates_nil]
  unfold stepEntry
  dsimp only
  split
  · obtain ⟨A, B, whole, rotated⟩ := upwardFrom_rotated src sel
    exact empty whole rotated _
  · obtain ⟨A, B, whole, rotated⟩ := downwardFrom_rotated src sel
    exact (empty whole rotated _).trans List.reverse_eq_nil_iff

/-- A step of `m + 1` is a step of `m` and one more (R190). -/
theorem stepEntry_succ (sel : Option SrcId) {m : Nat} (pos : 1 ≤ m) :
    stepEntry src sel (m + 1) = stepEntry src (stepEntry src sel m) 1 ∧
      stepEntry src sel (-(m + 1)) = stepEntry src (stepEntry src sel (-m)) (-1) := by
  constructor
  · cases reached : stepEntry src sel m with
    | none =>
      have none := (stepEntry_none src sel m).mp reached
      rw [(stepEntry_none src sel _).mpr none, (stepEntry_none src _ 1).mpr none]
    | some x =>
      obtain ⟨A, B, whole, rotated⟩ := upwardFrom_rotated src sel
      rw [stepEntry_up src sel pos] at reached
      rw [stepEntry_one]
      exact (stepEntry_up src sel (Nat.le_add_left 1 m)).trans
        (cycle_next whole rotated (fun _ _ _ h => upwardFrom_cut h) pos reached)
  · cases reached : stepEntry src sel (-m) with
    | none =>
      have none := (stepEntry_none src sel _).mp reached
      rw [(stepEntry_none src sel _).mpr none, (stepEntry_none src _ (-1)).mpr none]
    | some x =>
      obtain ⟨A, B, whole, rotated⟩ := downwardFrom_rotated src sel
      rw [stepEntry_down src sel m] at reached
      rw [stepEntry_negOne]
      exact (stepEntry_down src sel (m + 1)).trans
        (cycle_next whole rotated (fun _ _ _ h => downwardFrom_cut h) pos reached)

/-- The first candidate, and the last, by what the table holds before and after it. -/
theorem candidates_first {j : SrcId} {p : SrcId → Bool} (named : (src.get j).input.isSome = true) (in_ : p j = true)
    (none : ∀ k, p k = true → k < j → (src.get k).input = none) : ((candidates src).filter p).head? = some j := by
  refine head?_eq_of_first ((candidates_ordered src).filter p) (List.mem_filter.mpr ⟨(mem_candidates src).mpr named, in_⟩)
    fun k mem lt => ?_
  obtain ⟨candidate, met⟩ := List.mem_filter.mp mem
  exact absurd ((mem_candidates src).mp candidate) (by rw [none k met lt]; decide)

theorem candidates_last {j : SrcId} {p : SrcId → Bool} (named : (src.get j).input.isSome = true) (in_ : p j = true)
    (none : ∀ k, p k = true → j < k → (src.get k).input = none) : ((candidates src).filter p).reverse.head? = some j := by
  refine head?_eq_of_first (r := fun a b => b < a) (List.pairwise_reverse.mpr ((candidates_ordered src).filter p))
    (List.mem_reverse.mpr (List.mem_filter.mpr ⟨(mem_candidates src).mpr named, in_⟩)) fun k mem lt => ?_
  obtain ⟨candidate, met⟩ := List.mem_filter.mp (List.mem_reverse.mp mem)
  exact absurd ((mem_candidates src).mp candidate) (by rw [none k met lt]; decide)

theorem candidates_filter_nil {p : SrcId → Bool} (none : ∀ k, p k = true → (src.get k).input = none) :
    (candidates src).filter p = [] := List.filter_eq_nil_iff.mpr fun k mem met => by
  have candidate := (mem_candidates src).mp mem
  rw [none k met] at candidate
  exact Bool.noConfusion candidate

/-- A step of one up reaches the next candidate, around the table (R190). -/
theorem stepEntry_reaches_up {j : SrcId} (named : (src.get j).input.isSome = true) (sel : Option SrcId) :
    (∀ i, sel = some i → i < j → (∀ k, i < k → k < j → (src.get k).input = none) → stepEntry src sel 1 = some j) ∧
      (∀ i, sel = some i → j ≤ i → (∀ k, i < k → (src.get k).input = none) → (∀ k, k < j → (src.get k).input = none) →
        stepEntry src sel 1 = some j) ∧
      (sel = none → (∀ k, k < j → (src.get k).input = none) → stepEntry src sel 1 = some j) := by
  rw [stepEntry_one]
  refine ⟨fun i is lt between => ?_, fun i is le above below => ?_, fun is below => ?_⟩ <;> subst is
  · have next := candidates_first src (p := fun c => decide (i.1 < c.1)) named (decide_eq_true lt)
      fun k met before => between k (of_decide_eq_true met) before
    exact (List.head?_append ..).trans (by rw [next]; rfl)
  · have first := candidates_first src (p := fun c => decide (c.1 ≤ i.1)) named (decide_eq_true le)
      fun k _ before => below k before
    have none := candidates_filter_nil src (p := fun c => decide (i.1 < c.1)) fun k met => above k (of_decide_eq_true met)
    exact (List.head?_append ..).trans (by rw [none, first]; rfl)
  · have first := candidates_first src (p := fun _ => true) named rfl fun k _ before => below k before
    rwa [List.filter_true] at first

/-- A step of one down likewise (R190). -/
theorem stepEntry_reaches_down {j : SrcId} (named : (src.get j).input.isSome = true) (sel : Option SrcId) :
    (∀ i, sel = some i → j < i → (∀ k, j < k → k < i → (src.get k).input = none) → stepEntry src sel (-1) = some j) ∧
      (∀ i, sel = some i → i ≤ j → (∀ k, k < i → (src.get k).input = none) → (∀ k, j < k → (src.get k).input = none) →
        stepEntry src sel (-1) = some j) ∧
      (sel = none → (∀ k, j < k → (src.get k).input = none) → stepEntry src sel (-1) = some j) := by
  rw [stepEntry_negOne]
  refine ⟨fun i is lt between => ?_, fun i is le below above => ?_, fun is above => ?_⟩ <;> subst is
  · have next := candidates_last src (p := fun c => decide (c.1 < i.1)) named (decide_eq_true lt)
      fun k met beyond => between k beyond (of_decide_eq_true met)
    exact (List.head?_append ..).trans (by rw [next]; rfl)
  · have last := candidates_last src (p := fun c => decide (i.1 ≤ c.1)) named (decide_eq_true le)
      fun k _ beyond => above k beyond
    have none := candidates_filter_nil src (p := fun c => decide (c.1 < i.1)) fun k met => below k (of_decide_eq_true met)
    exact (List.head?_append ..).trans (by rw [none, last]; rfl)
  · have last := candidates_last src (p := fun _ => true) named rfl fun k _ beyond => above k beyond
    rwa [List.filter_true] at last

end

/-! ## The obligation -/

theorem bindingOf_eq {bb zb : Byte} {b : Binding} (h : (∃ z : ZoneId, bb = 0 ∧ zb.toNat = z.1 ∧ b = .volume z) ∨
    (bb = 1 ∧ b = .tune) ∨ (bb = 2 ∧ b = .source) ∨ (bb = 3 ∧ b = .none)) : bindingOf bb zb = some b := by
  rcases h with ⟨z, rfl, index, rfl⟩ | ⟨rfl, rfl⟩ | ⟨rfl, rfl⟩ | ⟨rfl, rfl⟩
  · exact congrArg (Option.map Binding.volume) (indexOf_of_toNat index)
  · rfl
  · rfl
  · rfl

theorem reqSetBinding_eq {eb bb zb : Byte} {e : EncId} {b : Binding} (s : State) (index : eb.toNat = e.1)
    (named : bindingOf bb zb = some b) : reqSetBinding [eb, bb, zb] s =
      { state := s.putEncoder e { s.encoders.get e with binding := b, quarters := 0, lastDetent := none }, result := .ok
        data := bindingRecord b } := by
  simp only [reqSetBinding, indexOf_of_toNat index, named]
  rfl

/-- A request whose owner writes the encoders alone (R194). -/
theorem serve_encoders {s : State} {p : Port} {tag : Byte} {payload : List Byte} {owner : State → Reply} {r : Result}
    {data : List Byte} {es : Vector Encoder 2} (ready : Ready s p) (le : payload.length ≤ 250)
    (owns : owner (s.taking p payload.length) =
      { state := { s.taking p payload.length with encoders := es }, result := r, data := data }) :
    serve s p tag payload owner = State.answered { s with encoders := es } p (s.status p) tag payload.length r data := by
  have ports := Ports.raiseIf_answered s.ports false (.zone 0) p
    ((s.ports.get p).complete false (List.replicate (2 + payload.length) 0)) (some { tag := tag, result := r, data := data })
  rw [serve_eq ready le owns]
  exact congrArg (fun ports => ({ s with encoders := es, ports := ports } : State)) ports

/-- A panel tune step (R177). -/
theorem panelTune_tunes {s : State} {n f : Int} (running : s.tuner.state ≠ .off)
    (target : f = s.tuner.target + n * (s.tuner.record s.tuner.band).step) :
    (panelTune s n).tuner = s.tuner.tuneTo s.tuner.band (appliedFrequency s.tuner.band (s.tuner.record s.tuner.band).step f)
        .step .panel ∧
      (panelTune s n).encoders = s.encoders ∧
      (f ≠ appliedFrequency s.tuner.band (s.tuner.record s.tuner.band).step f →
        ∀ p, ((panelTune s n).ports.get p).flags.get Flag.limited.index = true) := by
  subst target
  have off : (s.tuner.tuneTo s.tuner.band (appliedFrequency s.tuner.band (s.tuner.record s.tuner.band).step
      (s.tuner.target + n * (s.tuner.record s.tuner.band).step)) .step .panel).state ≠ .locked := by
    rw [tuneTo_state]
    decide
  have tuner := setTuner_off_field (s := s) off State.tuner fun _ _ _ => rfl
  have encoders := setTuner_off_field (s := s) off State.encoders fun _ _ _ => rfl
  unfold panelTune
  dsimp only
  rw [if_neg running]
  generalize setTuner s _ = t at tuner encoders ⊢
  split
  next same => exact ⟨tuner, encoders, fun differs => absurd same.symm differs⟩
  next =>
    refine ⟨tuner, encoders, fun _ p => ?_⟩
    rw [State.raise_ports, Ports.raise_flag, decide_eq_true rfl, Bool.or_true]

/-- The status byte of a port with an empty slot has RESPONSE_PENDING clear (R193). -/
theorem statusByte_pending {r : PortState} (empty : r.slot = none) : r.statusByte.getLsbD 7 = false := by
  unfold PortState.statusByte
  rw [empty]
  cases r.framing <;> cases r.attention <;> rfl

theorem named_ofNat (j : SrcId) : orNone 16 (BitVec.ofNat 8 j.1) = some (some j) :=
  orNone_of_toNat (by rw [BitVec.toNat_ofNat]; exact Nat.mod_eq_of_lt (by omega))

/-- The state with the first port free for a request. -/
def State.freed (u : State) : State :=
  { u with ports := { u.ports with cpa := { u.ports.cpa with line := .idle, slot := none } } }

/-- The ports while a request of `n` payload bytes is taken on the freed one. -/
def State.freedPorts (u : State) (n : Nat) : Ports :=
  { cpa := u.freed.ports.cpa.complete false (List.replicate (2 + n) 0), cpb := u.ports.cpb }

theorem freed_taking (u : State) (n : Nat) : u.freed.taking .cpa n = u.onPorts (u.freedPorts n) := rfl

/-- A selection keeps of the ports all but the flags. -/
theorem selecting_ports (u : State) (z : ZoneId) (src : Option SrcId) : (u.selecting z src).ports =
    { cpa := { u.ports.cpa with flags := (u.selecting z src).ports.cpa.flags }
      cpb := { u.ports.cpb with flags := (u.selecting z src).ports.cpb.flags } } :=
  congrArg State.ports (selecting_onPorts u.ports u z src)

/-- A SELECT_SOURCE of MAIN on a port that is free, and the same selection by the panel: they differ in the origin and in what
the port holds of its transaction (R190). -/
theorem panel_selects {u : State} {j : SrcId} (tag : Byte) (new : (u.zones.get 0).selected ≠ some j) : ∃ v,
    exec (.selectSource .cpa tag [0, BitVec.ofNat 8 j.1]) u.freed = .next v ∧
    selectSource u 0 (some j) .panel = { v with
      zones := setAt v.zones 0 { v.zones.get 0 with lastChanged := .panel }
      ports := { cpa := { u.ports.cpa with flags := v.ports.cpa.flags }
                 cpb := { u.ports.cpb with flags := v.ports.cpb.flags } } } := by
  have ready : Ready u.freed .cpa := ⟨nofun, statusByte_pending rfl⟩
  have ports := selecting_ports u 0 (some j)
  have left : selectSource (u.freed.taking .cpa 2) 0 (some j) .portA = { (u.selecting 0 (some j)).onPorts (u.freedPorts 2) with
      zones := setAt (u.selecting 0 (some j)).zones 0 { (u.selecting 0 (some j)).zones.get 0 with lastChanged := .portA } } := by
    rw [freed_taking, selectSource_origin (s := u.onPorts (u.freedPorts 2)) .portA new, selecting_onPorts]
    rfl
  have owns := reqSelectSource_eq (z := 0) .portA (u.freed.taking .cpa 2) (zb := 0) rfl (named_ofNat j)
  rw [left] at owns
  refine ⟨_, congrArg Host.Outcome.next (serve_eq ready two_le owns), ?_⟩
  rw [selectSource_origin .panel new]
  generalize u.selecting 0 (some j) = y at ports ⊢
  have zones (r : Zone) : setAt (setAt y.zones 0 r) 0 { (setAt y.zones 0 r).get 0 with lastChanged := .panel } =
      setAt y.zones 0 { r with lastChanged := .panel } := by rw [setAt_get_self, setAt_setAt]
  exact congrArg₂ (fun zones ports => ({ y with zones := zones, ports := ports } : State))
    (zones { y.zones.get 0 with lastChanged := .portA }).symm ports

/-- The state with a detent recorded (R187). -/
def State.detentTaken (s : State) (e : EncId) (clockwise : Bool) : State :=
  { s with encoders := setAt s.encoders e { s.encoders.get e with quarters := 0, lastDetent := some (s.ms, clockwise) } }

/-- Settles O50: the owner of each binding, a selection on other ports, and the table turned round for the entries. -/
theorem bindingAndDetent : Obligations.BindingAndDetent := by
  refine ⟨fun s p tag eb bb zb e b ready index named => congrArg Host.Outcome.next ?_,
    fun s u e clockwise n count taken => ?_, fun src sel => ⟨stepEntry_none src sel, fun m pos => stepEntry_succ src sel pos,
      fun j named => ?_⟩⟩
  · exact serve_encoders ready three_le (reqSetBinding_eq _ index (bindingOf_eq named))
  · rw [detent_hands count taken]
    obtain rfl : u = s.detentTaken e clockwise := taken
    refine ⟨fun z q bound on value => ?_, fun z bound off => ?_, fun bound off => ?_, fun f bound running target => ?_,
      fun j bound on path qr found new idle => ?_, fun j tag bound on found new => ?_, fun bound rests => ?_,
      fun bound off => ?_, fun bound => ?_⟩ <;> rw [bound]
    · exact congrArg Host.Outcome.next ((if_pos on).trans (panelVolume_state value))
    · exact congrArg Host.Outcome.next (if_neg off)
    · exact congrArg Host.Outcome.next (if_pos off)
    · obtain ⟨tuner, encoders, limited⟩ := panelTune_tunes (s := s.detentTaken e clockwise) running target
      refine ⟨_, rfl, ?_⟩
      unfold handSteps
      dsimp only
      rw [tuner]
      exact ⟨rfl, rfl, rfl, rfl, rfl, encoders, limited⟩
    · refine congrArg Host.Outcome.next ((panelSource_selects (s := s.detentTaken e clockwise) on found new).trans ?_)
      exact selectSource_fades (s := s.detentTaken e clockwise) (some j) .panel idle (.inl on) path qr
    · obtain ⟨v, step, same⟩ := panel_selects (u := s.detentTaken e clockwise) tag new
      exact ⟨v, step, congrArg Host.Outcome.next
        ((panelSource_selects (s := s.detentTaken e clockwise) on found new).trans same)⟩
    · exact congrArg Host.Outcome.next (panelSource_rests (s := s.detentTaken e clockwise) (.inr rests))
    · exact congrArg Host.Outcome.next (panelSource_rests (s := s.detentTaken e clockwise) (.inl off))
    · rfl
  · obtain ⟨next, wraps, fromNone⟩ := stepEntry_reaches_up src named sel
    obtain ⟨nextDown, wrapsDown, fromNoneDown⟩ := stepEntry_reaches_down src named sel
    exact ⟨next, wraps, nextDown, wrapsDown, fromNone, fromNoneDown⟩

end Sys2Proof.Machine
end

section
/-! The buffer's write and the output frame of a zone (R67, R70, R75, R81, R89, R96 to R105, R111, R125, R151, R152). -/

namespace Sys2Proof.Machine

/-! ## The write that brings the buffer to 64 frames -/

/-- A zone's record after a write that brings its buffer to 64 frames (R67, R81). -/
def Zone.filled (f : BufFrame) (r : Zone) : Zone :=
  { r with buffer := r.buffer ++ [f], path := if r.path = .filling then .playing else r.path, refilling := false }

theorem write_filled {r : Zone} (f : BufFrame) (bound : r.power.isBound = true) (linked : r.link.isSome = true)
    (path : r.path ≠ .idle) (length : r.buffer.length = 63) : r.write f = r.filled f := by
  unfold Zone.write
  rw [if_pos ⟨bound, linked, path⟩]
  simp [length, Zone.filled]

theorem bufferFilled_writes {s : State} {z : ZoneId} (x : Vector Sample 8) (bound : (s.zones.get z).power.isBound = true)
    (linked : (s.zones.get z).link.isSome = true) (path : (s.zones.get z).path ≠ .idle)
    (due : (s.zones.get z).path = .filling ∨ (s.zones.get z).refilling = true) (length : (s.zones.get z).buffer.length = 63) :
    exec (.bufferFilled z x) s =
      .next (s.updZone z fun _ => (s.zones.get z).filled { samples := x, vals := none }) := by
  refine congrArg Host.Outcome.next ((if_pos ⟨length, due⟩).trans ?_)
  exact congrArg (s.putZone z) (write_filled _ bound linked path length)

/-! ## The zone's record over an output frame -/

/-- What an output frame reads and brings into force (R70, R81, R96), with the noise register shifted (R151). -/
def Zone.framed (spk : Vector Speaker 12) (z : ZoneId) (r : Zone) : Zone := (r.readFrame spk z).1.takeShadow.shiftTone

/-- The record with its ramp interval and its ramp frame count set (R75). -/
def Zone.timed (r : Zone) (interval count : Nat) : Zone := { r with rampInterval := interval, rampCount := count }

theorem takeShadow_eq (r : Zone) : r.takeShadow = { r with active := r.shadow.or r.active, shadow := none } := by
  unfold Zone.takeShadow
  cases e : r.shadow with
  | none => exact congrArg (fun x => ({ r with shadow := x } : Zone)) e
  | some set => rfl

theorem shiftTone_eq (r : Zone) : r.shiftTone =
    { r with tone := if r.tone.running then { r.tone with noise := noiseShift r.tone.noise } else r.tone } := by
  unfold Zone.shiftTone
  split <;> rfl

theorem countTone_eq (r : Zone) : r.countTone =
    { r with tone := if r.tone.running then { r.tone with pulse := pulseNext r.tone.pulse r.rate } else r.tone } := by
  unfold Zone.countTone
  split <;> rfl

theorem takeVals_eq (spk : Vector Speaker 12) (z : ZoneId) (r : Zone) (v : DescValues) : r.takeVals spk z v =
    { r with vals := some v
             shadow := if buildNeeded r.vals v then some (buildSet spk z { r with vals := some v }.effMode v) else r.shadow } := by
  unfold Zone.takeVals
  dsimp only
  split <;> rfl

/-- A frame that is read leaves the buffer, and the values that it carries come into force (R70). -/
theorem readFrame_reads {r : Zone} {f : BufFrame} {rest : List BufFrame} (spk : Vector Speaker 12) (z : ZoneId)
    (path : r.path = .playing ∨ r.path = .fading) (fresh : r.refilling = false) (buffer : r.buffer = f :: rest) :
    r.readFrame spk z =
      (match f.vals with
        | some v => { r with buffer := rest }.takeVals spk z v
        | none => { r with buffer := rest }, f.samples) := by
  unfold Zone.readFrame
  rw [if_pos ⟨path, fresh⟩, buffer]
  dsimp only
  cases f.vals <;> rfl

/-- An empty buffer is an underflow (R81). -/
theorem readFrame_underflow {r : Zone} (spk : Vector Speaker 12) (z : ZoneId) (path : r.path = .playing ∨ r.path = .fading)
    (fresh : r.refilling = false) (buffer : r.buffer = []) :
    r.readFrame spk z = ({ r with refilling := true, repeats := satAdd r.repeats 1 }, zeroFrame) := by
  unfold Zone.readFrame
  rw [if_pos ⟨path, fresh⟩, buffer]

/-- A zone that does not play, or refills, reads nothing (R67, R81). -/
theorem readFrame_idles {r : Zone} (spk : Vector Speaker 12) (z : ZoneId)
    (rests : r.path = .filling ∨ r.path = .idle ∨ r.refilling = true) : r.readFrame spk z = (r, zeroFrame) := by
  refine if_neg fun ⟨path, fresh⟩ => ?_
  rcases rests with filling | idle | refilling
  · simp [filling] at path
  · simp [idle] at path
  · rw [refilling] at fresh
    cases fresh

/-- What the output frame of a zone reads does not depend on its ramp interval and ramp frame count. -/
theorem readFrame_timed (spk : Vector Speaker 12) (z : ZoneId) (r : Zone) (i n : Nat) :
    (r.timed i n).readFrame spk z = ((r.readFrame spk z).1.timed i n, (r.readFrame spk z).2) := by
  have buffer : (r.timed i n).buffer = r.buffer := rfl
  by_cases reads : (r.path = .playing ∨ r.path = .fading) ∧ r.refilling = false
  · cases e : r.buffer with
    | nil => rw [readFrame_underflow (r := r) spk z reads.1 reads.2 e,
        readFrame_underflow (r := r.timed i n) spk z reads.1 reads.2 (buffer.trans e)]; rfl
    | cons f rest =>
      rw [readFrame_reads (r := r) spk z reads.1 reads.2 e,
        readFrame_reads (r := r.timed i n) spk z reads.1 reads.2 (buffer.trans e)]
      cases f.vals with
      | none => rfl
      | some v => dsimp only; rw [takeVals_eq, takeVals_eq]; rfl
  · have rests : r.readFrame spk z = (r, zeroFrame) := if_neg reads
    rw [rests]
    exact if_neg reads

theorem framed_timed (spk : Vector Speaker 12) (z : ZoneId) (r : Zone) (i n : Nat) :
    (r.timed i n).framed spk z = (r.framed spk z).timed i n := by
  unfold Zone.framed
  rw [readFrame_timed, shiftTone_eq, shiftTone_eq, takeShadow_eq, takeShadow_eq]
  rfl

/-- What an output frame reads and brings into force leaves power state, ramp interval and ramp frame count (R59, R75). -/
theorem framed_kept (spk : Vector Speaker 12) (z : ZoneId) (r : Zone) : (r.framed spk z).power = r.power ∧
    (r.framed spk z).rampInterval = r.rampInterval ∧ (r.framed spk z).rampCount = r.rampCount ∧ (r.framed spk z).qr = r.qr := by
  unfold Zone.framed
  rw [shiftTone_eq, takeShadow_eq]
  unfold Zone.readFrame
  split
  · split
    · exact ⟨rfl, rfl, rfl, rfl⟩
    · dsimp only
      split
      · rw [takeVals_eq]
        exact ⟨rfl, rfl, rfl, rfl⟩
      · exact ⟨rfl, rfl, rfl, rfl⟩
  · exact ⟨rfl, rfl, rfl, rfl⟩

/-! ## The rows of an output frame -/

/-- What a row of an output frame does to its channel (R105, R111, R125). -/
def fedRow (s : State) (x : Zone) (source : Vector Sample 8) (row : CoefRow) : Channel → Channel :=
  feedChannel s.ms (s.pairs.get (pairOf row.channel)).dcTime x.resolution x.minPulse (rowOutput s.speakers x source row).1

/-- The channels after the rows of an output frame: each row feeds its own. -/
def fedChannels (s : State) (x : Zone) (source : Vector Sample 8) (rows : List CoefRow) (cs : Vector Channel 12) :
    Vector Channel 12 :=
  rows.foldl (fun cs row => setAt cs row.channel (fedRow s x source row (cs.get row.channel))) cs

/-- The clip count after the rows of an output frame (R103). -/
def clipped (spk : Vector Speaker 12) (x : Zone) (source : Vector Sample 8) (rows : List CoefRow) (n : Nat) : Nat :=
  rows.foldl (fun n row => satAdd n (rowOutput spk x source row).2) n

theorem reportedChange_clips (r : Zone) (n : Nat) : r.reportedChange { r with clips := n } = false :=
  Zone.reportedChange_self r

theorem forEach_frameRow (s : State) (z : ZoneId) (source : Vector Sample 8) (b : Bool) (rows : List CoefRow) :
    ∀ (x : Zone) (cs : Vector Channel 12),
      (({ s with channels := cs } : State).wrote z x b).forEach rows (frameRow z source) =
        ({ s with channels := fedChannels s x source rows cs } : State).wrote z
          { x with clips := clipped s.speakers x source rows x.clips } b := by
  induction rows with
  | nil => exact fun x cs => rfl
  | cons row rows ih =>
    intro x cs
    have step : frameRow z source (({ s with channels := cs } : State).wrote z x b) row =
        ({ s with channels := setAt cs row.channel (fedRow s x source row (cs.get row.channel)) } : State).wrote z
          { x with clips := satAdd x.clips (rowOutput s.speakers x source row).2 } b := by
      unfold frameRow
      dsimp only
      rw [wrote_get, wrote_updZone, reportedChange_clips, Bool.or_false]
      rfl
    rw [State.forEach_cons, step, ih]
    rfl

theorem fedChannels_other {s : State} {x : Zone} {source : Vector Sample 8} {rows : List CoefRow} {c : Chan}
    (absent : c ∉ rows.map (·.channel)) (cs : Vector Channel 12) : (fedChannels s x source rows cs).get c = cs.get c := by
  induction rows generalizing cs with
  | nil => rfl
  | cons row rows ih =>
    simp only [List.map_cons, List.mem_cons, not_or] at absent
    exact (ih absent.2 _).trans (setAt_get_of_ne _ _ (Ne.symm absent.1))

/-- A channel with a row is fed by that row, where no other row has the channel (R88, R105). -/
theorem fedChannels_get {s : State} {x : Zone} {source : Vector Sample 8} {rows : List CoefRow}
    (once : (rows.map (·.channel)).Nodup) {row : CoefRow} (mem : row ∈ rows) (cs : Vector Channel 12) :
    (fedChannels s x source rows cs).get row.channel = fedRow s x source row (cs.get row.channel) := by
  induction rows generalizing cs with
  | nil => exact absurd mem List.not_mem_nil
  | cons first rows ih =>
    obtain ⟨fresh, once⟩ := List.nodup_cons.mp once
    rcases List.mem_cons.mp mem with rfl | mem
    · exact (fedChannels_other fresh _).trans (setAt_get_self _ _ _)
    · have other : first.channel ≠ row.channel := fun e => fresh (List.mem_map.mpr ⟨row, mem, e.symm⟩)
      exact (ih once mem _).trans (congrArg _ (setAt_get_of_ne _ _ other))

theorem clipped_eq (spk : Vector Speaker 12) (x : Zone) (source : Vector Sample 8) (rows : List CoefRow) {n : Nat}
    (room : n ≤ 65535) : clipped spk x source rows n =
      min 65535 (n + (rows.map fun row => (rowOutput spk x source row).2).sum) := by
  induction rows generalizing n with
  | nil => exact (Nat.min_eq_right room).symm
  | cons row rows ih =>
    refine (ih (satAdd_le _ _)).trans ?_
    rw [List.map_cons, List.sum_cons]
    unfold satAdd
    omega

/-! ## The output frame as a whole -/

/-- The channels after an output frame of a bound zone. -/
def State.frameChannels (s : State) (z : ZoneId) : Vector Channel 12 :=
  fedChannels s ((s.zones.get z).framed s.speakers z) ((s.zones.get z).readFrame s.speakers z).2
    (activeRows s.speakers z ((s.zones.get z).framed s.speakers z).active) s.channels

/-- A zone's record after the samples of an output frame (R103, R152). -/
def Zone.output (spk : Vector Speaker 12) (z : ZoneId) (r : Zone) : Zone :=
  let x := r.framed spk z
  { x with clips := clipped spk x (r.readFrame spk z).2 (activeRows spk z x.active) x.clips
           tone := if x.tone.running then { x.tone with pulse := pulseNext x.tone.pulse x.rate } else x.tone }

theorem reportedChange_countTone (r : Zone) : r.reportedChange r.countTone = false := by
  rw [countTone_eq]
  have mode (t : Tone) : Zone.effMode { r with tone := t } = r.effMode := rfl
  have speaker : (if r.tone.running then { r.tone with pulse := pulseNext r.tone.pulse r.rate } else r.tone).speaker =
      r.tone.speaker := by split <;> rfl
  simp [Zone.reportedChange, mode, speaker]

theorem formFrame_eq (s : State) (z : ZoneId) : formFrame s z =
    ({ s with channels := s.frameChannels z } : State).wrote z ((s.zones.get z).output s.speakers z)
      ((s.zones.get z).reportedChange ((s.zones.get z).framed s.speakers z)) := by
  have read : (s.updZone z fun _ => (s.zones.get z).framed s.speakers z) =
      ({ s with channels := s.channels } : State).wrote z ((s.zones.get z).framed s.speakers z)
        ((s.zones.get z).reportedChange ((s.zones.get z).framed s.speakers z)) := updZone_wrote s z _
  unfold formFrame
  dsimp only
  rw [show ((s.zones.get z).readFrame s.speakers z).1.takeShadow.shiftTone = (s.zones.get z).framed s.speakers z from rfl,
    read, wrote_get, forEach_frameRow, wrote_updZone, reportedChange_countTone, Bool.or_false, countTone_eq]
  rfl

theorem frameRead_output {spk : Vector Speaker 12} {z : ZoneId} {r x : Zone} {source : Vector Sample 8}
    (framed : r.framed spk z = x) (read : (r.readFrame spk z).2 = source) : r.output spk z =
      { x with clips := clipped spk x source (activeRows spk z x.active) x.clips
               tone := if x.tone.running then { x.tone with pulse := pulseNext x.tone.pulse x.rate } else x.tone } := by
  subst framed read
  rfl

theorem reportedChange_rampCount (r : Zone) (n : Nat) : r.reportedChange { r with rampCount := n } = false :=
  Zone.reportedChange_self r

/-- Below the ramp interval the ramp frame count counts the frame (R75). -/
theorem countRampFrame_counts {s : State} {z : ZoneId} (moves : (s.zones.get z).power ≠ .standby)
    (short : (s.zones.get z).rampCount + 1 < (s.zones.get z).rampInterval) : countRampFrame s z =
      { s with zones := setAt s.zones z { s.zones.get z with rampCount := (s.zones.get z).rampCount + 1 } } := by
  unfold countRampFrame
  dsimp only
  rw [if_neg moves, if_neg (Nat.not_le.mpr short),
    State.updZone_unreported (f := fun r => { r with rampCount := r.rampCount + 1 }) (reportedChange_rampCount _ _)]

/-- At the ramp interval the ramp takes its step (R75, log 24). -/
theorem countRampFrame_steps {s : State} {z : ZoneId} (moves : (s.zones.get z).power ≠ .standby)
    (due : (s.zones.get z).rampInterval ≤ (s.zones.get z).rampCount + 1) : countRampFrame s z = rampStep s z := by
  unfold countRampFrame
  dsimp only
  rw [if_neg moves, if_pos due]

theorem outputFrame_bound {s : State} {z : ZoneId} (bound : (s.zones.get z).power.isBound = true) :
    exec (.zoneOutputFrame z) s = .next (countRampFrame (formFrame s z) z) :=
  congrArg (fun t => Host.Outcome.next (countRampFrame t z)) (if_pos bound)

theorem outputFrame_unbound {s : State} {z : ZoneId} (rest : ¬ (s.zones.get z).power.isBound = true) :
    exec (.zoneOutputFrame z) s = .next (countRampFrame s z) :=
  congrArg (fun t => Host.Outcome.next (countRampFrame t z)) (if_neg rest)

theorem moves_of_bound {p : Power} (bound : p.isBound = true) : p ≠ .standby := fun e => by rw [e] at bound; cases bound

/-- What a write of one zone's record over written records leaves. -/
theorem wrote_setAt (s : State) (z : ZoneId) (r x : Zone) (b : Bool) :
    { s.wrote z r b with zones := setAt (s.wrote z r b).zones z x } = s.wrote z x b :=
  congrArg (fun zones => { s.wrote z r b with zones := zones }) (setAt_setAt ..)

/-- The state that an output frame of a bound zone leaves, with the zone's record `x` after it. -/
def State.afterFrame (s : State) (z : ZoneId) (x : Zone) : State :=
  ({ s with channels := s.frameChannels z } : State).wrote z x
    ((s.zones.get z).reportedChange ((s.zones.get z).framed s.speakers z))

/-- An output frame below the ramp interval (R75). -/
theorem outputFrame_counts {s : State} {z : ZoneId} (bound : (s.zones.get z).power.isBound = true)
    (short : (s.zones.get z).rampCount + 1 < (s.zones.get z).rampInterval) : exec (.zoneOutputFrame z) s =
      .next (s.afterFrame z { (s.zones.get z).output s.speakers z with rampCount := (s.zones.get z).rampCount + 1 }) := by
  obtain ⟨power, interval, count, -⟩ := framed_kept s.speakers z (s.zones.get z)
  have formed : formFrame s z = s.afterFrame z ((s.zones.get z).output s.speakers z) := formFrame_eq s z
  have record : (s.afterFrame z ((s.zones.get z).output s.speakers z)).zones.get z = (s.zones.get z).output s.speakers z :=
    wrote_get ..
  rw [outputFrame_bound bound, formed, countRampFrame_counts, record]
  · refine congrArg Host.Outcome.next ((wrote_setAt ..).trans ?_)
    exact congrArg (fun n => s.afterFrame z { (s.zones.get z).output s.speakers z with rampCount := n + 1 }) count
  · rw [record]
    exact fun e => moves_of_bound bound (power.symm.trans e)
  · rw [record]
    exact (congrArg (· + 1) count).trans_lt (short.trans_eq interval.symm)

/-- An output frame that reaches the ramp interval and ends nothing by its ramp step (R75, log 24). -/
theorem outputFrame_ramps {s : State} {z : ZoneId} {q : Option Int} (bound : (s.zones.get z).power.isBound = true)
    (due : (s.zones.get z).rampInterval ≤ (s.zones.get z).rampCount + 1)
    (next : rampNext ((s.zones.get z).output s.speakers z).qr ((s.zones.get z).output s.speakers z).target = q)
    (sounds : q ≠ none) : exec (.zoneOutputFrame z) s =
      .next (s.afterFrame z { (s.zones.get z).output s.speakers z with rampCount := 0, qr := q }) := by
  obtain ⟨power, interval, count, -⟩ := framed_kept s.speakers z (s.zones.get z)
  have formed : formFrame s z = s.afterFrame z ((s.zones.get z).output s.speakers z) := formFrame_eq s z
  have record : (s.afterFrame z ((s.zones.get z).output s.speakers z)).zones.get z = (s.zones.get z).output s.speakers z :=
    wrote_get ..
  have moves : ((s.afterFrame z ((s.zones.get z).output s.speakers z)).zones.get z).power ≠ .standby := by
    rw [record]
    exact fun e => moves_of_bound bound (power.symm.trans e)
  rw [outputFrame_bound bound, formed, countRampFrame_steps moves,
    rampStep_moves moves (by rw [record]; exact next) fun e => absurd e sounds, record]
  · exact congrArg Host.Outcome.next (wrote_setAt ..)
  · rw [record]
    exact (interval.trans_le due).trans_eq (congrArg (· + 1) count.symm)

/-- What an output frame leaves of the channels, the other zones, the pairs and the rest (R105). -/
theorem afterFrame_rest {s : State} {z : ZoneId} {x : Zone} {source : Vector Sample 8} {rows : List CoefRow} (r : Zone)
    (framed : (s.zones.get z).framed s.speakers z = x) (read : ((s.zones.get z).readFrame s.speakers z).2 = source)
    (active : rows = activeRows s.speakers z x.active) (once : (rows.map (·.channel)).Nodup) :
    (∀ row ∈ rows, (s.afterFrame z r).channels.get row.channel = fedRow s x source row (s.channels.get row.channel)) ∧
    (∀ c, c ∉ rows.map (·.channel) → (s.afterFrame z r).channels.get c = s.channels.get c) ∧
    (∀ y, y ≠ z → (s.afterFrame z r).zones.get y = s.zones.get y) ∧ (s.afterFrame z r).pairs = s.pairs ∧
    zoneFrameKept s (s.afterFrame z r) := by
  have channels : (s.afterFrame z r).channels = fedChannels s x source rows s.channels := by
    subst framed read active
    rfl
  rw [channels]
  exact ⟨fun row mem => fedChannels_get once mem _, fun c absent => fedChannels_other absent _,
    fun y other => setAt_get_of_ne _ _ (Ne.symm other), rfl, rfl, rfl, rfl, rfl, rfl, rfl, rfl, rfl⟩

/-! ## What a frame forms -/

theorem mixValue_zeroFrame (coefs : Vector Int 8) : mixValue coefs zeroFrame = (0, false) := by
  have zero : ∀ p, zeroFrame.get p = 0 := by decide
  have silent : dotProduct coefs zeroFrame = 0 := by
    unfold dotProduct
    refine List.sum_eq_zero fun x mem => ?_
    obtain ⟨p, -, rfl⟩ := List.mem_map.mp mem
    rw [zero]
    exact Int.mul_zero _
  unfold mixValue
  rw [silent]
  decide

theorem gainScale_zero {q : Int} (h : q ≤ 24) : gainScale 0 q = (0, false) := by
  obtain ⟨n, shift⟩ : ∃ n, gainShift q = n + 1 := ⟨gainShift q - 1, by unfold gainShift; omega⟩
  have half : sar (2 ^ n) (n + 1) = 0 :=
    Int.ediv_eq_zero_of_lt (by positivity) (pow_lt_pow_right₀ (by norm_num) (Nat.lt_succ_self n))
  have zero : (0 : Sample).toInt = 0 := BitVec.toInt_zero
  unfold gainScale
  rw [shift, zero, Int.zero_mul, Int.zero_add, Nat.add_sub_cancel, half]
  decide

theorem gainOutput_zero (qa : Option Int) (qs qt : Int) (night : Bool) (drc : Nat) :
    gainOutput 0 qa qs qt night drc = (0, false) := by
  cases qa with
  | none => rfl
  | some a =>
    unfold gainOutput
    dsimp only
    split
    · rfl
    · exact gainScale_zero (by split <;> omega)

/-- A row of a zone without a test tone mixes the source vector (R98 to R101). -/
theorem rowOutput_mixes (spk : Vector Speaker 12) {r : Zone} (source : Vector Sample 8) (row : CoefRow)
    (quiet : r.tone.running = false) : rowOutput spk r source row =
      ((gainOutput (mixValue row.coefs source).1 r.appliedGain ((r.copy.map (·.trim)).getD 0) (spk.get row.channel).trim r.night
          ((r.vals.map (·.drc)).getD 0)).1,
        (if (mixValue row.coefs source).2 then 1 else 0) +
        (if (gainOutput (mixValue row.coefs source).1 r.appliedGain ((r.copy.map (·.trim)).getD 0) (spk.get row.channel).trim
          r.night ((r.vals.map (·.drc)).getD 0)).2 then 1 else 0)) := by
  have mix : rowMix r source row = mixValue row.coefs source := if_neg (by rw [quiet]; decide)
  unfold rowOutput
  rw [mix]

/-- A row of a frame that carries nothing is silent and clips nothing (R97). -/
theorem rowOutput_zeroFrame (spk : Vector Speaker 12) {r : Zone} (row : CoefRow) (quiet : r.tone.running = false) :
    rowOutput spk r zeroFrame row = (0, 0) := by
  rw [rowOutput_mixes spk zeroFrame row quiet, mixValue_zeroFrame, gainOutput_zero]
  rfl

/-- A row of a zone with a test tone takes the tone sample on the speaker under test, and zero elsewhere (R104). -/
theorem rowOutput_tones (spk : Vector Speaker 12) {r : Zone} (source : Vector Sample 8) (row : CoefRow)
    (runs : r.tone.running = true) : rowOutput spk r source row =
      ((gainOutput (if r.tone.speaker = some row.channel then r.tone.sample else 0) r.appliedGain ((r.copy.map (·.trim)).getD 0)
          (spk.get row.channel).trim r.night ((r.vals.map (·.drc)).getD 0)).1,
        if (gainOutput (if r.tone.speaker = some row.channel then r.tone.sample else 0) r.appliedGain
          ((r.copy.map (·.trim)).getD 0) (spk.get row.channel).trim r.night ((r.vals.map (·.drc)).getD 0)).2 then 1 else 0) := by
  have mix : rowMix r source row = (if r.tone.speaker = some row.channel then r.tone.sample else 0, false) := if_pos runs
  unfold rowOutput
  rw [mix]
  exact congrArg _ (Nat.zero_add _)

/-- With no shadow set waiting, the record that the read leaves comes to the samples with its noise register shifted. -/
theorem framed_shadowless {spk : Vector Speaker 12} {z : ZoneId} {r x : Zone} {source : Vector Sample 8}
    (read : r.readFrame spk z = (x, source)) (shadow : x.shadow = none) : r.framed spk z = x.shiftTone := by
  have kept : x.takeShadow = x := by
    unfold Zone.takeShadow
    rw [shadow]
  unfold Zone.framed
  rw [read, kept]

theorem framed_quiet {spk : Vector Speaker 12} {z : ZoneId} {r x : Zone} {source : Vector Sample 8}
    (read : r.readFrame spk z = (x, source)) (shadow : x.shadow = none) (quiet : x.tone.running = false) :
    r.framed spk z = x :=
  (framed_shadowless read shadow).trans (if_neg (by rw [quiet]; decide))

theorem framed_toned {spk : Vector Speaker 12} {z : ZoneId} {r x : Zone} {source : Vector Sample 8}
    (read : r.readFrame spk z = (x, source)) (shadow : x.shadow = none) (runs : x.tone.running = true) :
    r.framed spk z = { x with tone := { x.tone with noise := noiseShift x.tone.noise } } :=
  (framed_shadowless read shadow).trans (if_pos runs)

/-- What an output frame leaves of a record: the shadow set is active (R96), and clips and tone have advanced. -/
theorem output_record {spk : Vector Speaker 12} {z : ZoneId} {r x : Zone} {source : Vector Sample 8}
    (read : r.readFrame spk z = (x, source)) :
    ∃ n w, r.output spk z = { x with active := x.shadow.or x.active, shadow := none, clips := n, tone := w } := by
  have framed : r.framed spk z = _ := rfl
  conv at framed =>
    rhs
    rw [Zone.framed, shiftTone_eq, takeShadow_eq, read]
  exact ⟨_, _, frameRead_output framed (congrArg Prod.snd read)⟩

/-! ## The frames of the obligation -/

/-- The record after a frame of a zone without a test tone. -/
theorem output_quiet {spk : Vector Speaker 12} {z : ZoneId} {r x : Zone} {source : Vector Sample 8}
    (framed : r.framed spk z = x) (read : (r.readFrame spk z).2 = source) (quiet : x.tone.running = false) :
    r.output spk z = { x with clips := clipped spk x source (activeRows spk z x.active) x.clips } := by
  have toneless : (if x.tone.running then { x.tone with pulse := pulseNext x.tone.pulse x.rate } else x.tone) = x.tone :=
    if_neg (by rw [quiet]; decide)
  have output := frameRead_output framed read
  rwa [toneless] at output

/-- What an output frame below the ramp interval leaves, from what the read and the samples leave of the record. -/
theorem zoneOutputFrame_leaves {s : State} {z : ZoneId} {x y : Zone} {source : Vector Sample 8} {rows : List CoefRow}
    (bound : (s.zones.get z).power.isBound = true)
    (short : (s.zones.get z).rampCount + 1 < (s.zones.get z).rampInterval)
    (framed : (s.zones.get z).framed s.speakers z = x) (read : ((s.zones.get z).readFrame s.speakers z).2 = source)
    (output : (s.zones.get z).output s.speakers z = y) (active : rows = activeRows s.speakers z x.active)
    (once : (rows.map (·.channel)).Nodup) :
    ∃ t, exec (.zoneOutputFrame z) s = .next t ∧
      t.zones.get z = { y with rampCount := (s.zones.get z).rampCount + 1 } ∧
      (∀ row ∈ rows, t.channels.get row.channel = fedRow s x source row (s.channels.get row.channel)) ∧
      (∀ c, c ∉ rows.map (·.channel) → t.channels.get c = s.channels.get c) ∧
      (∀ y, y ≠ z → t.zones.get y = s.zones.get y) ∧ t.pairs = s.pairs ∧ zoneFrameKept s t := by
  subst output
  exact ⟨_, outputFrame_counts bound short, wrote_get .., afterFrame_rest _ framed read active once⟩

/-- A frame that carries nothing leaves the clip count and feeds zero to every speaker of the zone (R97). -/
theorem zeroFrame_leaves {s : State} {z : ZoneId} {x : Zone} {rows : List CoefRow}
    (bound : (s.zones.get z).power.isBound = true)
    (short : (s.zones.get z).rampCount + 1 < (s.zones.get z).rampInterval)
    (read : (s.zones.get z).readFrame s.speakers z = (x, zeroFrame)) (shadow : x.shadow = none)
    (quiet : x.tone.running = false) (active : rows = activeRows s.speakers z x.active)
    (once : (rows.map (·.channel)).Nodup) :
    ∃ t n, exec (.zoneOutputFrame z) s = .next t ∧
      t.zones.get z = { x with clips := n, rampCount := (s.zones.get z).rampCount + 1 } ∧ (x.clips ≤ 65535 → n = x.clips) ∧
      (∀ row ∈ rows, t.channels.get row.channel =
        feedChannel s.ms (s.pairs.get (pairOf row.channel)).dcTime x.resolution x.minPulse 0 (s.channels.get row.channel)) ∧
      (∀ c, c ∉ rows.map (·.channel) → t.channels.get c = s.channels.get c) ∧
      (∀ y, y ≠ z → t.zones.get y = s.zones.get y) ∧ t.pairs = s.pairs ∧ zoneFrameKept s t := by
  have framed := framed_quiet read shadow quiet
  have source := congrArg Prod.snd read
  have silent (row : CoefRow) : rowOutput s.speakers x zeroFrame row = (0, 0) := rowOutput_zeroFrame s.speakers row quiet
  obtain ⟨t, run, record, fed, rest⟩ :=
    zoneOutputFrame_leaves bound short framed source (output_quiet framed source quiet) active once
  refine ⟨t, _, run, record, fun room => ?_, fun row mem => ?_, rest⟩
  · rw [clipped_eq _ _ _ _ room]
    simp [silent, room]
  · refine (fed row mem).trans ?_
    unfold fedRow
    rw [silent]

theorem path_plays {r : Zone} (rests : ¬ (r.path = .filling ∨ r.path = .idle ∨ r.refilling = true)) :
    (r.path = .playing ∨ r.path = .fading) ∧ r.refilling = false := by
  simp only [not_or] at rests
  obtain ⟨filling, idle, fresh⟩ := rests
  refine ⟨?_, Bool.eq_false_iff.mpr fresh⟩
  cases e : r.path with
  | filling => exact absurd e filling
  | idle => exact absurd e idle
  | playing => exact .inl rfl
  | fading => exact .inr rfl

/-- A frame without values, and with no shadow set waiting, comes to the samples as the buffer gives it. -/
theorem readFrame_plain {r : Zone} {f : BufFrame} {rest : List BufFrame} (spk : Vector Speaker 12) (z : ZoneId)
    (path : r.path = .playing ∨ r.path = .fading) (fresh : r.refilling = false) (buffer : r.buffer = f :: rest)
    (plain : f.vals = none) : r.readFrame spk z = ({ r with buffer := rest }, f.samples) := by
  rw [readFrame_reads spk z path fresh buffer, plain]

/-- The tone sample of the frame, from the register after its shift (R151, R152). -/
theorem tone_sample (t : Tone) : { t with noise := noiseShift t.noise }.sample =
    match t.pattern with
    | .noise => noiseSample (noiseShift t.noise)
    | .pulse => if t.pulse = 0 then 4194304 else 0 := by
  unfold Tone.sample
  cases t.pattern <;> rfl

theorem pulseNext_eq (n : Nat) (r : Rate) : pulseNext n r = if n + 1 < r.hz / 10 then n + 1 else 0 := by
  unfold pulseNext Rate.pulsePeriod
  by_cases h : r.hz / 10 ≤ n + 1
  · rw [if_pos h, if_neg (Nat.not_lt.mpr h)]
  · rw [if_neg h, if_pos (Nat.not_le.mp h)]

/-- While no mute reason is present the gain stage takes qr (R74, R76). -/
theorem appliedGain_of_target {r : Zone} {g : Int} (target : r.target = some g) : r.appliedGain = r.qr := by
  have audible : r.mutes.tone = false := by
    unfold Zone.target at target
    split at target
    next sounds =>
      obtain ⟨-, -, unmuted⟩ := sounds
      simp only [Mutes.any, Bool.or_eq_false_iff] at unmuted
      exact unmuted.2
    · cases target
  exact if_neg (by rw [audible]; decide)

/-- Which values call for a new coefficient set (R70). -/
theorem buildNeeded_iff (old : Option DescValues) (v : DescValues) : buildNeeded old v = true ↔
    ∀ w, old = some w → w.map ≠ v.map ∨ w.pref ≠ v.pref ∨ w.lfe ≠ v.lfe := by
  cases old with
  | none => simp [buildNeeded]
  | some w => simp [buildNeeded, or_assoc]

/-- The coefficient set after a frame that carries values (R70, R89, R96). -/
theorem output_vals {spk : Vector Speaker 12} {z : ZoneId} {r : Zone} {f : BufFrame} {rest : List BufFrame} {v : DescValues}
    (path : r.path = .playing ∨ r.path = .fading) (fresh : r.refilling = false) (buffer : r.buffer = f :: rest)
    (carries : f.vals = some v) : (r.output spk z).vals = some v ∧ (r.output spk z).shadow = none ∧
      (r.output spk z).active =
        if buildNeeded r.vals v then some (buildSet spk z (r.output spk z).effMode v) else r.shadow.or r.active := by
  have read : r.readFrame spk z = ({ r with buffer := rest }.takeVals spk z v, f.samples) := by
    rw [readFrame_reads spk z path fresh buffer, carries]
  rw [takeVals_eq] at read
  obtain ⟨n, w, record⟩ := output_record read
  rw [record]
  refine ⟨rfl, rfl, ?_⟩
  dsimp only
  split <;> rfl

/-! ## The ramp interval does not reach the samples -/

theorem reportedChange_timed {r x : Zone} (i n : Nat) (interval : x.rampInterval = r.rampInterval) :
    (r.timed i n).reportedChange (x.timed i n) = r.reportedChange x := by
  have modes : (r.timed i n).effMode = r.effMode ∧ (x.timed i n).effMode = x.effMode := ⟨rfl, rfl⟩
  unfold Zone.reportedChange
  rw [modes.1, modes.2, interval]
  simp [Zone.timed]

theorem output_timed (spk : Vector Speaker 12) (z : ZoneId) (r : Zone) (i n : Nat) :
    (r.timed i n).output spk z = (r.output spk z).timed i n := by
  have read : ((r.timed i n).readFrame spk z).2 = (r.readFrame spk z).2 := by rw [readFrame_timed]
  exact frameRead_output (framed_timed spk z r i n) read

/-- The state with a zone's ramp interval and ramp frame count set. -/
def State.timed (s : State) (z : ZoneId) (i n : Nat) : State :=
  { s with zones := setAt s.zones z ((s.zones.get z).timed i n) }

theorem timed_get (s : State) (z : ZoneId) (i n : Nat) : (s.timed z i n).zones.get z = (s.zones.get z).timed i n :=
  setAt_get_self _ _ _

theorem timed_timed (s : State) (z : ZoneId) (i n j m : Nat) : (s.timed z i n).timed z j m = s.timed z j m := by
  have zones : setAt (s.timed z i n).zones z (((s.timed z i n).zones.get z).timed j m) =
      setAt s.zones z ((s.zones.get z).timed j m) := by
    rw [timed_get]
    exact setAt_setAt ..
  exact congrArg (fun zs => ({ s with zones := zs } : State)) zones

theorem timed_self (s : State) (z : ZoneId) :
    s.timed z (s.zones.get z).rampInterval (s.zones.get z).rampCount = s :=
  congrArg (fun zs => ({ s with zones := zs } : State)) (setAt_self s.zones z)

theorem fedChannels_timed (s : State) (zs : Vector Zone 3) (x : Zone) (source : Vector Sample 8) (rows : List CoefRow)
    (i n : Nat) : fedChannels { s with zones := zs } (x.timed i n) source rows s.channels =
      fedChannels s x source rows s.channels := rfl

theorem frameChannels_timed (s : State) (z : ZoneId) (i n : Nat) :
    (s.timed z i n).frameChannels z = s.frameChannels z := by
  unfold State.frameChannels
  rw [timed_get]
  unfold State.timed
  dsimp only
  rw [framed_timed, readFrame_timed, fedChannels_timed]
  rfl

theorem wrote_timed (s : State) (z : ZoneId) (cs : Vector Channel 12) (r : Zone) (b : Bool) (i n : Nat) :
    ({ s.timed z i n with channels := cs } : State).wrote z (r.timed i n) b =
      (({ s with channels := cs } : State).wrote z r b).timed z i n := by
  have zones : setAt (s.timed z i n).zones z (r.timed i n) =
      setAt (setAt s.zones z r) z (((setAt s.zones z r).get z).timed i n) := by
    rw [setAt_get_self, setAt_setAt]
    exact setAt_setAt ..
  exact congrArg (fun zs =>
    ({ s with channels := cs, zones := zs, ports := s.ports.raiseIf b (.zone z) } : State)) zones

/-- The ramp settings do not reach the samples of an output frame (log 24). -/
theorem formFrame_timed (s : State) (z : ZoneId) (i n : Nat) :
    formFrame (s.timed z i n) z = (formFrame s z).timed z i n := by
  obtain ⟨-, interval, -⟩ := framed_kept s.speakers z (s.zones.get z)
  have speakers : (s.timed z i n).speakers = s.speakers := rfl
  rw [formFrame_eq, formFrame_eq, frameChannels_timed, timed_get, speakers, framed_timed, output_timed,
    reportedChange_timed i n interval]
  exact wrote_timed ..

/-- The state after the samples of an output frame, which a bound zone alone forms (R70). -/
def State.formed (s : State) (z : ZoneId) : State := if (s.zones.get z).power.isBound then formFrame s z else s

theorem formed_timed (s : State) (z : ZoneId) (i n : Nat) : (s.timed z i n).formed z = (s.formed z).timed z i n := by
  have power : ((s.timed z i n).zones.get z).power = (s.zones.get z).power := by
    rw [timed_get]
    rfl
  unfold State.formed
  rw [power, formFrame_timed]
  split <;> rfl

theorem formed_kept (s : State) (z : ZoneId) : ((s.formed z).zones.get z).power = (s.zones.get z).power ∧
    ((s.formed z).zones.get z).rampInterval = (s.zones.get z).rampInterval ∧
    ((s.formed z).zones.get z).rampCount = (s.zones.get z).rampCount ∧
    ((s.formed z).zones.get z).qr = (s.zones.get z).qr := by
  unfold State.formed
  split
  · rw [formFrame_eq, wrote_get]
    exact framed_kept s.speakers z (s.zones.get z)
  · exact ⟨rfl, rfl, rfl, rfl⟩

theorem countRampFrame_timed {s : State} {z : ZoneId} {i n : Nat} (moves : (s.zones.get z).power ≠ .standby)
    (short : n + 1 < i) : countRampFrame (s.timed z i n) z = s.timed z i (n + 1) := by
  rw [countRampFrame_counts (by rw [timed_get]; exact moves) (by rw [timed_get]; exact short), timed_get]
  exact congrArg (fun zs => ({ s with zones := zs } : State)) (setAt_setAt ..)

/-- An output frame that a longer ramp interval keeps from the ramp step: its samples, and one more frame counted. -/
theorem outputFrame_timed {s : State} {z : ZoneId} {i n : Nat} (moves : (s.zones.get z).power ≠ .standby)
    (short : n + 1 < i) : outputFrame (s.timed z i n) z = (s.formed z).timed z i (n + 1) := by
  obtain ⟨power, -⟩ := formed_kept s z
  refine (congrArg (countRampFrame · z) (formed_timed s z i n)).trans (countRampFrame_timed (fun e => moves ?_) short)
  exact power.symm.trans e

/-- Settles O30. The samples of a frame are the rows' turns (`afterFrame_rest`) on the record that the read leaves
(`readFrame_reads`, `readFrame_underflow`, `readFrame_idles`), and the ramp settings do not reach them (`formFrame_timed`). -/
theorem bufferEffects : Obligations.BufferEffects := by
  unfold Obligations.BufferEffects
  refine ⟨?_, ?_, ?_, ⟨?_, ?_, ?_, ?_, ?_⟩, ?_, ?_⟩
  · intro s z x bound linked path length
    refine (bufferFilled_writes x bound linked (by rw [path]; decide) (.inl path) length).trans
      (congrArg Host.Outcome.next ?_)
    unfold Zone.filled
    rw [if_pos path, updZone_wrote, reportedChange_path fun e => nomatch (path.symm.trans e : Path.filling = .playing)]
    rfl
  · intro s z x bound linked path refilling length
    have plays : (s.zones.get z).path ≠ .idle ∧ (s.zones.get z).path ≠ .filling := by
      rcases path with e | e <;> rw [e] <;> decide
    refine (bufferFilled_writes x bound linked plays.1 (.inr refilling) length).trans (congrArg Host.Outcome.next ?_)
    unfold Zone.filled
    rw [if_neg plays.2]
    exact State.updZone_unreported (Zone.reportedChange_self _)
  · intro s z rows bound nothing shadow quiet short active once
    by_cases rests : (s.zones.get z).path = .filling ∨ (s.zones.get z).path = .idle ∨ (s.zones.get z).refilling = true
    · obtain ⟨t, n, run, record, clips, rest⟩ :=
        zeroFrame_leaves bound short (readFrame_idles s.speakers z rests) shadow quiet active once
      refine ⟨t, run, ?_⟩
      rw [record]
      exact ⟨rfl, rfl, rfl, rfl, clips, fun _ => ⟨rfl, rfl⟩, rest⟩
    · obtain ⟨plays, fresh⟩ := path_plays rests
      have empty : (s.zones.get z).buffer = [] := by simpa [rests, ← or_assoc] using nothing
      obtain ⟨t, n, run, record, clips, rest⟩ :=
        zeroFrame_leaves bound short (readFrame_underflow s.speakers z plays fresh empty) shadow quiet active once
      refine ⟨t, run, ?_⟩
      rw [record]
      exact ⟨rfl, rfl, rfl, rfl, clips, fun h => absurd h rests, rest⟩
  · intro s z f rest rows bound path fresh buffer plain shadow quiet short active once
    have read := readFrame_plain s.speakers z path fresh buffer plain
    have source := congrArg Prod.snd read
    have framed := framed_quiet read shadow quiet
    obtain ⟨t, run, record, fed, others⟩ :=
      zoneOutputFrame_leaves bound short framed source (output_quiet framed source quiet) active once
    refine ⟨t, run, ?_⟩
    rw [record]
    refine ⟨rfl, rfl, rfl, fun room => ?_, fun row mem => ?_, others⟩
    · refine (clipped_eq s.speakers _ f.samples _ room).trans ?_
      simp only [rowOutput_mixes s.speakers (r := { s.zones.get z with buffer := rest }) f.samples _ quiet]
      rw [active]
      rfl
    · refine (fed row mem).trans ?_
      unfold fedRow
      rw [rowOutput_mixes s.speakers (r := { s.zones.get z with buffer := rest }) f.samples row quiet]
      rfl
  · intro s z f rest rows x bound path fresh buffer plain shadow runs short sample active once
    have read := readFrame_plain s.speakers z path fresh buffer plain
    have source := congrArg Prod.snd read
    have framed := framed_toned read shadow runs
    have output := frameRead_output framed source
    dsimp only at output
    rw [if_pos runs, pulseNext_eq] at output
    obtain ⟨t, run, record, fed, -, -, others⟩ := zoneOutputFrame_leaves bound short framed source output active once
    have toned := (tone_sample (s.zones.get z).tone).trans sample.symm
    have formed (row : CoefRow) := rowOutput_tones s.speakers f.samples row
      (r := { s.zones.get z with
        buffer := rest, tone := { (s.zones.get z).tone with noise := noiseShift (s.zones.get z).tone.noise } }) runs
    simp only [toned] at formed
    refine ⟨t, run, ?_⟩
    rw [record]
    refine ⟨rfl, rfl, fun room => ?_, fun row mem => ?_, others⟩
    · refine (clipped_eq s.speakers _ f.samples _ room).trans ?_
      simp only [formed]
      rw [active]
      rfl
    · refine (fed row mem).trans ?_
      unfold fedRow
      rw [formed]
      rfl
  · intro s z f rest v bound path fresh buffer carries short
    obtain ⟨vals, shadow, active⟩ := output_vals (spk := s.speakers) (z := z) path fresh buffer carries
    refine ⟨_, outputFrame_counts bound short, ?_⟩
    rw [show (s.afterFrame z _).zones.get z = _ from wrote_get ..]
    refine ⟨vals, shadow, fun differs => active.trans (if_pos ((buildNeeded_iff _ _).mpr differs)), ?_⟩
    intro w before map pref lfe
    have kept : ¬ buildNeeded (s.zones.get z).vals v = true := by
      rw [buildNeeded_iff]
      intro differs
      simpa [map, pref, lfe] using differs w before
    refine (active.trans (if_neg kept)).trans ?_
    cases (s.zones.get z).shadow <;> rfl
  · intro s z bound path fresh buffer short
    obtain ⟨n, w, record⟩ := output_record (readFrame_underflow s.speakers z path fresh buffer)
    have run := outputFrame_counts bound short
    rw [record] at run
    refine ⟨_, run, ?_⟩
    rw [show (s.afterFrame z _).zones.get z = _ from wrote_get ..]
    exact ⟨rfl, buffer, rfl, rfl⟩
  · intro s z drain short
    rw [outputFrame_unbound (by rw [drain]; decide), countRampFrame_counts (by rw [drain]; decide) short]
  · intro s z f rest rows x g q on path fresh buffer plain shadow quiet due qr target step active once
    have read := readFrame_plain s.speakers z (.inl path) fresh buffer plain
    have source := congrArg Prod.snd read
    have framed := framed_quiet read shadow quiet
    have output := output_quiet framed source quiet
    have next : rampNext ((s.zones.get z).output s.speakers z).qr ((s.zones.get z).output s.speakers z).target = some q := by
      have kept : ((s.zones.get z).output s.speakers z).qr = some x ∧
          ((s.zones.get z).output s.speakers z).target = some g := by
        rw [output]
        exact ⟨qr, target⟩
      rw [kept.1, kept.2, step]
      unfold rampNext
      dsimp only
      split
      · rfl
      · split <;> rfl
    have run := outputFrame_ramps (by rw [on]; rfl) due next (Option.some_ne_none q)
    rw [output] at run
    obtain ⟨fed, others⟩ := afterFrame_rest _ framed source active once
    refine ⟨_, run, ?_⟩
    rw [show (s.afterFrame z _).zones.get z = _ from wrote_get ..]
    refine ⟨rfl, rfl, rfl, fun row mem => (fed row mem).trans ?_, others⟩
    unfold fedRow
    rw [rowOutput_mixes s.speakers (r := { s.zones.get z with buffer := rest }) f.samples row quiet, ← qr,
      ← appliedGain_of_target target]
    rfl
  · intro s z moves due
    obtain ⟨power, interval, count, qr⟩ := formed_kept s z
    refine ⟨_, congrArg Host.Outcome.next (outputFrame_timed (i := (s.zones.get z).rampCount + 2)
      (n := (s.zones.get z).rampCount) moves (Nat.lt_succ_self _)), ?_, ?_, ?_⟩
    · rw [timed_get]
      rfl
    · rw [timed_get]
      exact qr
    · have restored : ((s.formed z).timed z ((s.zones.get z).rampCount + 2) ((s.zones.get z).rampCount + 1)).timed z
          (s.zones.get z).rampInterval (s.zones.get z).rampCount = s.formed z := by
        rw [timed_timed, ← interval, ← count]
        exact timed_self _ z
      refine (congrArg Host.Outcome.next ?_).trans (congrArg (fun t => Host.Outcome.next (rampStep t z)) restored).symm
      refine countRampFrame_steps (s := s.formed z) (fun e => moves (power.symm.trans e)) ?_
      rw [interval, count]
      exact due

end Sys2Proof.Machine
end

section
/-! The carrier period boundary: what channels present, FLT and the fault count, and the carrier that a POWER_ON starts
(R60, R124, R126 to R130, R137, R140). -/

namespace Sys2Proof.Machine

/-! ## One index's turn in a loop -/

/-- A loop without an index leaves what that index alone writes. -/
theorem forEach_absent {ι α : Type} {g : State → α} {op : State → ι → State} {i : ι}
    (other : ∀ t j, j ≠ i → g (op t j) = g t) {xs : List ι} (absent : i ∉ xs) (s : State) : g (s.forEach xs op) = g s := by
  induction xs generalizing s with
  | nil => rfl
  | cons x xs ih =>
    simp only [List.mem_cons, not_or] at absent
    rw [State.forEach_cons, ih absent.2, other s x (Ne.symm absent.1)]

/-- What a loop leaves of a part of the state that one of its indices alone writes is what that index's turn leaves of it, from a
state in which the part is as before the loop. -/
theorem forEach_at {ι α : Type} {g : State → α} {P : State → Prop} {op : State → ι → State} {i : ι}
    (keeps : ∀ t j, P t → P (op t j)) (other : ∀ t j, j ≠ i → g (op t j) = g t) {xs : List ι} (once : xs.Nodup) (mem : i ∈ xs)
    {s : State} (start : P s) : ∃ t, P t ∧ g t = g s ∧ g (s.forEach xs op) = g (op t i) := by
  induction xs generalizing s with
  | nil => cases mem
  | cons x xs ih =>
    obtain ⟨fresh, once⟩ := List.nodup_cons.mp once
    rw [State.forEach_cons]
    rcases List.mem_cons.mp mem with rfl | mem
    · exact ⟨s, start, rfl, forEach_absent other fresh _⟩
    · obtain ⟨t, kept, before, after⟩ := ih once mem (keeps s x start)
      exact ⟨t, kept, before.trans (other s x fun e => fresh (e ▸ mem)), after⟩

theorem chanIds_once : chanIds.Nodup := by decide

theorem mem_chanIds (c : Chan) : c ∈ chanIds := by revert c; decide

theorem pairIds_once : pairIds.Nodup := by decide

theorem mem_pairIds (q : PairId) : q ∈ pairIds := by revert q; decide

theorem pairOf_lowerChan (q : PairId) : pairOf (lowerChan q) = q := by revert q; decide

theorem pairOf_upperChan (q : PairId) : pairOf (upperChan q) = q := by revert q; decide

theorem updChannel_other (s : State) {b c : Chan} (f : Channel → Channel) (ne : b ≠ c) :
    (s.updChannel b f).channels.get c = s.channels.get c := setAt_get_of_ne _ _ ne

theorem updPair_other (s : State) {p q : PairId} (f : Pair → Pair) (ne : p ≠ q) :
    (s.updPair p f).pairs.get q = s.pairs.get q := setAt_get_of_ne _ _ ne

theorem updPair_self (s : State) (q : PairId) (f : Pair → Pair) : (s.updPair q f).pairs.get q = f (s.pairs.get q) :=
  setAt_get_self _ _ _

/-! ## What a channel presents -/

/-- What the start of a carrier period does to a channel (R121, R127, R128). -/
def State.presentation (s : State) (z : ZoneId) (c : Chan) (x : Channel) : Channel :=
  if chanZone s.speakers c = some z then
    match dutyFor s c with
    | some d => x.present z (s.zones.get z).resolution d (chanInverted s.speakers c)
    | none => x.off
  else if x.timedBy = some z then x.off
  else x

theorem presentChannel_eq (z : ZoneId) (s : State) (c : Chan) :
    presentChannel z s c = s.updChannel c (s.presentation z c) := by
  have same : s.updChannel c id = s := congrArg (fun cs => ({ s with channels := cs } : State)) (setAt_self _ _)
  unfold presentChannel State.updChannel State.presentation
  split
  · cases dutyFor s c <;> rfl
  · split
    · rfl
    · exact same.symm

/-- A presentation writes what the channel shows, and neither of its duty counts. -/
theorem presentation_kept (s : State) (z : ZoneId) (c : Chan) (x : Channel) :
    (s.presentation z c x).duty = x.duty ∧ (s.presentation z c x).next = x.next := by
  unfold State.presentation
  split
  · split <;> exact ⟨rfl, rfl⟩
  · split <;> exact ⟨rfl, rfl⟩

/-- Two states call for the same duty counts (R126, R128, R130). -/
structure SameDuties (s t : State) : Prop where
  speakers : t.speakers = s.speakers
  zones : ∀ z, (t.zones.get z).driveNow = (s.zones.get z).driveNow ∧ (t.zones.get z).resolution = (s.zones.get z).resolution
  pairs : ∀ q, (t.pairs.get q).state = (s.pairs.get q).state
  duties : ∀ c, (t.channels.get c).duty = (s.channels.get c).duty

theorem SameDuties.refl (s : State) : SameDuties s s := ⟨rfl, fun _ => ⟨rfl, rfl⟩, fun _ => rfl, fun _ => rfl⟩

theorem SameDuties.trans {s t u : State} (h : SameDuties s t) (k : SameDuties t u) : SameDuties s u :=
  ⟨k.speakers.trans h.speakers, fun z => ⟨(k.zones z).1.trans (h.zones z).1, (k.zones z).2.trans (h.zones z).2⟩,
    fun q => (k.pairs q).trans (h.pairs q), fun c => (k.duties c).trans (h.duties c)⟩

theorem dutyFor_congr {s t : State} (h : SameDuties s t) (c : Chan) : dutyFor t c = dutyFor s c := by
  obtain ⟨speakers, zones, pairs, duties⟩ := h
  unfold dutyFor
  rw [speakers, pairs]
  split
  · rfl
  · split
    · rfl
    · simp only [zones, duties]

theorem presentation_congr {s t : State} (h : SameDuties s t) (z : ZoneId) (c : Chan) :
    t.presentation z c = s.presentation z c := by
  funext x
  unfold State.presentation
  rw [dutyFor_congr h, h.speakers, (h.zones z).2]

theorem presentChannel_duties (z : ZoneId) (s : State) (c : Chan) : SameDuties s (presentChannel z s c) := by
  rw [presentChannel_eq]
  refine ⟨rfl, fun _ => ⟨rfl, rfl⟩, fun _ => rfl, fun k => ?_⟩
  by_cases e : c = k
  · subst e
    exact (congrArg Channel.duty (setAt_get_self _ _ _)).trans (presentation_kept s z c _).1
  · rw [updChannel_other _ _ e]

/-- Every channel is presented once, by the state before the presentations. -/
theorem presentChannels_get (s : State) (z : ZoneId) (c : Chan) :
    (s.forEach chanIds (presentChannel z)).channels.get c = s.presentation z c (s.channels.get c) := by
  obtain ⟨t, same, before, after⟩ := forEach_at (g := fun t => t.channels.get c) (P := SameDuties s) (op := presentChannel z)
    (fun t j h => h.trans (presentChannel_duties z t j))
    (fun t j ne => by rw [presentChannel_eq]; exact updChannel_other _ _ ne) chanIds_once (mem_chanIds c) (.refl s)
  rw [after, presentChannel_eq, ← before, ← presentation_congr same]
  exact setAt_get_self _ _ _

theorem presentChannels_pairs (s : State) (z : ZoneId) : (s.forEach chanIds (presentChannel z)).pairs = s.pairs :=
  State.forEach_field State.pairs _ (fun t c => by rw [presentChannel_eq]; rfl) _ s

theorem presentChannels_duties (s : State) (z : ZoneId) : SameDuties s (s.forEach chanIds (presentChannel z)) :=
  State.forEach_keeps (SameDuties s) _ (fun t c h => h.trans (presentChannel_duties z t c)) _ s (.refl s)

/-! ## The pairs of a zone at a period's start and at the carrier's end -/

/-- What the start of a period does to a pair of the zone (R137). -/
def Pair.begun (p : Pair) : Pair := { p with driven := !p.state.holds }

/-- What the end of the carrier does to a pair of the zone (R137). -/
def Pair.stopped (p : Pair) : Pair := { p with driven := false, faults := 0 }

/-- A loop that writes each pair of one zone by itself. -/
theorem forEach_zonePair {z : ZoneId} {f : Pair → Pair} {op : State → PairId → State}
    (h : ∀ t q, op t q = if pairZone t.speakers q = some z then t.updPair q f else t) (s : State) (q : PairId) :
    (s.forEach pairIds op).pairs.get q =
      if pairZone s.speakers q = some z then f (s.pairs.get q) else s.pairs.get q := by
  obtain ⟨t, speakers, before, after⟩ := forEach_at (g := fun t => t.pairs.get q)
    (P := fun t => t.speakers = s.speakers) (op := op)
    (fun t j kept => by rw [h]; split <;> exact kept)
    (fun t j ne => by rw [h]; split; exacts [updPair_other _ _ ne, rfl]) pairIds_once (mem_pairIds q) rfl
  rw [after, h, speakers, ← before]
  split
  · exact updPair_self _ _ _
  · rfl

/-- A loop that writes pairs of one zone and keeps their states leaves the duty counts called for. -/
theorem zonePairs_duties {z : ZoneId} {f : Pair → Pair} {op : State → PairId → State}
    (h : ∀ t q, op t q = if pairZone t.speakers q = some z then t.updPair q f else t) (kept : ∀ p, (f p).state = p.state)
    (s : State) : SameDuties s (s.forEach pairIds op) := by
  have speakers : (s.forEach pairIds op).speakers = s.speakers :=
    State.forEach_field State.speakers _ (fun t q => by rw [h]; split <;> rfl) _ s
  have zones : (s.forEach pairIds op).zones = s.zones :=
    State.forEach_field State.zones _ (fun t q => by rw [h]; split <;> rfl) _ s
  have channels : (s.forEach pairIds op).channels = s.channels :=
    State.forEach_field State.channels _ (fun t q => by rw [h]; split <;> rfl) _ s
  refine ⟨speakers, fun z => by rw [zones]; exact ⟨rfl, rfl⟩, fun q => ?_, fun c => by rw [channels]⟩
  rw [forEach_zonePair h]
  split
  · exact kept _
  · rfl

theorem beginPeriod_channels (s : State) (z : ZoneId) (c : Chan) :
    (beginPeriod s z).channels.get c = s.presentation z c (s.channels.get c) := by
  unfold beginPeriod
  rw [State.forEach_field State.channels _ (beginPairPeriod_channels z), presentChannels_get]

theorem stopCarrier_channels (s : State) (z : ZoneId) (c : Chan) :
    (stopCarrier s z).channels.get c = s.presentation z c (s.channels.get c) := by
  unfold stopCarrier
  rw [State.forEach_field State.channels _ fun t q => by unfold stopPair; split <;> rfl, presentChannels_get]

theorem beginPeriod_pair (s : State) (z : ZoneId) (q : PairId) : (beginPeriod s z).pairs.get q =
    if pairZone s.speakers q = some z then (s.pairs.get q).begun else s.pairs.get q := by
  unfold beginPeriod
  rw [forEach_zonePair (op := beginPairPeriod z) (f := Pair.begun) fun _ _ => rfl, presentChannels_pairs,
    (presentChannels_duties s z).speakers]

theorem stopCarrier_pair (s : State) (z : ZoneId) (q : PairId) : (stopCarrier s z).pairs.get q =
    if pairZone s.speakers q = some z then (s.pairs.get q).stopped else s.pairs.get q := by
  unfold stopCarrier
  rw [forEach_zonePair (op := stopPair z) (f := Pair.stopped) fun _ _ => rfl, presentChannels_pairs,
    (presentChannels_duties s z).speakers]

theorem beginPeriod_duties (s : State) (z : ZoneId) : SameDuties s (beginPeriod s z) :=
  (presentChannels_duties s z).trans (zonePairs_duties (f := Pair.begun) (fun _ _ => rfl) (fun _ => rfl) _)

theorem stopCarrier_duties (s : State) (z : ZoneId) : SameDuties s (stopCarrier s z) :=
  (presentChannels_duties s z).trans (zonePairs_duties (f := Pair.stopped) (fun _ _ => rfl) (fun _ => rfl) _)

/-- A channel presents what the state calls for (R126). -/
def State.shows (t : State) (z : ZoneId) (c : Chan) : Prop :=
  (dutyFor t c = none → (t.channels.get c).isOff) ∧
  ∀ d, dutyFor t c = some d → (t.channels.get c).shown = some d ∧
    (t.channels.get c).wave = pwmPeriod (t.zones.get z).resolution d (chanInverted t.speakers c)

/-- A channel of the zone that has been presented shows what the state calls for. -/
theorem shows_of_presentation {s t : State} {z : ZoneId} {c : Chan} (same : SameDuties s t)
    (presented : t.channels.get c = s.presentation z c (s.channels.get c)) (zone : chanZone s.speakers c = some z) :
    t.shows z c := by
  unfold State.shows
  rw [dutyFor_congr same, presented, same.speakers, (same.zones z).2]
  unfold State.presentation
  rw [if_pos zone]
  refine ⟨fun off => ?_, fun d duty => ?_⟩
  · rw [off]
    exact Channel.off_isOff _
  · rw [duty]
    exact ⟨rfl, rfl⟩

/-! ## Holds and trips -/

theorem startHold_pair (s : State) (q : PairId) :
    (startHold s q).pairs.get q = { s.pairs.get q with driven := false, faults := 0 } := updPair_self _ _ _

theorem lowerChan_ne_upperChan (q : PairId) : lowerChan q ≠ upperChan q := by revert q; decide

theorem startHold_off (s : State) (q : PairId) : pairOff (startHold s q) q := by
  have channels : (startHold s q).channels =
      setAt (setAt s.channels (lowerChan q) (s.channels.get (lowerChan q)).off) (upperChan q)
        ((s.updChannel (lowerChan q) Channel.off).channels.get (upperChan q)).off := rfl
  unfold pairOff
  rw [channels]
  refine ⟨?_, ?_⟩
  · rw [setAt_get_of_ne _ _ (Ne.symm (lowerChan_ne_upperChan q)), setAt_get_self]
    exact Channel.off_isOff _
  · rw [setAt_get_self]
    exact Channel.off_isOff _

/-- A pair that a trip has taken out of NORMAL (R140). -/
def Pair.trippedBy (now : Millis) (cause : Cause) (p : Pair) : Pair :=
  { p with state := .tripped, cause := cause, retryTimer := some { start := now, len := 250 }, probeWindow := none
           faults := 0, driven := false }

/-- A pair that a trip has taken out of PROBE (R140). -/
def Pair.failedBy (now : Millis) (cause : Cause) (n : Nat) (p : Pair) : Pair :=
  { p with state := if p.retryLimit ≤ n then .latched else .tripped, cause := cause, retries := n
           retryTimer := if p.retryLimit ≤ n then none else some { start := now, len := 250 }, probeWindow := none
           faults := 0, driven := false }

theorem offerTrip_normal {s : State} {q : PairId} (cause : Cause) (normal : (s.pairs.get q).state = .normal) :
    (offerTrip s q cause).pairs.get q = (s.pairs.get q).trippedBy s.ms cause ∧ pairOff (offerTrip s q cause) q := by
  unfold offerTrip
  rw [normal]
  refine ⟨?_, startHold_off _ q⟩
  rw [startHold_pair, updPair_self]
  rfl

theorem offerTrip_probe {s : State} {q : PairId} (cause : Cause) (probe : (s.pairs.get q).state = .probe) :
    (offerTrip s q cause).pairs.get q = (s.pairs.get q).failedBy s.ms cause (min 255 ((s.pairs.get q).retries + 1)) ∧
      pairOff (offerTrip s q cause) q := by
  unfold offerTrip
  rw [probe]
  refine ⟨?_, startHold_off _ q⟩
  rw [startHold_pair, updPair_self]
  unfold tripInProbe enterTripped Pair.failedBy
  simp only [decide_eq_true_eq]
  rfl

/-- An offer of a trip writes the pair and the levels of its two channels (R130, R140). -/
structure OfPair (q : PairId) (s t : State) : Prop where
  speakers : t.speakers = s.speakers
  zones : t.zones = s.zones
  ms : t.ms = s.ms
  pairs : ∀ p, p ≠ q → t.pairs.get p = s.pairs.get p
  others : ∀ c, pairOf c ≠ q → t.channels.get c = s.channels.get c
  counts : ∀ c, (t.channels.get c).duty = (s.channels.get c).duty ∧ (t.channels.get c).next = (s.channels.get c).next

theorem OfPair.refl (q : PairId) (s : State) : OfPair q s s :=
  ⟨rfl, rfl, rfl, fun _ _ => rfl, fun _ _ => rfl, fun _ => ⟨rfl, rfl⟩⟩

theorem OfPair.trans {q : PairId} {s t u : State} (h : OfPair q s t) (k : OfPair q t u) : OfPair q s u :=
  ⟨k.speakers.trans h.speakers, k.zones.trans h.zones, k.ms.trans h.ms, fun p ne => (k.pairs p ne).trans (h.pairs p ne),
    fun c ne => (k.others c ne).trans (h.others c ne),
    fun c => ⟨(k.counts c).1.trans (h.counts c).1, (k.counts c).2.trans (h.counts c).2⟩⟩

theorem OfPair.ite {q : PairId} {s t u : State} {p : Prop} [Decidable p] (h : OfPair q s t) (k : OfPair q s u) :
    OfPair q s (if p then t else u) := by
  split
  · exact h
  · exact k

theorem updPair_ofPair (s : State) (q : PairId) (f : Pair → Pair) : OfPair q s (s.updPair q f) :=
  ⟨rfl, rfl, rfl, fun _ ne => updPair_other s f (Ne.symm ne), fun _ _ => rfl, fun _ => ⟨rfl, rfl⟩⟩

theorem updChannel_off_ofPair (s : State) {q : PairId} {b : Chan} (mine : pairOf b = q) :
    OfPair q s (s.updChannel b Channel.off) := by
  refine ⟨rfl, rfl, rfl, fun _ _ => rfl, fun c ne => updChannel_other s _ fun e => ne (e ▸ mine), fun c => ?_⟩
  by_cases e : b = c
  · subst e
    have own : (s.updChannel b Channel.off).channels.get b = (s.channels.get b).off := setAt_get_self _ _ _
    rw [own]
    exact ⟨rfl, rfl⟩
  · rw [updChannel_other s _ e]
    exact ⟨rfl, rfl⟩

theorem startHold_ofPair (s : State) (q : PairId) : OfPair q s (startHold s q) :=
  ((updChannel_off_ofPair s (pairOf_lowerChan q)).trans (updChannel_off_ofPair _ (pairOf_upperChan q))).trans
    (updPair_ofPair _ q _)

theorem offerTrip_ofPair (s : State) (q : PairId) (cause : Cause) : OfPair q s (offerTrip s q cause) := by
  unfold offerTrip
  split
  · exact (updPair_ofPair s q _).trans (startHold_ofPair _ q)
  · exact (updPair_ofPair s q _).trans (startHold_ofPair _ q)
  · exact .refl q s

theorem samplePair_ofPair (z : ZoneId) (flt : Vector Bool 6) (s : State) (q : PairId) : OfPair q s (samplePair z flt s q) :=
  (updPair_ofPair s q _).trans
    (.ite (.ite (.ite ((updPair_ofPair _ q _).trans (offerTrip_ofPair _ q _)) (updPair_ofPair _ q _)) (updPair_ofPair _ q _))
      (.refl q _))

/-! ## FLT sampled for one pair -/

section
variable {s : State} {z : ZoneId} {flt : Vector Bool 6} {q : PairId}

/-- A pair that is not the zone's, or was not driven for the period, has its level recorded and keeps its count (R137). -/
theorem samplePair_uncounted (idle : pairZone s.speakers q = some z → (s.pairs.get q).driven = false) :
    (samplePair z flt s q).pairs.get q = { s.pairs.get q with flt := flt.get q } := by
  have seen : (s.updPair q fun p => { p with flt := flt.get q }).pairs.get q = { s.pairs.get q with flt := flt.get q } :=
    updPair_self _ _ _
  unfold samplePair
  dsimp only
  rw [if_neg, seen]
  rintro ⟨mine, driven⟩
  rw [seen] at driven
  exact Bool.false_ne_true ((idle mine).symm.trans driven)

theorem samplePair_counted (mine : pairZone s.speakers q = some z) (driven : (s.pairs.get q).driven = true) :
    samplePair z flt s q = (fun u : State =>
      if flt.get q then
        if 4 ≤ (s.pairs.get q).faults + 1 then faultTrip u q else u.updPair q fun p => { p with faults := p.faults + 1 }
      else u.updPair q fun p => { p with faults := 0 }) (s.updPair q fun p => { p with flt := flt.get q }) := by
  have seen : (s.updPair q fun p => { p with flt := flt.get q }).pairs.get q = { s.pairs.get q with flt := flt.get q } :=
    updPair_self _ _ _
  unfold samplePair
  dsimp only
  rw [seen, if_pos ⟨mine, driven⟩]

theorem samplePair_clears (mine : pairZone s.speakers q = some z) (driven : (s.pairs.get q).driven = true)
    (clear : flt.get q = false) :
    (samplePair z flt s q).pairs.get q = { s.pairs.get q with flt := flt.get q, faults := 0 } := by
  rw [samplePair_counted mine driven]
  dsimp only
  rw [if_neg (by rw [clear]; decide), updPair_self, updPair_self]

theorem samplePair_counts (mine : pairZone s.speakers q = some z) (driven : (s.pairs.get q).driven = true)
    (asserted : flt.get q = true) (few : (s.pairs.get q).faults < 3) : (samplePair z flt s q).pairs.get q =
      { s.pairs.get q with flt := flt.get q, faults := (s.pairs.get q).faults + 1 } := by
  rw [samplePair_counted mine driven]
  dsimp only
  rw [if_pos asserted, if_neg (by omega), updPair_self, updPair_self]

/-- The fourth asserted FLT in a row offers the trip, the count at 0 again (R137). -/
theorem samplePair_offers (mine : pairZone s.speakers q = some z) (driven : (s.pairs.get q).driven = true)
    (asserted : flt.get q = true) (fourth : (s.pairs.get q).faults = 3) :
    ∃ u, u.pairs.get q = { s.pairs.get q with flt := flt.get q, faults := 0 } ∧ u.ms = s.ms ∧
      samplePair z flt s q = offerTrip u q .fault := by
  refine ⟨(s.updPair q fun p => { p with flt := flt.get q }).updPair q fun p => { p with faults := 0 },
    by rw [updPair_self, updPair_self], rfl, ?_⟩
  rw [samplePair_counted mine driven]
  dsimp only
  rw [if_pos asserted, if_pos (by omega)]
  rfl

/-- A trip takes a pair in NORMAL to TRIPPED (R140). -/
theorem samplePair_trips (mine : pairZone s.speakers q = some z) (driven : (s.pairs.get q).driven = true)
    (asserted : flt.get q = true) (fourth : (s.pairs.get q).faults = 3) (normal : (s.pairs.get q).state = .normal) :
    (samplePair z flt s q).pairs.get q = { (s.pairs.get q).trippedBy s.ms .fault with flt := flt.get q } ∧
      pairOff (samplePair z flt s q) q := by
  obtain ⟨u, pair, ms, offers⟩ := samplePair_offers mine driven asserted fourth
  obtain ⟨tripped, off⟩ := offerTrip_normal (s := u) (q := q) .fault (by rw [pair]; exact normal)
  rw [offers]
  refine ⟨tripped.trans ?_, off⟩
  rw [pair, ms]
  rfl

/-- A trip fails a probe (R140). -/
theorem samplePair_fails (mine : pairZone s.speakers q = some z) (driven : (s.pairs.get q).driven = true)
    (asserted : flt.get q = true) (fourth : (s.pairs.get q).faults = 3) (probe : (s.pairs.get q).state = .probe) :
    (samplePair z flt s q).pairs.get q =
      { (s.pairs.get q).failedBy s.ms .fault (min 255 ((s.pairs.get q).retries + 1)) with flt := flt.get q } ∧
      pairOff (samplePair z flt s q) q := by
  obtain ⟨u, pair, ms, offers⟩ := samplePair_offers mine driven asserted fourth
  obtain ⟨failed, off⟩ := offerTrip_probe (s := u) (q := q) .fault (by rw [pair]; exact probe)
  rw [offers]
  refine ⟨failed.trans ?_, off⟩
  rw [pair, ms]
  rfl

theorem offerTrip_flt (u : State) (cause : Cause) : ((offerTrip u q cause).pairs.get q).flt = (u.pairs.get q).flt := by
  cases e : (u.pairs.get q).state with
  | normal => rw [(offerTrip_normal cause e).1]; rfl
  | probe => rw [(offerTrip_probe cause e).1]; rfl
  | tripped => unfold offerTrip; rw [e]
  | latched => unfold offerTrip; rw [e]

/-- The level of FLT is recorded for every pair (R137). -/
theorem samplePair_flt : ((samplePair z flt s q).pairs.get q).flt = flt.get q := by
  by_cases counted : pairZone s.speakers q = some z ∧ (s.pairs.get q).driven = true
  · rw [samplePair_counted counted.1 counted.2]
    dsimp only
    split
    · split
      · unfold faultTrip
        rw [offerTrip_flt, updPair_self, updPair_self]
      · rw [updPair_self, updPair_self]
    · rw [updPair_self, updPair_self]
  · rw [samplePair_uncounted fun mine => Bool.eq_false_iff.mpr fun driven => counted ⟨mine, driven⟩]

end

/-! ## FLT sampled for all pairs -/

/-- The pairs after the sample at the end of a period (R137). -/
def State.sampled (s : State) (z : ZoneId) (flt : Vector Bool 6) : State := s.forEach pairIds (samplePair z flt)

/-- A pair's sample: its record and the levels of its channels come of its own turn. -/
theorem sampled_at (s : State) (z : ZoneId) (flt : Vector Bool 6) (q : PairId) :
    ∃ t, t.speakers = s.speakers ∧ t.ms = s.ms ∧ t.pairs.get q = s.pairs.get q ∧
      (s.sampled z flt).pairs.get q = (samplePair z flt t q).pairs.get q ∧
      (s.sampled z flt).channels.get (lowerChan q) = (samplePair z flt t q).channels.get (lowerChan q) ∧
      (s.sampled z flt).channels.get (upperChan q) = (samplePair z flt t q).channels.get (upperChan q) := by
  obtain ⟨t, ⟨speakers, ms⟩, before, after⟩ := forEach_at
    (g := fun t => (t.pairs.get q, t.channels.get (lowerChan q), t.channels.get (upperChan q)))
    (P := fun t => t.speakers = s.speakers ∧ t.ms = s.ms) (op := samplePair z flt) (i := q)
    (fun t j h => ⟨(samplePair_ofPair z flt t j).speakers.trans h.1, (samplePair_ofPair z flt t j).ms.trans h.2⟩)
    (fun t j ne => by
      have own := samplePair_ofPair z flt t j
      rw [own.pairs q (Ne.symm ne), own.others _ (by rw [pairOf_lowerChan]; exact Ne.symm ne),
        own.others _ (by rw [pairOf_upperChan]; exact Ne.symm ne)])
    pairIds_once (mem_pairIds q) (s := s) ⟨rfl, rfl⟩
  obtain ⟨pair, channels⟩ := Prod.mk.inj after
  obtain ⟨lower, upper⟩ := Prod.mk.inj channels
  exact ⟨t, speakers, ms, (Prod.mk.inj before).1, pair, lower, upper⟩

/-- The sample writes pairs and the levels of channels alone. -/
theorem sampled_kept (s : State) (z : ZoneId) (flt : Vector Bool 6) : (s.sampled z flt).speakers = s.speakers ∧
    (s.sampled z flt).zones = s.zones ∧ ∀ c, ((s.sampled z flt).channels.get c).duty = (s.channels.get c).duty ∧
      ((s.sampled z flt).channels.get c).next = (s.channels.get c).next :=
  ⟨State.forEach_field State.speakers _ (fun t q => (samplePair_ofPair z flt t q).speakers) _ s,
    State.forEach_field State.zones _ (fun t q => (samplePair_ofPair z flt t q).zones) _ s,
    fun c => ⟨State.forEach_field (fun t => (t.channels.get c).duty) _
        (fun t q => ((samplePair_ofPair z flt t q).counts c).1) _ s,
      State.forEach_field (fun t => (t.channels.get c).next) _ (fun t q => ((samplePair_ofPair z flt t q).counts c).2) _ s⟩⟩

/-! ## The boundary -/

/-- The zone's record after a carrier period boundary (R124, R129). -/
def Zone.turned (r : Zone) : Zone :=
  { r with driveNow := r.drive, period := if r.drive = .off ∨ r.frameEnds = true then 0 else r.period + 1 }

/-- The state from which the channels of the next period are presented (R127, R129). -/
def State.turned (s : State) (z : ZoneId) (flt : Vector Bool 6) : State :=
  let u := (s.sampled z flt).updZone z Zone.turned
  if (s.zones.get z).drive ≠ .off ∧ (s.zones.get z).takesDuties = true then takeDuties u z else u

theorem carrierBoundary_eq {s : State} {z : ZoneId} (flt : Vector Bool 6) (runs : (s.zones.get z).driveNow ≠ .off) :
    carrierBoundary s z flt =
      if (s.zones.get z).drive = .off then stopCarrier (s.turned z flt) z else beginPeriod (s.turned z flt) z := by
  have record : (s.sampled z flt).updZone z (fun r =>
      { r with driveNow := r.drive, period := if r.drive = .off ∨ r.frameEnds = true then 0 else r.period + 1 }) =
      (s.sampled z flt).updZone z Zone.turned := rfl
  unfold carrierBoundary State.turned
  dsimp only
  rw [if_neg runs, show s.forEach pairIds (samplePair z flt) = s.sampled z flt from rfl]
  by_cases stops : (s.zones.get z).drive = .off
  · rw [if_pos stops, if_pos stops, if_neg fun e => e.1 stops]
    rfl
  · rw [if_neg stops, if_neg stops]
    by_cases takes : (s.zones.get z).takesDuties = true
    · rw [if_pos takes, if_pos ⟨stops, takes⟩]
      rfl
    · rw [if_neg takes, if_neg fun e => takes e.2]
      rfl

theorem zoneChannels_once (spk : Vector Speaker 12) (z : ZoneId) : (zoneChannels spk z).Nodup := chanIds_once.filter _

theorem mem_zoneChannels {spk : Vector Speaker 12} {z : ZoneId} {c : Chan} :
    c ∈ zoneChannels spk z ↔ (spk.get c).zone = some z := by
  simp [zoneChannels, mem_chanIds]

/-- The waiting counts of the zone's speakers come into force (R127, R129). -/
theorem takeDuties_get (s : State) (z : ZoneId) (c : Chan) : (takeDuties s z).channels.get c =
    if (s.speakers.get c).zone = some z then { s.channels.get c with duty := (s.channels.get c).next }
    else s.channels.get c := by
  have loop := forEach_turn (g := fun t : State => t.channels.get c) (turn := fun x => { x with duty := x.next })
    (op := fun t b => t.updChannel b fun x => { x with duty := x.next }) (i := c)
    (fun t => setAt_get_self _ _ _) (fun t b ne => updChannel_other t _ ne) (zoneChannels_once s.speakers z) s
  unfold takeDuties
  simpa only [mem_zoneChannels] using loop

theorem takeDuties_kept (s : State) (z : ZoneId) : (takeDuties s z).speakers = s.speakers ∧
    (takeDuties s z).zones = s.zones ∧ (takeDuties s z).pairs = s.pairs :=
  ⟨State.forEach_field State.speakers _ (by exact fun _ _ => rfl) _ s,
    State.forEach_field State.zones _ (by exact fun _ _ => rfl) _ s,
    State.forEach_field State.pairs _ (by exact fun _ _ => rfl) _ s⟩

/-- What stands before the channels of the next period are presented (R124, R127, R129, R137). -/
theorem turned_parts (s : State) (z : ZoneId) (flt : Vector Bool 6) :
    (s.turned z flt).speakers = s.speakers ∧ (s.turned z flt).zones = setAt s.zones z (s.zones.get z).turned ∧
      (s.turned z flt).pairs = (s.sampled z flt).pairs ∧
      ∀ c, (s.turned z flt).channels.get c =
        if ((s.zones.get z).drive ≠ .off ∧ (s.zones.get z).takesDuties = true) ∧ (s.speakers.get c).zone = some z then
          { (s.sampled z flt).channels.get c with duty := ((s.sampled z flt).channels.get c).next }
        else (s.sampled z flt).channels.get c := by
  obtain ⟨speakers, zones, -⟩ := sampled_kept s z flt
  unfold State.turned
  dsimp only
  generalize s.sampled z flt = v at speakers zones ⊢
  have written : (v.updZone z Zone.turned).zones = setAt s.zones z (s.zones.get z).turned := by
    rw [← zones]
    rfl
  by_cases takes : (s.zones.get z).drive ≠ .off ∧ (s.zones.get z).takesDuties = true
  · rw [if_pos takes]
    obtain ⟨speakersKept, zonesKept, pairsKept⟩ := takeDuties_kept (v.updZone z Zone.turned) z
    refine ⟨speakersKept.trans speakers, zonesKept.trans written, pairsKept, fun c => ?_⟩
    have got := takeDuties_get (v.updZone z Zone.turned) z c
    rw [show (v.updZone z Zone.turned).speakers = s.speakers from speakers] at got
    exact got.trans (if_congr (and_iff_right takes).symm rfl rfl)
  · rw [if_neg takes]
    exact ⟨speakers, written, rfl, fun c => (if_neg fun e => takes e.1).symm⟩

/-- A carrier period boundary: what it leaves of channels, zones and pairs (R124, R127 to R129, R137). -/
theorem carrierBoundary_leaves {s : State} {z : ZoneId} (flt : Vector Bool 6) (runs : (s.zones.get z).driveNow ≠ .off) :
    SameDuties (s.turned z flt) (carrierBoundary s z flt) ∧
      (carrierBoundary s z flt).zones = (s.turned z flt).zones ∧
      (∀ c, (carrierBoundary s z flt).channels.get c =
        (s.turned z flt).presentation z c ((s.turned z flt).channels.get c)) ∧
      ∀ q, (carrierBoundary s z flt).pairs.get q =
        if pairZone s.speakers q = some z then
          if (s.zones.get z).drive = .off then ((s.sampled z flt).pairs.get q).stopped else ((s.sampled z flt).pairs.get q).begun
        else (s.sampled z flt).pairs.get q := by
  obtain ⟨speakers, -, pairs, -⟩ := turned_parts s z flt
  rw [carrierBoundary_eq flt runs]
  split
  · refine ⟨stopCarrier_duties _ z, ?_, stopCarrier_channels _ z, fun q => ?_⟩
    · unfold stopCarrier
      rw [State.forEach_field State.zones _ fun t q => by unfold stopPair; split <;> rfl,
        State.forEach_field State.zones _ (presentChannel_zones z)]
    · rw [stopCarrier_pair, speakers, pairs]
  · refine ⟨beginPeriod_duties _ z, beginPeriod_zones _ z, beginPeriod_channels _ z, fun q => ?_⟩
    rw [beginPeriod_pair, speakers, pairs]

/-! ## The duty count called for -/

section
variable {t : State} {z : ZoneId} {c : Chan}

theorem dutyFor_held (held : (t.pairs.get (pairOf c)).state.holds = true) : dutyFor t c = none := if_pos held

theorem dutyFor_stopped (zone : chanZone t.speakers c = some z) (off : (t.zones.get z).driveNow = .off) :
    dutyFor t c = none := by
  unfold dutyFor
  rw [zone]
  dsimp only
  rw [off]
  split <;> rfl

/-- A channel with a zone has an entry, or is held by the bridge of its partner (R119). -/
theorem roleOf_of_chanZone {spk : Vector Speaker 12} (zone : chanZone spk c = some z) :
    (spk.get c).zone = some z ∧ roleOf spk c = .own ∨ (spk.get c).zone = none ∧ roleOf spk c = .held (partner c) := by
  unfold chanZone at zone
  by_cases used : (spk.get c).zone.isSome = true
  · have own : roleOf spk c = .own := if_pos used
    rw [own] at zone
    exact .inl ⟨zone, own⟩
  · have empty : (spk.get c).zone = none := Option.not_isSome_iff_eq_none.mp used
    by_cases bridge : c.1 % 2 = 1 ∧ (spk.get (partner c)).zone.isSome = true ∧ (spk.get (partner c)).bridged = true
    · have holder : heldBy spk c = some (partner c) := if_pos bridge
      refine .inr ⟨empty, ?_⟩
      unfold roleOf
      rw [if_neg used, holder]
    · have holder : heldBy spk c = none := if_neg bridge
      have unused : roleOf spk c = .unused := by
        unfold roleOf
        rw [if_neg used, holder]
      rw [unused] at zone
      cases zone

theorem dutyFor_centre (zone : chanZone t.speakers c = some z) (free : (t.pairs.get (pairOf c)).state.holds = false)
    (centre : (t.zones.get z).driveNow = .centre) : dutyFor t c = some (centreDuty (t.zones.get z).resolution) := by
  unfold dutyFor
  rw [if_neg (by rw [free]; decide), zone]
  dsimp only
  rw [centre]
  rcases roleOf_of_chanZone zone with ⟨-, role⟩ | ⟨-, role⟩ <;> rw [role]

theorem dutyFor_own (zone : chanZone t.speakers c = some z) (free : (t.pairs.get (pairOf c)).state.holds = false)
    (audio : (t.zones.get z).driveNow = .audio) (own : (t.speakers.get c).zone = some z) :
    dutyFor t c = some (t.channels.get c).duty := by
  have role : roleOf t.speakers c = .own := if_pos (by rw [own]; rfl)
  unfold dutyFor
  rw [if_neg (by rw [free]; decide), zone]
  dsimp only
  rw [audio, role]

theorem dutyFor_bridged (zone : chanZone t.speakers c = some z) (free : (t.pairs.get (pairOf c)).state.holds = false)
    (audio : (t.zones.get z).driveNow = .audio) (empty : (t.speakers.get c).zone = none) :
    dutyFor t c = some (2 ^ (t.zones.get z).resolution - (t.channels.get (partner c)).duty) := by
  unfold dutyFor
  rw [if_neg (by rw [free]; decide), zone]
  dsimp only
  rw [audio]
  rcases roleOf_of_chanZone zone with ⟨used, -⟩ | ⟨-, role⟩
  · rw [used] at empty
    cases empty
  · rw [role]

end

theorem isOff_duty (x : Channel) (d : Nat) : Channel.isOff { x with duty := d } ↔ x.isOff := Iff.rfl

/-- A channel of a pair that the output stage holds stays at the off level (R130). -/
theorem presentation_isOff {s : State} {z : ZoneId} {c : Chan} {x : Channel}
    (held : (s.pairs.get (pairOf c)).state.holds = true) (off : x.isOff) : (s.presentation z c x).isOff := by
  unfold State.presentation
  rw [dutyFor_held held]
  split
  · exact Channel.off_isOff _
  · split
    · exact Channel.off_isOff _
    · exact off

/-- The channels of a pair that a trip has taken at the boundary are at the off level (R130, R140). -/
theorem carrierBoundary_pairOff {s : State} {z : ZoneId} {flt : Vector Bool 6} {q : PairId}
    (runs : (s.zones.get z).driveNow ≠ .off) (held : ((s.sampled z flt).pairs.get q).state.holds = true)
    (off : pairOff (s.sampled z flt) q) : pairOff (carrierBoundary s z flt) q := by
  obtain ⟨-, -, pairs, channels⟩ := turned_parts s z flt
  obtain ⟨-, -, presented, -⟩ := carrierBoundary_leaves flt runs
  have stays (c : Chan) (mine : pairOf c = q) (off : ((s.sampled z flt).channels.get c).isOff) :
      ((carrierBoundary s z flt).channels.get c).isOff := by
    rw [presented]
    refine presentation_isOff (by rw [pairs, mine]; exact held) ?_
    rw [channels]
    split
    · exact (isOff_duty _ _).mpr off
    · exact off
  obtain ⟨lower, upper⟩ := off
  exact ⟨stays (lowerChan q) (pairOf_lowerChan q) lower, stays (upperChan q) (pairOf_upperChan q) upper⟩

/-- A boundary that changes a pair's state sets its PAIR flag in both copies (R147). -/
theorem carrierBoundary_flag {s : State} {z : ZoneId} {flt : Vector Bool 6} {q : PairId}
    (changes : ((carrierBoundary s z flt).pairs.get q).state ≠ (s.pairs.get q).state) (k : Port) :
    ((carrierBoundary s z flt).ports.get k).flags.get (Flag.pair q).index = true := by
  refine Bool.of_not_eq_false fun lacks => changes ?_
  have same : (s.pairs.get q).report = ((carrierBoundary s z flt).pairs.get q).report :=
    (carrierBoundary_writes s z flt).flagged.same k (.pair q) lacks
  exact (congrArg (fun r => r.1.1) same).symm

/-! ## The statement's words for a boundary -/

section
variable {s : State} {z : ZoneId} (flt : Vector Bool 6) (runs : (s.zones.get z).driveNow ≠ .off)
include runs

theorem carrierBoundary_zones : (carrierBoundary s z flt).zones = setAt s.zones z (s.zones.get z).turned :=
  (carrierBoundary_leaves flt runs).2.1.trans (turned_parts s z flt).2.1

/-- The duty counts after a boundary: one that waited is in force, or the one in force stays (R127, R129). -/
theorem carrierBoundary_counts (c : Chan) :
    ((carrierBoundary s z flt).channels.get c).next = (s.channels.get c).next ∧
      ((carrierBoundary s z flt).channels.get c).duty =
        if ((s.zones.get z).drive ≠ .off ∧ (s.zones.get z).takesDuties = true) ∧ (s.speakers.get c).zone = some z then
          (s.channels.get c).next
        else (s.channels.get c).duty := by
  obtain ⟨-, -, presented, -⟩ := carrierBoundary_leaves flt runs
  obtain ⟨-, -, -, channels⟩ := turned_parts s z flt
  obtain ⟨-, -, counts⟩ := sampled_kept s z flt
  obtain ⟨duty, next⟩ := presentation_kept (s.turned z flt) z c ((s.turned z flt).channels.get c)
  obtain ⟨dutyBefore, nextBefore⟩ := counts c
  rw [presented, duty, next, channels]
  generalize (s.sampled z flt).channels.get c = x at dutyBefore nextBefore
  rw [← dutyBefore, ← nextBefore]
  split <;> exact ⟨rfl, rfl⟩

theorem carrierBoundary_shows {c : Chan} (zone : chanZone s.speakers c = some z) : (carrierBoundary s z flt).shows z c := by
  obtain ⟨same, -, presented, -⟩ := carrierBoundary_leaves flt runs
  exact shows_of_presentation same (presented c) (by rw [(turned_parts s z flt).1]; exact zone)

end

theorem turned_kept (r : Zone) : r.turned.driveNow = r.drive ∧ r.turned.resolution = r.resolution := ⟨rfl, rfl⟩

theorem turned_period {r : Zone} (runs : r.drive ≠ .off) :
    r.turned.period = if r.period + 1 < r.rate.carrierMultiple then r.period + 1 else 0 := by
  unfold Zone.turned Zone.frameEnds
  by_cases ends : r.rate.carrierMultiple ≤ r.period + 1
  · rw [if_neg (Nat.not_lt.mpr ends), decide_eq_true ends]
    exact if_pos (.inr rfl)
  · rw [if_pos (Nat.not_le.mp ends), decide_eq_false ends]
    exact if_neg fun e => e.elim runs Bool.false_ne_true

theorem takesDuties_iff (r : Zone) : r.takesDuties = true ↔
    r.rate.carrierMultiple ≤ r.period + 1 ∨ (r.driveNow = .centre ∧ r.drive = .audio) := by
  simp [Zone.takesDuties, Zone.frameEnds]

/-- What a channel that presents a duty count shows (R126). -/
theorem shows_pulse {t : State} {z : ZoneId} {c : Chan} {d w : Nat} {high : Bool} (shows : t.shows z c)
    (duty : dutyFor t c = some d) (width : w = (t.zones.get z).resolution) (polarity : high = !chanInverted t.speakers c) :
    (t.channels.get c).shown = some d ∧ (t.channels.get c).wave = .pulse high d (2 ^ w - d) := by
  obtain ⟨shown, wave⟩ := shows.2 d duty
  exact ⟨shown, by rw [wave, width, polarity]; rfl⟩

/-- The pair after a boundary, from its sample (R137). -/
theorem carrierBoundary_pair {s : State} {z : ZoneId} {flt : Vector Bool 6} {q : PairId} {x : Pair}
    (runs : (s.zones.get z).driveNow ≠ .off) (sampled : (s.sampled z flt).pairs.get q = x)
    (mine : pairZone s.speakers q = some z) : (carrierBoundary s z flt).pairs.get q =
      if (s.zones.get z).drive = .off then x.stopped else x.begun := by
  obtain ⟨-, -, -, pairs⟩ := carrierBoundary_leaves flt runs
  rw [pairs, if_pos mine, sampled]

theorem trippedBy_taken (now : Millis) (cause : Cause) (level : Bool) (p : Pair) :
    ({ p.trippedBy now cause with flt := level } : Pair).stopped = { p.trippedBy now cause with flt := level } ∧
      ({ p.trippedBy now cause with flt := level } : Pair).begun = { p.trippedBy now cause with flt := level } := ⟨rfl, rfl⟩

theorem failedBy_holds (now : Millis) (cause : Cause) (n : Nat) (p : Pair) : (p.failedBy now cause n).state.holds = true := by
  unfold Pair.failedBy
  dsimp only
  split <;> rfl

theorem failedBy_taken (now : Millis) (cause : Cause) (n : Nat) (level : Bool) (p : Pair) :
    ({ p.failedBy now cause n with flt := level } : Pair).stopped = { p.failedBy now cause n with flt := level } ∧
      ({ p.failedBy now cause n with flt := level } : Pair).begun = { p.failedBy now cause n with flt := level } := by
  refine ⟨rfl, ?_⟩
  unfold Pair.begun
  rw [show ({ p.failedBy now cause n with flt := level } : Pair).state.holds = true from failedBy_holds now cause n p]
  rfl

/-! ## The carrier that a POWER_ON starts -/

/-- What the carrier of a zone goes by in its record (R124, R129). -/
def Zone.carrier (r : Zone) : Nat × DriveMode × DriveMode × Nat := (r.resolution, r.drive, r.driveNow, r.period)

/-- What the carrier of a zone goes by, and what the channels show (R126 to R130). -/
def State.carrier (z : ZoneId) (s : State) :
    Vector Speaker 12 × (PairId → PairState) × (Chan → Option Nat) × (Nat × DriveMode × DriveMode × Nat) :=
  (s.speakers, fun q => (s.pairs.get q).state, fun c => (s.channels.get c).shown, (s.zones.get z).carrier)

theorem carrier_of_zone {s t : State} {z : ZoneId} (speakers : t.speakers = s.speakers) (pairs : t.pairs = s.pairs)
    (channels : t.channels = s.channels) (zone : (t.zones.get z).carrier = (s.zones.get z).carrier) :
    t.carrier z = s.carrier z := by
  unfold State.carrier
  rw [speakers, pairs, channels, zone]

theorem updZone_carrier (s : State) (z : ZoneId) {f : Zone → Zone} (kept : ∀ r : Zone, (f r).carrier = r.carrier) :
    (s.updZone z f).carrier z = s.carrier z :=
  carrier_of_zone rfl rfl rfl (by rw [State.updZone_get_self]; exact kept _)

theorem autoZone_carrier (s : State) (z : ZoneId) {f : Zone → Zone} (kept : ∀ r : Zone, (f r).carrier = r.carrier) :
    (s.autoZone z f).carrier z = s.carrier z := by
  obtain ⟨o, record⟩ := autoZone_record s z f
  exact carrier_of_zone rfl rfl rfl (by rw [record]; exact kept _)

theorem forEach_updChannel_carrier {z : ZoneId} {op : State → Chan → State} {f : State → Chan → Channel → Channel}
    (h : ∀ t c, op t c = t.updChannel c (f t c)) (kept : ∀ t c x, (f t c x).shown = x.shown) (cs : List Chan) (s : State) :
    (s.forEach cs op).carrier z = s.carrier z := by
  refine State.forEach_field (State.carrier z) _ (fun t c => ?_) cs s
  have shown : (fun k => ((t.updChannel c (f t c)).channels.get k).shown) = fun k => (t.channels.get k).shown := by
    funext k
    by_cases e : c = k
    · subst e
      exact (congrArg Channel.shown (setAt_get_self _ _ _)).trans (kept t c _)
    · rw [updChannel_other t _ e]
  rw [h]
  unfold State.carrier
  rw [shown]
  rfl

theorem primeDelays_carrier (s : State) (z : ZoneId) : (primeDelays s z).carrier z = s.carrier z :=
  forEach_updChannel_carrier (f := fun t c x =>
    { x with lipSection := List.replicate (((s.zones.get z).alloc.map (·.frames)).getD 0) 0
             line := List.replicate (delayFrames (t.speakers.get c).delay (s.zones.get z).rate) 0
             delay := some (delayFrames (t.speakers.get c).delay (s.zones.get z).rate) })
    (fun _ _ => rfl) (fun _ _ _ => rfl) _ s

theorem zeroDuties_carrier (s : State) (z : ZoneId) : (zeroDuties s z).carrier z = s.carrier z :=
  forEach_updChannel_carrier (f := fun _ _ x =>
    { x with duty := dutyCount (s.zones.get z).resolution (s.zones.get z).minPulse 0
             next := dutyCount (s.zones.get z).resolution (s.zones.get z).minPulse 0 })
    (fun _ _ => rfl) (fun _ _ _ => rfl) _ s

theorem rebindDecode_carrier (s : State) (z : ZoneId) (old new : Option LinkId) :
    (rebindDecode s z old new).carrier z = s.carrier z := by
  have apart (t : State) : t.sansArbiter.carrier z = t.carrier z := by
    simp [State.carrier, State.sansArbiter, Zone.carrier, Zone.sansArbiter]
  rw [← apart, rebindDecode_sansArbiter, apart]

theorem allocateZone_carrier (s : State) (z : ZoneId) : (allocateZone s z).carrier z = s.carrier z := by
  have written : (s.updZone z fun r => { r with alloc := some (s.allocation z) }).carrier z = s.carrier z :=
    updZone_carrier s z fun _ => rfl
  rw [allocateZone_eq]
  split <;> exact written

theorem bindRecord_carrier (s : State) (r : Zone) : (bindRecord s r).carrier = r.carrier := by
  have clock (link : Option Link) (x : Zone) : (bindClock link x).carrier = x.carrier := by
    unfold bindClock
    split <;> rfl
  have copied : (takeCopy s.sources r).carrier = r.carrier := rfl
  unfold bindRecord
  dsimp only
  split
  · exact (clock _ _).trans copied
  · exact (clock _ _).trans copied

/-- A binding leaves the carrier as it is up to its carrier step (R66, R124). -/
theorem bindingPrimed_carrier (s : State) (z : ZoneId) :
    (primeDelays (bindingEntered (bindingPlaced s z false) z) z).carrier z = s.carrier z := by
  have taken : (bindingTaken s z false).carrier z = s.carrier z := by
    rw [bindingTaken_eq, autoZone_carrier _ z (bindRecord_carrier _)]
    exact autoZone_carrier s z fun _ => rfl
  have entered (t : State) : (bindingEntered t z).carrier z = t.carrier z := by
    rw [bindingEntered_eq]
    exact (autoZone_carrier (allocateZone t z) z
      (f := fun r => r.enterPath (allocateZone t z).speakers z (bindVals (allocateZone t z) r)) fun _ => rfl).trans
      (allocateZone_carrier t z)
  rw [primeDelays_carrier, entered]
  exact (rebindDecode_carrier _ z _ _).trans taken

theorem bindCountdown_carrier (s : State) (z : ZoneId) : (bindCountdown s z).carrier z = s.carrier z := by
  unfold bindCountdown startCountdown
  exact (updZone_carrier _ z fun _ => by split <;> rfl).trans (updZone_carrier s z fun _ => by split <;> rfl)

theorem raise_carrier (s : State) (z : ZoneId) (f : Flag) : (s.raise f).carrier z = s.carrier z := rfl

/-- A carrier that runs in CENTRE from the start of an output frame, with every channel of the zone at the centre duty that is
not held, speakers, holds and resolution being those of `s` (R124, R128, R130). -/
structure Centred (s : State) (z : ZoneId) (t : State) : Prop where
  speakers : t.speakers = s.speakers
  pairs : ∀ q, (t.pairs.get q).state = (s.pairs.get q).state
  width : (t.zones.get z).resolution = (s.zones.get z).resolution
  handed : (t.zones.get z).drive = .centre
  now : (t.zones.get z).driveNow = .centre
  period : (t.zones.get z).period = 0
  shown : ∀ c, chanZone s.speakers c = some z → (s.pairs.get (pairOf c)).state.holds = false →
    (t.channels.get c).shown = some (centreDuty (s.zones.get z).resolution)

theorem Centred.congr {s t u : State} {z : ZoneId} (h : Centred s z t) (k : u.carrier z = t.carrier z) : Centred s z u := by
  obtain ⟨speakers, states, shown, zone⟩ : u.speakers = t.speakers ∧
      (fun q => (u.pairs.get q).state) = (fun q => (t.pairs.get q).state) ∧
      (fun c => (u.channels.get c).shown) = (fun c => (t.channels.get c).shown) ∧
      (u.zones.get z).carrier = (t.zones.get z).carrier := by simpa only [State.carrier, Prod.mk.injEq] using k
  simp only [Zone.carrier, Prod.mk.injEq] at zone
  obtain ⟨width, handed, now, period⟩ := zone
  exact ⟨speakers.trans h.speakers, fun q => (congrFun states q).trans (h.pairs q), width.trans h.width, handed.trans h.handed,
    now.trans h.now, period.trans h.period, fun c mine free => (congrFun shown c).trans (h.shown c mine free)⟩

/-- A new output frame in CENTRE (R124, R128). -/
theorem beginFrame_centred {s t : State} {z : ZoneId} (speakers : t.speakers = s.speakers)
    (pairs : ∀ q, (t.pairs.get q).state = (s.pairs.get q).state)
    (width : (t.zones.get z).resolution = (s.zones.get z).resolution) (handed : (t.zones.get z).drive = .centre) :
    Centred s z (beginFrame t z .centre) := by
  have zone : (beginFrame t z .centre).zones.get z = { t.zones.get z with driveNow := .centre, period := 0 } := by
    rw [beginFrame_zones, State.updZone_get_self]
  have same : SameDuties (t.updZone z fun r => { r with driveNow := .centre, period := 0 }) (beginFrame t z .centre) :=
    beginPeriod_duties _ z
  have presented (c : Chan) : (beginFrame t z .centre).channels.get c =
      (t.updZone z fun r => { r with driveNow := .centre, period := 0 }).presentation z c (t.channels.get c) :=
    beginPeriod_channels _ z c
  have states (q : PairId) : ((beginFrame t z .centre).pairs.get q).state = (s.pairs.get q).state :=
    (same.pairs q).trans (pairs q)
  have spk : (beginFrame t z .centre).speakers = s.speakers := same.speakers.trans speakers
  refine ⟨spk, states, by rw [zone]; exact width, by rw [zone]; exact handed, by rw [zone], by rw [zone], fun c mine free => ?_⟩
  have shows : (beginFrame t z .centre).shows z c := shows_of_presentation same (presented c) (by
    rw [← speakers] at mine
    exact mine)
  rw [← spk] at mine
  rw [← states] at free
  have duty := dutyFor_centre mine free (by rw [zone])
  rw [(shows.2 _ duty).1, zone, ← width]

/-- A drive mode handed to a carrier that stands still starts it (R129). -/
theorem handDrive_centred {s : State} {z : ZoneId} (still : (s.zones.get z).driveNow = .off) :
    Centred s z (handDrive s z .centre) := by
  have record : (s.updZone z fun r => { r with drive := .centre }).zones.get z = { s.zones.get z with drive := .centre } :=
    State.updZone_get_self s z _
  unfold handDrive
  dsimp only
  rw [if_pos ⟨decide_eq_true still, by decide⟩]
  exact beginFrame_centred rfl (fun _ => rfl) (by rw [record]) (by rw [record])

/-- A binding restarts a carrier in CENTRE in CENTRE, or leaves it (R124). -/
theorem bindZone_centred {s t : State} {z : ZoneId} (h : Centred s z t) : Centred s z (bindZone t z false) := by
  have primed := h.congr (bindingPrimed_carrier t z)
  have carried : Centred s z (bindingCarried t z false) := by
    unfold bindingCarried bindCarrier
    generalize primeDelays (bindingEntered (bindingPlaced t z false) z) z = u at primed ⊢
    have zeroed := primed.congr (zeroDuties_carrier u z)
    split
    · rw [if_neg (by rw [primed.now]; decide)]
      exact zeroed
    · have off : ¬ (((zeroDuties u z).zones.get z).driveNow = .off ∨ ((zeroDuties u z).zones.get z).drive = .off) := by
        rw [zeroed.now, zeroed.handed]
        decide
      unfold restartCarrier
      dsimp only
      rw [if_neg off, zeroed.handed]
      exact beginFrame_centred zeroed.speakers zeroed.pairs zeroed.width zeroed.handed
  rw [bindZone_eq_carried]
  exact carried.congr ((raise_carrier _ z _).trans (bindCountdown_carrier _ z))

/-- A POWER_ON out of a stopped carrier (R60, R129). -/
theorem powerUpZone_centred {s : State} {z : ZoneId} (still : (s.zones.get z).driveNow = .off) :
    Centred s z (powerUpZone s z) := by
  rw [powerUpZone_eq]
  exact (bindZone_centred (handDrive_centred still)).congr (autoZone_carrier _ z fun _ => rfl)

/-- POWER_ON as a request for one zone: what its taking leaves of zones and channels (R60, R192). -/
theorem powerOn_channels {s : State} {p : Port} {tag zb : Byte} {z : ZoneId} (ready : Ready s p) (index : zb.toNat = z.1) :
    ∃ t, exec (.powerOn p tag [zb]) s = .next t ∧ t.zones = (powerOn (s.taking p [zb].length) z (portOrigin p)).1.zones ∧
      t.channels = (powerOn (s.taking p [zb].length) z (portOrigin p)).1.channels :=
  ⟨_, congrArg Host.Outcome.next (serve_eq ready one_le (oneIndex_in_range _ _ index)), rfl, rfl⟩

/-- Settles O36. A boundary presents every channel of the zone from the pairs that the sample leaves (`carrierBoundary_leaves`),
each pair being sampled in its own turn (`sampled_at`). -/
theorem carrierBoundaryEffect : Obligations.CarrierBoundaryEffect := by
  unfold Obligations.CarrierBoundaryEffect
  refine ⟨fun s z flt runs => ⟨carrierBoundary s z flt, rfl, ?_⟩,
    fun s z flt q x runs before => ⟨carrierBoundary s z flt, rfl, ?_⟩, ?_⟩
  · have frame := carrierBoundary_frame s z flt
    have zones := carrierBoundary_zones flt runs
    have zone : (carrierBoundary s z flt).zones.get z = (s.zones.get z).turned := by rw [zones, setAt_get_self]
    obtain ⟨now, width⟩ := turned_kept (s.zones.get z)
    rw [← zone] at now width
    obtain ⟨-, -, -, speakers, -⟩ := id frame
    refine ⟨now, fun drives => by rw [zone]; exact turned_period drives, fun c own => ?_, fun c mine held => ?_,
      fun c w high mine free hw hhigh => ?_, fun y ne => ?_, frame⟩
    · obtain ⟨next, duty⟩ := carrierBoundary_counts flt runs c
      refine ⟨next, fun drives takes => duty.trans (if_pos ⟨⟨drives, (takesDuties_iff _).mpr takes⟩, own⟩),
        fun within steady => duty.trans (if_neg fun takes => ?_)⟩
      rcases (takesDuties_iff _).mp takes.1.2 with ends | ⟨centre, audio⟩
      · exact absurd within (Nat.not_lt.mpr ends)
      · rw [← steady, audio] at centre
        cases centre
    · exact (carrierBoundary_shows flt runs mine).1 (dutyFor_held held)
    · have shows := carrierBoundary_shows flt runs mine
      rw [← speakers] at mine hhigh ⊢
      rw [← width] at hw
      refine ⟨fun off => shows.1 (dutyFor_stopped mine (now.trans off)), fun centre => ?_, fun audio own => ?_,
        fun d audio empty hd => ?_⟩
      · have duty := dutyFor_centre mine free (now.trans centre)
        rw [← hw] at duty
        exact shows_pulse shows duty hw hhigh
      · exact shows_pulse shows (dutyFor_own mine free (now.trans audio) own) hw hhigh
      · have duty := dutyFor_bridged mine free (now.trans audio) empty
        rw [← hw, ← hd] at duty
        exact shows_pulse shows duty hw hhigh
    · rw [zones]
      exact setAt_get_of_ne _ _ (Ne.symm ne)
  · subst before
    obtain ⟨u, speakers, ms, same, pair, lower, upper⟩ := sampled_at s z flt q
    have level : ((s.sampled z flt).pairs.get q).flt = flt.get q := by rw [pair]; exact samplePair_flt
    obtain ⟨-, -, -, pairs⟩ := carrierBoundary_leaves flt runs
    have off (held : ((samplePair z flt u q).pairs.get q).state.holds = true) (both : pairOff (samplePair z flt u q) q) :
        pairOff (carrierBoundary s z flt) q := by
      unfold pairOff at both
      rw [← lower, ← upper] at both
      exact carrierBoundary_pairOff runs (by rw [pair]; exact held) both
    rw [← speakers, ← same, ← ms]
    refine ⟨?_, fun other => ?_, fun mine stops => ?_, fun mine drives => ⟨fun idle => ?_, fun driven clear => ?_,
      fun driven asserted few => ?_⟩, fun mine driven asserted fourth => ⟨fun normal => ?_, fun n probe hn => ?_⟩⟩
    · rw [pairs]
      generalize (s.sampled z flt).pairs.get q = y at level
      split
      · split <;> exact level
      · exact level
    · rw [pairs, ← speakers, if_neg other, pair, samplePair_uncounted fun mine => absurd mine other]
    · rw [carrierBoundary_pair runs rfl (by rw [← speakers]; exact mine), if_pos stops]
      exact ⟨rfl, rfl⟩
    · have sampled := pair.trans (samplePair_uncounted fun _ => idle)
      rw [carrierBoundary_pair runs sampled (by rw [← speakers]; exact mine), if_neg drives]
      rfl
    · have sampled := pair.trans (samplePair_clears mine driven clear)
      rw [carrierBoundary_pair runs sampled (by rw [← speakers]; exact mine), if_neg drives]
      rfl
    · have sampled := pair.trans (samplePair_counts mine driven asserted few)
      rw [carrierBoundary_pair runs sampled (by rw [← speakers]; exact mine), if_neg drives]
      rfl
    · obtain ⟨turn, both⟩ := samplePair_trips mine driven asserted fourth normal
      obtain ⟨stopped, begun⟩ := trippedBy_taken u.ms .fault (flt.get q) (u.pairs.get q)
      have after : (carrierBoundary s z flt).pairs.get q =
          { (u.pairs.get q).trippedBy u.ms .fault with flt := flt.get q } := by
        rw [carrierBoundary_pair runs (pair.trans turn) (by rw [← speakers]; exact mine), stopped, begun, ite_self]
      refine ⟨after, off (by rw [turn]; rfl) both, carrierBoundary_flag ?_⟩
      rw [after, ← same, normal]
      exact nofun
    · obtain ⟨turn, both⟩ := samplePair_fails mine driven asserted fourth probe
      rw [← hn] at turn
      obtain ⟨stopped, begun⟩ := failedBy_taken u.ms .fault n (flt.get q) (u.pairs.get q)
      refine ⟨?_, off (by rw [turn]; exact failedBy_holds u.ms .fault n (u.pairs.get q)) both⟩
      rw [carrierBoundary_pair runs (pair.trans turn) (by rw [← speakers]; exact mine), stopped, begun, ite_self]
      rfl
  · intro s p tag zb z ready index standby still
    obtain ⟨t, step, zones, channels⟩ := powerOn_channels (tag := tag) ready index
    rw [powerOn_standby (s := s.taking p [zb].length) standby] at zones channels
    have centred := (powerUpZone_centred (s := s.taking p [zb].length) still).congr
      (updZone_carrier _ z (f := fun r => { r with lastChanged := portOrigin p }) fun _ => rfl)
    refine ⟨t, step, ?_⟩
    rw [zones, channels]
    exact ⟨centred.now, centred.period, centred.shown⟩

end Sys2Proof.Machine
end
